-- ==== Sys2Proof/Word.lean ====
section
/-! DEFINITION. The word types: the manual's one-, two- and four-byte values (08 R164). -/

namespace Sys2Proof

/-- One byte of a frame. -/
abbrev Byte := BitVec 8

/-- A two-byte value: frame, report and record numbers, crew tags, magnitudes on the line. -/
abbrev Half := BitVec 16

/-- A four-byte value: field values, time tags, operation counts. -/
abbrev Word := BitVec 32

end Sys2Proof
end

