-- ==== Sys2Proof/Config.lean ====
section
/-! DEFINITION. What the manual leaves open as a VALUE: constants with no body, so that no proof can see what they are. -/

namespace Sys2Proof

/-- FREE VALUE (log 3): the picks that order timer expiries falling on one millisecond. The manual says of each such
pair that it meets one of two orders, and does not say which (R28, R55, R73 and others). -/
opaque Config.dueOrder : Nat → Nat

/-- FREE VALUE (log 6): the base count one millisecond after its largest 48-bit value (R179 gives the width and no
wrap). -/
opaque Config.baseCountPastEnd : Nat → BitVec 48

/-- FREE VALUE (log 21): a byte of a result whose layout has a place for something that is absent, and does not say what
is sent there (BATTERY_READ with no test, no test record or no retry wait; HOLD_LIST with no close record). -/
opaque Config.absentByte : Nat → BitVec 8

/-- FREE VALUE (log 25): the clearing time, in milliseconds, of a TRIP for which the manual gives none (R129, R64). -/
opaque Config.absentClearing : Nat → Nat

end Sys2Proof
end

