-- ==== Sys2Proof/Syntax.lean ====
section
/-! DEFINITION. The commands: one constructor per row of spec/opcode_table.json, in the table's order, each with the
operands that its frame (08, frame layouts) or its event brings (log 8). -/

namespace Sys2Proof

/-- The two ports that hold a command context (R165). -/
inductive PortId where
  | radio
  | crew
deriving DecidableEq, Repr

/-- The three serial ports (R149). -/
inductive RunPort where
  | tank
  | radio
  | crew
deriving DecidableEq, Repr

/-- The three poles. -/
inductive Pole where
  | a
  | b
  | c
deriving DecidableEq, Repr

/-- The four current channels; G is the residual ground current. -/
inductive Channel where
  | a
  | b
  | c
  | g
deriving DecidableEq, Repr

/-- One thing for each pole (also for each source-side voltage). -/
structure PerPole (α : Type) where
  a : α
  b : α
  c : α
deriving DecidableEq, Repr

/-- One thing for each current channel. -/
structure PerChannel (α : Type) where
  a : α
  b : α
  c : α
  g : α
deriving DecidableEq, Repr

/-- One thing for each maskable input, in INPUT_MASK order (08, code 21). -/
structure PerMask (α : Type) where
  holdLever : α
  manualTrip : α
  door : α
  acPresent : α
  crewPresent : α
  radioReady : α
deriving DecidableEq, Repr

/-- The auxiliary contact pair of one pole: "a" active when closed, "b" active when open (R69). -/
structure Contacts (α : Type) where
  a : α
  b : α
deriving DecidableEq, Repr

/-- One thing for each of the twelve inputs (R181). -/
structure Inputs (α : Type) where
  aux : PerPole (Contacts α)
  cabinet : PerMask α
deriving DecidableEq, Repr

/-- One thing for each of the four user flags (R54). -/
structure PerFlag (α : Type) where
  f0 : α
  f1 : α
  f2 : α
  f3 : α
deriving DecidableEq, Repr

/-- A sample's mark in a MEASURE frame (08, MEASURE payload): codes 0, 1, 2. -/
inductive Mark where
  | valid
  | overrange
  | invalid
deriving DecidableEq, Repr

/-- One measured value with its mark. -/
structure Sample where
  value : Half
  mark : Mark
deriving DecidableEq, Repr

/-- One pair of a TABLE_LOAD: a field number and a value (R14). -/
structure FieldPair where
  field : Byte
  value : Word
deriving DecidableEq, Repr

/-- The commands of the block. `port` and `number` of a COMMAND frame are the port it came from and its frame
number; arguments stand as the frame carries them, unjudged (R166). -/
inductive Instr where
  /-- POWER_ON (R187). -/
  | powerOn
  /-- MEASURE (R31): frame number, currents, voltages. -/
  | measure (number : Half) (currents : PerChannel Sample) (voltages : PerPole Sample)
  /-- RELAY_REPLY (R156): its first payload byte names the return port. -/
  | relayReply (number : Half) (payload : List Byte)
  /-- RELAY (R154): its first payload byte is the service code. -/
  | relay (port : PortId) (number : Half) (payload : List Byte)
  /-- REPORT_ACK (R143): the report number acknowledged. -/
  | reportAck (number : Half)
  /-- RUN_DISCARDED (R150): the bytes of a received run. -/
  | runDiscarded (port : RunPort) (run : List Byte)
  /-- BAD_COMMAND (R166): the payload of a COMMAND frame. -/
  | badCommand (port : PortId) (number : Half) (payload : List Byte)
  /-- STATUS (R176). -/
  | status (port : PortId) (number : Half)
  /-- EVENTS_READ (R178). -/
  | eventsRead (port : PortId) (number : Half)
  /-- TABLE_LOAD (R14). -/
  | tableLoad (port : PortId) (number : Half) (table record : Byte) (pairs : List FieldPair)
  /-- TABLE_READ (R15). -/
  | tableRead (port : PortId) (number : Half) (bank table record first last : Byte)
  /-- BANK_COPY (R16). -/
  | bankCopy (port : PortId) (number : Half)
  /-- BANK_SWAP (R18). -/
  | bankSwap (port : PortId) (number : Half)
  /-- BANK_RELEASE (R17). -/
  | bankRelease (port : PortId) (number : Half)
  /-- TRIP (R60). -/
  | trip (port : PortId) (number : Half) (mask : Byte)
  /-- CLOSE (R100). -/
  | close (port : PortId) (number : Half) (mask : Byte)
  /-- ABORT (R171). -/
  | abort (port : PortId) (number : Half)
  /-- HOLD_SET (R91). -/
  | holdSet (port : PortId) (number : Half) (tag : Half) (scope profile : Byte)
  /-- HOLD_CLEAR (R92). -/
  | holdClear (port : PortId) (number : Half) (tag : Half)
  /-- HOLD_LIST (R98). -/
  | holdList (port : PortId) (number : Half)
  /-- FLAGS (R54): four actions, flags 0 to 3. -/
  | flags (port : PortId) (number : Half) (actions : PerFlag Byte)
  /-- FAULT_READ (R67). -/
  | faultRead (port : PortId) (number : Half) (mode : Byte) (value : Half)
  /-- EXCEPTION_READ (R44). -/
  | exceptionRead (port : PortId) (number : Half)
  /-- BATTERY_READ (R123). -/
  | batteryRead (port : PortId) (number : Half)
  /-- BATTERY_TEST (R122). -/
  | batteryTest (port : PortId) (number : Half)
  /-- MECH_RESET (R80). -/
  | mechReset (port : PortId) (number : Half)
  /-- TIME_SET (R180). -/
  | timeSet (port : PortId) (number : Half) (tag : Word)
  /-- INPUT_MASK (R184): six actions. -/
  | inputMask (port : PortId) (number : Half) (actions : PerMask Byte)
  /-- RESTART (R191, R192). -/
  | restart (port : PortId) (number : Half)
  /-- AUX_CHANGE (R69): the accepted levels of the contacts that changed. -/
  | auxChange (pole : Pole) (levels : Contacts (Option Bool))
  /-- HOLD_LEVER_CHANGE (R95). -/
  | holdLeverChange (level : Bool)
  /-- MANUAL_TRIP_CHANGE (R88). -/
  | manualTripChange (level : Bool)
  /-- DOOR_OPEN (R183): the accepted change of DOOR to active. -/
  | doorOpen
  /-- AC_PRESENT_CHANGE (R110). -/
  | acPresentChange (level : Bool)
  /-- CREW_PRESENT_CHANGE (R173). -/
  | crewPresentChange (level : Bool)
  /-- RADIO_READY_CHANGE (R144). -/
  | radioReadyChange (level : Bool)
  /-- CABINET_READING (R108): mV, mA, tenths of a volt, degrees Celsius, as the monitor gives them. -/
  | cabinetReading (voltage current : Int) (store : Half) (temperature : Int)
  /-- DEAD_TIMER_EXPIRY (R57). -/
  | deadTimerExpiry
  /-- RECLAIM_TIMER_EXPIRY (R59). -/
  | reclaimTimerExpiry
  /-- WARNING_TIMER_EXPIRY (R101). -/
  | warningTimerExpiry
  /-- LINK_TIMER_EXPIRY (R27). -/
  | linkTimerExpiry
  /-- OWNERSHIP_TIMER_EXPIRY (R13). -/
  | ownershipTimerExpiry
  /-- TRIP_PULSE_END (R73). -/
  | tripPulseEnd (pole : Pole)
  /-- TRIP_WINDOW_EXPIRY (R74). -/
  | tripWindowExpiry (pole : Pole)
  /-- GAP_TIMER_EXPIRY (R74). -/
  | gapTimerExpiry (pole : Pole)
  /-- CLOSE_PULSE_END (R77). -/
  | closePulseEnd (pole : Pole)
  /-- CLOSE_WINDOW_EXPIRY (R77). -/
  | closeWindowExpiry (pole : Pole)
  /-- STORE_WRITE_COMPLETE (R22). -/
  | storeWriteComplete
  /-- ACK_TIMER_EXPIRY (R141). -/
  | ackTimerExpiry
  /-- HOLDOFF_TIMER_EXPIRY (R142). -/
  | holdoffTimerExpiry
  /-- REFILL_TIMER_EXPIRY (R146). -/
  | refillTimerExpiry
  /-- PERIODIC_TIMER_EXPIRY (R147). -/
  | periodicTimerExpiry
  /-- DURATION_TIMER_EXPIRY (R119). -/
  | durationTimerExpiry
  /-- NEXT_TEST_DUE (R116). -/
  | nextTestDue
  /-- RETRY_WAIT_EXPIRY (R116). -/
  | retryWaitExpiry
  /-- FAULT_CLEAR_TIMER_EXPIRY (R112). -/
  | faultClearTimerExpiry
  /-- SHUTDOWN_TIMER_EXPIRY (R125). -/
  | shutdownTimerExpiry
  /-- ALARM_END (R186). -/
  | alarmEnd
  /-- WARNING_REQUEST_END (R186). -/
  | warningRequestEnd
  /-- TANK_TX_END (R155). -/
  | tankTxEnd
  /-- RADIO_TX_END (R157). -/
  | radioTxEnd
  /-- CREW_TX_END (R161). -/
  | crewTxEnd
  /-- LINE_SAMPLE (R181): the twelve levels read together. -/
  | lineSample (levels : Inputs Bool)
  /-- POWER_LOSS (R21). -/
  | powerLoss
deriving DecidableEq, Repr

end Sys2Proof
end

