-- ==== Sys2Proof/Decode.lean ====
section
/-! DEFINITION. The received run (R150, R151) and the COMMAND payload (R166) read into a command, total on any bytes;
the frame written into bytes; the byte helpers and the check of 08 (frame layouts). The table of operations gives no
row any bits, so `decodeTableWord` reads none. -/

namespace Sys2Proof

/-- No row of spec/opcode_table.json gives bits (its "fields" are empty and it has no "fixed"): no word spells a
command (log 33). -/
def decodeTableWord (_nbits _w : Nat) : Option Instr := none

/-! ## Bytes, most significant first (08) -/

/-- A two-byte value on the line. -/
def be16 (v : Half) : List Byte := [v.extractLsb' 8 8, v.extractLsb' 0 8]

/-- A four-byte value on the line. -/
def be32 (v : Word) : List Byte :=
  [v.extractLsb' 24 8, v.extractLsb' 16 8, v.extractLsb' 8 8, v.extractLsb' 0 8]

/-- Two bytes read as one value. -/
def half (hi lo : Byte) : Half := hi ++ lo

/-- Four bytes read as one value. -/
def word (b3 b2 b1 b0 : Byte) : Word := b3 ++ b2 ++ b1 ++ b0

/-! ## The check (08, frame header and check): x^16 + x^12 + x^5 + 1, preset to ones, msb first, no inversion -/

/-- One bit of the cyclic remainder. -/
def crcBit (r : Half) : Half := if r.msb then (r <<< 1) ^^^ 0x1021#16 else r <<< 1

/-- One byte of the cyclic remainder. -/
def crcByte (r : Half) (b : Byte) : Half :=
  crcBit (crcBit (crcBit (crcBit (crcBit (crcBit (crcBit (crcBit (r ^^^ (b ++ 0#8)))))))))

/-- The CRC-16 of a run of bytes. -/
def crc16 (bytes : List Byte) : Half := bytes.foldl crcByte 0xFFFF#16

/-! ## The frame -/

/-- A frame as it stands on the line, its check left off (08, frame header). -/
structure RawFrame where
  destination : Byte
  kind : Byte
  number : Half
  flags : Byte
  payload : List Byte
deriving DecidableEq, Repr

/-- The bytes of a frame before its check. -/
def RawFrame.body (f : RawFrame) : List Byte :=
  [f.destination, f.kind] ++ be16 f.number ++ [f.flags, BitVec.ofNat 8 f.payload.length] ++ f.payload

/-- The bytes of a frame, check included: the check of all the bytes before it (R150, R162; log 44 against the header
table). -/
def RawFrame.bytes (f : RawFrame) : List Byte := f.body ++ be16 (crc16 f.body)

/-- The frame in a received run: length 8 to 56, check of all the bytes before it (log 44), length field, known
destination and kind (R150). -/
def parseRun (run : List Byte) : Option RawFrame :=
  if run.length < 8 ∨ 56 < run.length then none
  else if run.drop (run.length - 2) ≠ be16 (crc16 (run.take (run.length - 2))) then none
  else
    match run with
    | d :: k :: n1 :: n0 :: fl :: len :: rest =>
      if 48 < len.toNat ∨ len.toNat + 8 ≠ run.length then none
      else if 3 < d.toNat ∨ 7 < k.toNat then none
      else some { destination := d, kind := k, number := half n1 n0, flags := fl,
                  payload := rest.take (rest.length - 2) }
    | _ => none

/-- A mark code, at a bit place of a marks byte; 3 is malformed (08, MEASURE payload). -/
def markAt (v : Byte) (place : Nat) : Option Mark :=
  match (v.extractLsb' place 2).toNat with
  | 0 => some .valid
  | 1 => some .overrange
  | 2 => some .invalid
  | _ => none

/-- A MEASURE payload (08); bits 1..0 of the voltage marks are not judged. -/
def parseMeasure (number : Half) (payload : List Byte) : Option Instr :=
  match payload with
  | [a1, a0, b1, b0, c1, c0, g1, g0, cm, u1, u0, v1, v0, w1, w0, vm] =>
    match markAt cm 6, markAt cm 4, markAt cm 2, markAt cm 0, markAt vm 6, markAt vm 4, markAt vm 2 with
    | some ma, some mb, some mc, some mg, some mu, some mv, some mw =>
      some (.measure number
        { a := ⟨half a1 a0, ma⟩, b := ⟨half b1 b0, mb⟩, c := ⟨half c1 c0, mc⟩, g := ⟨half g1 g0, mg⟩ }
        { a := ⟨half u1 u0, mu⟩, b := ⟨half v1 v0, mv⟩, c := ⟨half w1 w0, mw⟩ })
    | _, _, _, _, _, _, _ => none
  | _ => none

/-- The pairs of a TABLE_LOAD: whole groups of five bytes, or none. -/
def parsePairs : List Byte → Option (List FieldPair)
  | [] => some []
  | f :: v3 :: v2 :: v1 :: v0 :: rest =>
    (parsePairs rest).map fun ps => ⟨f, word v3 v2 v1 v0⟩ :: ps
  | _ => none

/-- The command a COMMAND payload spells: R166 step 1, with the codes and lengths of 08. -/
def parseCommand (port : PortId) (number : Half) (payload : List Byte) : Option Instr :=
  match payload with
  | [] => none
  | code :: args =>
    match code.toNat, args with
    | 1, [] => some (.status port number)
    | 2, [] => some (.eventsRead port number)
    | 3, t :: r :: rest =>
      match parsePairs rest with
      | some (p :: ps) => if ps.length ≤ 8 then some (.tableLoad port number t r (p :: ps)) else none
      | _ => none
    | 4, [b, t, r, f, l] => some (.tableRead port number b t r f l)
    | 5, [] => some (.bankCopy port number)
    | 6, [] => some (.bankSwap port number)
    | 7, [] => some (.bankRelease port number)
    | 8, [m] => some (.trip port number m)
    | 9, [m] => some (.close port number m)
    | 10, [] => some (.abort port number)
    | 11, [t1, t0, sc, p] => some (.holdSet port number (half t1 t0) sc p)
    | 12, [t1, t0] => some (.holdClear port number (half t1 t0))
    | 13, [] => some (.holdList port number)
    | 14, [a0, a1, a2, a3] => some (.flags port number ⟨a0, a1, a2, a3⟩)
    | 15, [m, v1, v0] => some (.faultRead port number m (half v1 v0))
    | 16, [] => some (.exceptionRead port number)
    | 17, [] => some (.batteryRead port number)
    | 18, [] => some (.batteryTest port number)
    | 19, [] => some (.mechReset port number)
    | 20, [t3, t2, t1, t0] => some (.timeSet port number (word t3 t2 t1 t0))
    | 21, [m0, m1, m2, m3, m4, m5] => some (.inputMask port number ⟨m0, m1, m2, m3, m4, m5⟩)
    | 22, [] => some (.restart port number)
    | _, _ => none

/-- A COMMAND frame is handed on whatever its length; one that spells no command is a bad command (R151, R166). -/
def decodeCommand (port : PortId) (number : Half) (payload : List Byte) : Instr :=
  (parseCommand port number payload).getD (.badCommand port number payload)

/-- What an accepted frame is, by port, kind and destination (R151), with the malformed frames of R150 left out. -/
def decodeFrame (port : RunPort) (f : RawFrame) : Option Instr :=
  match port, f.kind.toNat, f.destination.toNat with
  | .tank, 0, 0 => parseMeasure f.number f.payload
  | .tank, 2, 0 =>
    match f.payload with
    | ret :: _ => if ret.toNat ≤ 1 then some (.relayReply f.number f.payload) else none
    | [] => none
  | .radio, 3, 0 => some (decodeCommand .radio f.number f.payload)
  | .radio, 6, 0 => if f.payload = [] then some (.reportAck f.number) else none
  | .radio, 1, 1 => some (.relay .radio f.number f.payload)
  | .crew, 3, 0 => some (decodeCommand .crew f.number f.payload)
  | .crew, 1, 1 => some (.relay .crew f.number f.payload)
  | _, _, _ => none

/-- What a received run is on a port that takes frames in: the command of an accepted frame, or none for a run that
R150 discards. -/
def decodeRun (port : RunPort) (run : List Byte) : Option Instr :=
  match parseRun run with
  | some f => decodeFrame port f
  | none => none

/-! ## The frame that carries a command -/

/-- The port a command context's frames arrive on. -/
def PortId.run : PortId → RunPort
  | .radio => .radio
  | .crew => .crew

/-- A mark's code. -/
def Mark.code : Mark → BitVec 2
  | .valid => 0
  | .overrange => 1
  | .invalid => 2

/-- A MEASURE payload. -/
def measurePayload (i : PerChannel Sample) (v : PerPole Sample) : List Byte :=
  be16 i.a.value ++ be16 i.b.value ++ be16 i.c.value ++ be16 i.g.value ++
  [i.a.mark.code ++ i.b.mark.code ++ i.c.mark.code ++ i.g.mark.code] ++
  be16 v.a.value ++ be16 v.b.value ++ be16 v.c.value ++
  [v.a.mark.code ++ v.b.mark.code ++ v.c.mark.code ++ 0#2]

/-- The bytes of one TABLE_LOAD pair. -/
def FieldPair.bytes (p : FieldPair) : List Byte := p.field :: be32 p.value

/-- The payload of a COMMAND frame (08, COMMAND payload); none for what is no COMMAND frame. -/
def commandPayload : Instr → Option (PortId × Half × List Byte)
  | .badCommand p n payload => some (p, n, payload)
  | .status p n => some (p, n, [1])
  | .eventsRead p n => some (p, n, [2])
  | .tableLoad p n t r pairs => some (p, n, [3, t, r] ++ pairs.flatMap FieldPair.bytes)
  | .tableRead p n b t r f l => some (p, n, [4, b, t, r, f, l])
  | .bankCopy p n => some (p, n, [5])
  | .bankSwap p n => some (p, n, [6])
  | .bankRelease p n => some (p, n, [7])
  | .trip p n m => some (p, n, [8, m])
  | .close p n m => some (p, n, [9, m])
  | .abort p n => some (p, n, [10])
  | .holdSet p n t s f => some (p, n, [11] ++ be16 t ++ [s, f])
  | .holdClear p n t => some (p, n, [12] ++ be16 t)
  | .holdList p n => some (p, n, [13])
  | .flags p n a => some (p, n, [14, a.f0, a.f1, a.f2, a.f3])
  | .faultRead p n m v => some (p, n, [15, m] ++ be16 v)
  | .exceptionRead p n => some (p, n, [16])
  | .batteryRead p n => some (p, n, [17])
  | .batteryTest p n => some (p, n, [18])
  | .mechReset p n => some (p, n, [19])
  | .timeSet p n t => some (p, n, [20] ++ be32 t)
  | .inputMask p n a =>
    some (p, n, [21, a.holdLever, a.manualTrip, a.door, a.acPresent, a.crewPresent, a.radioReady])
  | .restart p n => some (p, n, [22])
  | _ => none

/-- The frame that carries a command, and the port it arrives on; none for what no frame carries. -/
def encodeFrame (i : Instr) : Option (RunPort × RawFrame) :=
  match i with
  | .measure n cur vol => some (.tank, ⟨0, 0, n, 0, measurePayload cur vol⟩)
  | .relayReply n payload => some (.tank, ⟨0, 2, n, 0, payload⟩)
  | .relay p n payload => some (p.run, ⟨1, 1, n, 0, payload⟩)
  | .reportAck n => some (.radio, ⟨0, 6, n, 0, []⟩)
  | i => (commandPayload i).map fun (p, n, payload) => (p.run, ⟨0, 3, n, 0, payload⟩)

end Sys2Proof
end

