-- ==== Sys2Proof/Machine/Index.lean ====
section
/-! DEFINITION. Reading and writing one member of a per-pole, per-channel or per-input group, and sets of poles,
channels and elements. -/

namespace Sys2Proof

/-- The member of one pole. -/
def PerPole.get {α : Type} (v : PerPole α) : Pole → α
  | .a => v.a
  | .b => v.b
  | .c => v.c

/-- Replace the member of one pole. -/
def PerPole.set {α : Type} (v : PerPole α) (p : Pole) (x : α) : PerPole α :=
  match p with
  | .a => { v with a := x }
  | .b => { v with b := x }
  | .c => { v with c := x }

/-- The same thing for every pole. -/
def PerPole.all {α : Type} (x : α) : PerPole α := ⟨x, x, x⟩

/-- Work on every member. -/
def PerPole.map {α β : Type} (f : α → β) (v : PerPole α) : PerPole β := ⟨f v.a, f v.b, f v.c⟩

/-- Work on two groups, member by member. -/
def PerPole.zip {α β γ : Type} (f : α → β → γ) (v : PerPole α) (w : PerPole β) : PerPole γ :=
  ⟨f v.a w.a, f v.b w.b, f v.c w.c⟩

/-- The members in pole order. -/
def PerPole.toList {α : Type} (v : PerPole α) : List α := [v.a, v.b, v.c]

/-- The member of one channel. -/
def PerChannel.get {α : Type} (v : PerChannel α) : Channel → α
  | .a => v.a
  | .b => v.b
  | .c => v.c
  | .g => v.g

/-- The same thing for every channel. -/
def PerChannel.all {α : Type} (x : α) : PerChannel α := ⟨x, x, x, x⟩

/-- Work on every member. -/
def PerChannel.map {α β : Type} (f : α → β) (v : PerChannel α) : PerChannel β := ⟨f v.a, f v.b, f v.c, f v.g⟩

/-- Work on two groups, member by member. -/
def PerChannel.zip {α β γ : Type} (f : α → β → γ) (v : PerChannel α) (w : PerChannel β) : PerChannel γ :=
  ⟨f v.a w.a, f v.b w.b, f v.c w.c, f v.g w.g⟩

/-- The members in channel order. -/
def PerChannel.toList {α : Type} (v : PerChannel α) : List α := [v.a, v.b, v.c, v.g]

/-- The same thing for every maskable input. -/
def PerMask.all {α : Type} (x : α) : PerMask α := ⟨x, x, x, x, x, x⟩

/-- Work on every member. -/
def PerMask.map {α β : Type} (f : α → β) (v : PerMask α) : PerMask β :=
  ⟨f v.holdLever, f v.manualTrip, f v.door, f v.acPresent, f v.crewPresent, f v.radioReady⟩

/-- Work on two groups, member by member. -/
def PerMask.zip {α β γ : Type} (f : α → β → γ) (v : PerMask α) (w : PerMask β) : PerMask γ :=
  ⟨f v.holdLever w.holdLever, f v.manualTrip w.manualTrip, f v.door w.door, f v.acPresent w.acPresent,
    f v.crewPresent w.crewPresent, f v.radioReady w.radioReady⟩

/-- The members in INPUT_MASK order. -/
def PerMask.toList {α : Type} (v : PerMask α) : List α :=
  [v.holdLever, v.manualTrip, v.door, v.acPresent, v.crewPresent, v.radioReady]

/-- Work on two groups of twelve inputs, member by member. -/
def Inputs.zip {α β γ : Type} (f : α → β → γ) (v : Inputs α) (w : Inputs β) : Inputs γ :=
  { aux := v.aux.zip (fun x y => ⟨f x.a y.a, f x.b y.b⟩) w.aux, cabinet := v.cabinet.zip f w.cabinet }

/-- Work on every one of twelve inputs. -/
def Inputs.map {α β : Type} (f : α → β) (v : Inputs α) : Inputs β :=
  { aux := v.aux.map fun x => ⟨f x.a, f x.b⟩, cabinet := v.cabinet.map f }

/-- The same thing for every one of the twelve inputs. -/
def Inputs.all {α : Type} (x : α) : Inputs α := { aux := .all ⟨x, x⟩, cabinet := .all x }

/-- Work on two groups of flags, member by member. -/
def PerFlag.zip {α β γ : Type} (f : α → β → γ) (v : PerFlag α) (w : PerFlag β) : PerFlag γ :=
  ⟨f v.f0 w.f0, f v.f1 w.f1, f v.f2 w.f2, f v.f3 w.f3⟩

/-- The members in flag order. -/
def PerFlag.toList {α : Type} (v : PerFlag α) : List α := [v.f0, v.f1, v.f2, v.f3]

/-! ## Sets -/

/-- A pole mask: a set of poles (00_scope, "Poles, channels and masks"). -/
abbrev PoleMask := PerPole Bool

/-- The mask of no pole. -/
def PoleMask.none : PoleMask := .all false

/-- The mask of all three poles. -/
def PoleMask.full : PoleMask := .all true

/-- Whether a mask names no pole. -/
def PoleMask.isEmpty (m : PoleMask) : Bool := !(m.a || m.b || m.c)

/-- Poles in either mask. -/
def PoleMask.union (m k : PoleMask) : PoleMask := m.zip (· || ·) k

/-- Poles in both masks. -/
def PoleMask.inter (m k : PoleMask) : PoleMask := m.zip (· && ·) k

/-- Poles in the first mask and not in the second. -/
def PoleMask.diff (m k : PoleMask) : PoleMask := m.zip (fun x y => x && !y) k

/-- The mask of one pole. -/
def PoleMask.single (p : Pole) : PoleMask := PoleMask.none.set p true

/-- An element set: A, B, C, G by time and HS-A, HS-B, HS-C (R46). -/
structure ElementSet where
  time : PerChannel Bool
  highSet : PerPole Bool
deriving DecidableEq, Repr

/-- No element. -/
def ElementSet.none : ElementSet := { time := .all false, highSet := .all false }

/-- Elements in either set. -/
def ElementSet.union (x y : ElementSet) : ElementSet :=
  { time := x.time.zip (· || ·) y.time, highSet := x.highSet.zip (· || ·) y.highSet }

/-- Whether a set names no element. -/
def ElementSet.isEmpty (x : ElementSet) : Bool :=
  !(x.time.a || x.time.b || x.time.c || x.time.g || x.highSet.a || x.highSet.b || x.highSet.c)

/-- The phases named, with either cause (R49, R53). -/
def ElementSet.phases (x : ElementSet) : PoleMask :=
  ⟨x.time.a || x.highSet.a, x.time.b || x.highSet.b, x.time.c || x.highSet.c⟩

end Sys2Proof
end

