-- ==== Sys2Proof/Machine/Tables.lean ====
section
/-! DEFINITION. The eight setting tables (R1 to R9), validation (R10) and the default bank (R11). -/

namespace Sys2Proof.Machine

/-! ## The layout of a bank -/

/-- How many numbered fields a record has; none where the manual gives no such table or record (R1). -/
def recordFields (table record : Nat) : Option Nat :=
  match table with
  | 0 => if record < 8 then some 26 else none
  | 1 => if record = 0 then some 13 else none
  | 2 => if record = 0 then some 5 else if record ≤ 4 then some 9 else none
  | 3 => if record = 0 then some 9 else none
  | 4 => if record = 0 then some 18 else none
  | 5 => if record = 0 then some 39 else none
  | 6 => if record = 0 then some 18 else none
  | 7 => if record < 2 then some 16 else none
  | _ => none

/-- Whether a record exists (R1). -/
def recordExists (table record : Nat) : Bool := (recordFields table record).isSome

/-- Whether a field exists (R1): fields are numbered from 1. -/
def fieldExists (table record field : Nat) : Bool :=
  match recordFields table record with
  | some count => decide (1 ≤ field) && decide (field ≤ count)
  | none => false

/-- A bank: the eight tables, each a fixed set of records of 32-bit fields (R1). Field f stands at place f - 1. -/
structure Bank where
  curve : Vector (Vector Word 26) 8
  element : Vector Word 13
  header : Vector Word 5
  shots : Vector (Vector Word 9) 4
  pole : Vector Word 9
  battery : Vector Word 18
  radio : Vector Word 39
  lines : Vector Word 18
  relay : Vector (Vector Word 16) 2
deriving DecidableEq, Repr

/-- The fields of one record, from field 1 on; none where there is no such record. -/
def Bank.record (b : Bank) (table record : Nat) : List Word :=
  match table, record with
  | 0, r => ((b.curve[r]?).map Vector.toList).getD []
  | 1, 0 => b.element.toList
  | 2, 0 => b.header.toList
  | 2, r + 1 => ((b.shots[r]?).map Vector.toList).getD []
  | 3, 0 => b.pole.toList
  | 4, 0 => b.battery.toList
  | 5, 0 => b.radio.toList
  | 6, 0 => b.lines.toList
  | 7, r => ((b.relay[r]?).map Vector.toList).getD []
  | _, _ => []

/-- The 32-bit value of a field; 0 for a field that does not exist, which no reader names. -/
def Bank.field (b : Bank) (table record field : Nat) : Word :=
  match field with
  | 0 => 0
  | i + 1 => ((b.record table record)[i]?).getD 0

/-- Replace one member of one record of a table of several records. -/
def setInner {n m : Nat} (t : Vector (Vector Word n) m) (r i : Nat) (v : Word) : Vector (Vector Word n) m :=
  match t[r]? with
  | some record => t.setIfInBounds r (record.setIfInBounds i v)
  | none => t

/-- The bank with one field replaced (R1, R14); a field that does not exist changes nothing. -/
def Bank.set (b : Bank) (table record field : Nat) (v : Word) : Bank :=
  match table, record, field with
  | 0, r, i + 1 => { b with curve := setInner b.curve r i v }
  | 1, 0, i + 1 => { b with element := b.element.setIfInBounds i v }
  | 2, 0, i + 1 => { b with header := b.header.setIfInBounds i v }
  | 2, r + 1, i + 1 => { b with shots := setInner b.shots r i v }
  | 3, 0, i + 1 => { b with pole := b.pole.setIfInBounds i v }
  | 4, 0, i + 1 => { b with battery := b.battery.setIfInBounds i v }
  | 5, 0, i + 1 => { b with radio := b.radio.setIfInBounds i v }
  | 6, 0, i + 1 => { b with lines := b.lines.setIfInBounds i v }
  | 7, r, i + 1 => { b with relay := setInner b.relay r i v }
  | _, _, _ => b

/-- The value of an unsigned field. -/
def Bank.nat (b : Bank) (table record field : Nat) : Nat := (b.field table record field).toNat

/-- The value of a signed field (the two temperatures, R1). -/
def Bank.int (b : Bank) (table record field : Nat) : Int := (b.field table record field).toInt

/-! ## The rows of R2 to R9 -/

/-- A field's row: its triple, its range, its default, and whether it is signed. -/
structure FieldRow where
  table : Nat
  record : Nat
  field : Nat
  low : Int
  high : Int
  default : Int
  signed : Bool
deriving DecidableEq, Repr

/-- Rows of one record, numbered from `first`: (low, high, default). -/
def recordRows (table record first : Nat) (specs : List (Int × Int × Int)) : List FieldRow :=
  (specs.zipIdx first).map fun ((lo, hi, d), f) => ⟨table, record, f, lo, hi, d, false⟩

/-- A flag field's range, with its default. -/
def flagSpec (d : Int) : Int × Int × Int := (0, 1, d)

/-- R2: the fields of one curve. -/
def curveSpecs : List (Int × Int × Int) :=
  [(2, 12, 4), (0, 60000, 1000)] ++
  [150, 300, 1000, 2000, 4000, 4000, 4000, 4000, 4000, 4000, 4000, 4000].map (fun d => (105, 4000, d)) ++
  [10000, 3000, 500, 150, 10, 10, 10, 10, 10, 10, 10, 10].map (fun d => (10, 600000, d))

/-- R3: the ELEMENT table. -/
def elementSpecs : List (Int × Int × Int) :=
  [(10, 4000, 400), (5, 2000, 200), flagSpec 1, (100, 16000, 4000), (1, 50, 3), (200, 16000, 8000),
   (10, 4095, 300), (0, 7, 0), (5, 200, 10), flagSpec 1, flagSpec 0, flagSpec 0, (10, 500, 50)]

/-- R4: the SEQUENCE header. -/
def headerSpecs : List (Int × Int × Int) :=
  [(1, 4, 1), (1000, 180000, 10000), flagSpec 1, (0, 30000, 10000), (0, 30000, 5000)]

/-- R4: one SEQUENCE shot record. -/
def shotSpecs : List (Int × Int × Int) :=
  [(0, 7, 0), (0, 7, 0), (5, 200, 100), (5, 200, 100), flagSpec 0, (0, 1, 1), (100, 180000, 2000), (0, 10, 0),
   (0, 1, 0)]

/-- R5: the POLE table. -/
def poleSpecs : List (Int × Int × Int) :=
  [(10, 100, 40), (20, 200, 80), (20, 250, 100), (30, 400, 200), flagSpec 1, (20, 500, 100), (400, 3000, 1200),
   (500, 3400, 1800), (550, 3500, 2400)]

/-- R6: the BATTERY table, fields 1 to 7. -/
def batterySpecsLow : List (Int × Int × Int) :=
  [(1000, 100000, 24000), (10000, 60000, 28800), (10000, 60000, 27000), (100, 5000, 1000), (10, 10000, 200),
   (10, 1440, 240), (10000, 65000, 30000)]

/-- R6: the two signed temperatures, fields 8 and 9. -/
def temperatureRows : List FieldRow := [⟨4, 0, 8, -40, 85, -20, true⟩, ⟨4, 0, 9, -40, 85, 50, true⟩]

/-- R6: the BATTERY table, fields 10 to 18. -/
def batterySpecsHigh : List (Int × Int × Int) :=
  [(10000, 60000, 23500), (10000, 60000, 22500), (10000, 60000, 21600), (0, 2000, 500), (0, 90, 30), (5, 60, 20),
   (10000, 60000, 23800), (50, 10000, 1500), (50, 10000, 3000)]

/-- R7: the RADIO table, fields 1 to 6. -/
def radioSpecs : List (Int × Int × Int) :=
  [(1, 60, 8), (0, 5, 2), (10, 3600, 120), (0, 1440, 60), (10, 1000, 100), (0, 100, 10)]

/-- R7: the defaults of the report map, fields 7 to 39: 0 URGENT, 1 NORMAL, 2 ROUTINE, 3 SUPPRESS. -/
def mapDefaults : List Int :=
  [1, 0, 0, 3, 1, 1, 1, 0, 1, 1, 1, 0, 1, 1, 1, 1, 0, 1, 1, 2, 1, 1, 2, 1, 1, 2, 2, 2, 2, 1, 2, 2, 0]

/-- R7: the four map fields whose range is URGENT alone: STORE_HOLD, LOCKOUT, MECH_FAIL and SHUTDOWN. -/
def urgentOnly : List Nat := [9, 14, 18, 39]

/-- R7: the report map. -/
def mapRows : List FieldRow :=
  (mapDefaults.zipIdx 7).map fun (d, f) => ⟨5, 0, f, 0, if f ∈ urgentOnly then 0 else 3, d, false⟩

/-- R8: the LINES table. -/
def lineSpecs : List (Int × Int × Int) :=
  List.replicate 6 (1, 15, 3) ++ List.replicate 6 (1, 15, 5) ++ List.replicate 6 (flagSpec 1)

/-- Every field of a bank, tables by id, records by index, fields by number: the order of the scan of R10. -/
def fieldRows : List FieldRow :=
  ([0, 1, 2, 3, 4, 5, 6, 7].flatMap fun r => recordRows 0 r 1 curveSpecs) ++
  recordRows 1 0 1 elementSpecs ++
  recordRows 2 0 1 headerSpecs ++
  ([1, 2, 3, 4].flatMap fun r => recordRows 2 r 1 shotSpecs) ++
  recordRows 3 0 1 poleSpecs ++
  recordRows 4 0 1 batterySpecsLow ++ temperatureRows ++ recordRows 4 0 10 batterySpecsHigh ++
  recordRows 5 0 1 radioSpecs ++ mapRows ++
  recordRows 6 0 1 lineSpecs ++
  recordRows 7 0 1 (List.replicate 16 (flagSpec 0)) ++
  recordRows 7 1 1 (List.replicate 16 (flagSpec 1))

/-! ## Validation (R10) -/

/-- Whether a field's value lies in its range. -/
def inRange (b : Bank) (row : FieldRow) : Bool :=
  let v : Int := if row.signed then b.int row.table row.record row.field else b.nat row.table row.record row.field
  decide (row.low ≤ v) && decide (v ≤ row.high)

/-- The curve point that a CURVE field belongs to: its multiple in field 2 + k, its time in field 14 + k (R2). -/
def pointOf (field : Nat) : Option Nat :=
  if 3 ≤ field ∧ field ≤ 14 then some (field - 2)
  else if 15 ≤ field ∧ field ≤ 26 then some (field - 14)
  else none

/-- Whether the scan looks at a field: it passes over curve points above the point count and shot records above the
shot count. -/
def scanned (b : Bank) (row : FieldRow) : Bool :=
  match row.table with
  | 0 =>
    match pointOf row.field with
    | some k => decide (k ≤ b.nat 0 row.record 1)
    | none => true
  | 2 => decide (row.record ≤ b.nat 2 0 1)
  | _ => true

/-- The relations listed against a field (R2, R5, R6). -/
def relationsHold (b : Bank) (row : FieldRow) : Bool :=
  match row.table with
  | 0 =>
    let prev := b.nat 0 row.record (row.field - 1)
    let this := b.nat 0 row.record row.field
    if 4 ≤ row.field ∧ row.field ≤ 14 then decide (prev < this)
    else if 16 ≤ row.field ∧ row.field ≤ 26 then decide (this ≤ prev)
    else true
  | 3 =>
    let f := b.nat 3 0
    match row.field with
    | 3 => decide (f 1 ≤ f 3)
    | 4 => decide (f 2 ≤ f 4)
    | 8 => decide (f 7 + 100 ≤ f 8)
    | 9 => decide (f 8 + 50 ≤ f 9)
    | _ => true
  | 4 =>
    let f := b.nat 4 0
    match row.field with
    | 3 => decide (f 3 < f 2)
    | 4 => decide (f 4 < f 3)
    | 7 => decide (f 2 < f 7)
    | 9 => decide (b.int 4 0 8 < b.int 4 0 9)
    | 11 => decide (f 11 < f 10)
    | 12 => decide (f 12 < f 11)
    | 13 => decide (f 11 + f 13 ≤ f 10) && decide (f 10 + f 13 < f 3)
    | 16 => decide (f 10 ≤ f 16)
    | 18 => decide (f 17 < f 18)
    | _ => true
  | _ => true

/-- Whether the scan passes at a field: not looked at, or in range and in relation. -/
def passesAt (b : Bank) (row : FieldRow) : Bool := !scanned b row || (inRange b row && relationsHold b row)

/-- R10: the first failure of the scan, as (table, record, field); none for a bank that passes. -/
def validate (b : Bank) : Option (Nat × Nat × Nat) :=
  (fieldRows.find? fun row => !passesAt b row).map fun row => (row.table, row.record, row.field)

/-- Whether a bank passes validation. -/
def Bank.valid (b : Bank) : Bool := (validate b).isNone

/-! ## The default bank (R11) -/

/-- The default field values of a list of rows. -/
def defaultsOf (specs : List (Int × Int × Int)) : List Word := specs.map fun (_, _, d) => BitVec.ofInt 32 d

/-- The default of one curve (R2); all eight have the same. -/
def defaultCurve : Vector Word 26 := ⟨(defaultsOf curveSpecs).toArray, rfl⟩

/-- The default of one shot record (R4); all four have the same. -/
def defaultShot : Vector Word 9 := ⟨(defaultsOf shotSpecs).toArray, rfl⟩

/-- The default BATTERY table (R6). -/
def defaultBattery : List Word :=
  defaultsOf batterySpecsLow ++ temperatureRows.map (fun row => BitVec.ofInt 32 row.default) ++
    defaultsOf batterySpecsHigh

/-- R11: the bank whose every field holds its default. -/
def defaultBank : Bank :=
  { curve := Vector.replicate 8 defaultCurve
    element := ⟨(defaultsOf elementSpecs).toArray, rfl⟩
    header := ⟨(defaultsOf headerSpecs).toArray, rfl⟩
    shots := Vector.replicate 4 defaultShot
    pole := ⟨(defaultsOf poleSpecs).toArray, rfl⟩
    battery := ⟨defaultBattery.toArray, rfl⟩
    radio := ⟨(defaultsOf radioSpecs ++ mapDefaults.map fun d => BitVec.ofInt 32 d).toArray, rfl⟩
    lines := ⟨(defaultsOf lineSpecs).toArray, rfl⟩
    relay := ⟨#[Vector.replicate 16 0, Vector.replicate 16 1], rfl⟩ }

end Sys2Proof.Machine
end

