-- ==== Sys2Proof/Machine/State.lean ====
section
/-! DEFINITION. The state of the block, as plain data: each of the manual's blocks is one structure, with the items its
own chapter names. An instant is a value of the base count; a timer is stopped (none) or running to an expiry instant
(R179). -/

namespace Sys2Proof.Machine

/-- A timer: stopped, or running with an expiry instant on the base count (R179). -/
abbrev Timer := Option Nat

/-- The level a filter has accepted, or that a block keeps of an input (R127, R149, R165, R181). -/
inductive InputLevel where
  | notYet
  | inactive
  | active
deriving DecidableEq, Repr

/-! ## Time Base (R179) -/

/-- The Time Base: base count, time tag, time-set flag (R179). -/
structure TimeBase where
  baseCount : Nat
  timeTag : Word
  timeSet : Bool
deriving DecidableEq, Repr

/-! ## Commands and results (09) -/

/-- The command codes 1 to 22 (08, COMMAND payload). -/
inductive CommandCode where
  | status
  | eventsRead
  | tableLoad
  | tableRead
  | bankCopy
  | bankSwap
  | bankRelease
  | trip
  | close
  | abort
  | holdSet
  | holdClear
  | holdList
  | flags
  | faultRead
  | exceptionRead
  | batteryRead
  | batteryTest
  | mechReset
  | timeSet
  | inputMask
  | restart
deriving DecidableEq, Repr

/-- Which command of which port an outcome answers; the serial tells apart two commands of one port that carry the
same number (R169, log 11). -/
structure CmdRef where
  port : PortId
  serial : Nat
deriving DecidableEq, Repr

/-- The command under way in a context (R165), with the result data of the frames of its answer that have not been
handed over yet (R170). -/
structure Executing where
  code : CommandCode
  number : Half
  serial : Nat
  rest : List (List Byte)
deriving DecidableEq, Repr

/-- One command context: IDLE (no command) or EXECUTING, discard mark, frame out (R165). -/
structure Context where
  executing : Option Executing
  discard : Bool
  frameOut : Bool
deriving DecidableEq, Repr

/-- The Command Unit (R165). -/
structure CommandUnit where
  radio : Context
  crew : Context
  crewPresent : InputLevel
  nextSerial : Nat
deriving DecidableEq, Repr

/-! ## Frames and ports (08) -/

/-- Destination codes (08, frame header). -/
inductive Destination where
  | part
  | tankHead
  | master
  | crewHandset
deriving DecidableEq, Repr

/-- Kind codes (08, frame header). -/
inductive FrameKind where
  | measure
  | relay
  | relayReply
  | command
  | result
  | report
  | reportAck
  | notice
deriving DecidableEq, Repr

/-- The two radio channels. -/
inductive RadioChannel where
  | primary
  | alternate
deriving DecidableEq, Repr

/-- The flags byte (08, frame header). -/
structure FrameFlags where
  channel : RadioChannel
  overrun : Bool
  backlog : Bool
  timeSet : Bool
  more : Bool
  origin : PortId
deriving DecidableEq, Repr

/-- A frame the part sends (R162). -/
structure Frame where
  destination : Destination
  kind : FrameKind
  number : Half
  flags : FrameFlags
  payload : List Byte
deriving DecidableEq, Repr

/-- Whom the end or the drop of a frame is told to: a RESULT to the Command Unit (for a command, or for none), a REPORT
to the Report Unit, a NOTICE or a forwarded reply to no one (R158, R159, R161). -/
inductive FrameTag where
  | result (cmd : Option CmdRef)
  | report (id : Nat)
  | notice
  | reply
deriving DecidableEq, Repr

/-- A frame in one of the outer ports' lists or on one of their lines. -/
structure OutFrame where
  frame : Frame
  tag : FrameTag
deriving DecidableEq, Repr

/-- One thing for each port. -/
structure PerPort (α : Type) where
  tank : α
  radio : α
  crew : α
deriving DecidableEq, Repr

/-- The Port Unit (R149). -/
structure PortUnit where
  accepted : PerPort Word
  discarded : PerPort Word
  gaps : Word
  tankQueue : List Frame
  tankBusy : Bool
  radioPending : List OutFrame
  handedReport : Option OutFrame
  radioLine : Option OutFrame
  crewList : List OutFrame
  crewLine : Option OutFrame
  radioReady : InputLevel
  crewPresent : InputLevel
deriving DecidableEq, Repr

/-! ## Protection Unit (02) -/

/-- Element states (R29). -/
inductive ElementState where
  | idle
  | timing
  | resetting
  | operated
deriving DecidableEq, Repr

/-- An element record: state, accumulator, operation causes TIME and HIGH_SET (R29). -/
structure Element where
  state : ElementState
  acc : Nat
  byTime : Bool
  byHighSet : Bool
deriving DecidableEq, Repr

/-- One channel or voltage of the latest measurement record (R25). -/
structure Reading where
  value : Nat
  mark : Mark
deriving DecidableEq, Repr

/-- The latest measurement record (R25). -/
structure Measurement where
  number : Half
  tag : Word
  currents : PerChannel Reading
  voltages : PerPole Reading
deriving DecidableEq, Repr

/-- An open pickup episode (R37). -/
structure Episode where
  instant : Nat
  tag : Word
  maxima : PerChannel Nat
deriving DecidableEq, Repr

/-- Trapped exception kinds (R41). -/
inductive ExceptionKind where
  | invalidSample
  | overrange
  | timeClamp
deriving DecidableEq, Repr

/-- The entry of the exception record (R42). -/
structure ExceptionEntry where
  kind : ExceptionKind
  channel : Channel
  number : Half
  tag : Word
deriving DecidableEq, Repr

/-- The Protection Unit. -/
structure Protection where
  linkUp : Bool
  linkTimer : Timer
  keptNumber : Option Half
  latest : Measurement
  elements : PerChannel Element
  highSet : PerPole Nat
  episode : Option Episode
  exception : Option ExceptionEntry
  latestFlag : Bool
deriving DecidableEq, Repr

/-! ## Pole Drive (04) -/

/-- Decoded positions (R68, R69). -/
inductive Position where
  | opened
  | closed
  | unknown
deriving DecidableEq, Repr

/-- Mechanism states (R68). -/
inductive Mech where
  | idle
  | tripPulse
  | tripWait
  | tripRetry
  | closePulse
  | closeWait
  | failed
deriving DecidableEq, Repr

/-- Outcomes of pole operations (R68). -/
inductive OpOutcome where
  | success
  | retriedSuccess
  | failed
  | aborted
deriving DecidableEq, Repr

/-- A pole record (R68). `heldOpen`: a trip-free trip that began on an OPEN reading, which holds its readings to the
pulse's end (R76). `windowHeld`: a window expiry held to the pulse's end (R73, R77). -/
structure PoleRecord where
  position : Position
  discovered : Bool
  mech : Mech
  failed : Bool
  attempt : Nat
  last : Option OpOutcome
  ops : Word
  pulse : Timer
  window : Timer
  gap : Timer
  heldOpen : Bool
  windowHeld : Bool
deriving DecidableEq, Repr

/-- The Pole Drive: pole records, energy store (R81 to R83) and the accepted level of the handle (R88). -/
structure PoleDrive where
  pole : PerPole PoleRecord
  storeVoltage : Nat
  charging : Bool
  storeLow : Bool
  handle : InputLevel
deriving DecidableEq, Repr

/-! ## Sequence Controller (03) -/

/-- Sequence states (R45). -/
inductive SeqState where
  | reset
  | tripping
  | deadTime
  | closing
  | reclaim
  | lockout
deriving DecidableEq, Repr

/-- Lockout causes, in the order of R63 (R164). -/
inductive LockoutCause where
  | lastShot
  | gate
  | hold
  | evolving
  | mechFail
  | operator
  | closeOntoFault
  | supply
  | start
  | handle
  | poleFailed
  | poleBusy
  | positionUnknown
  | linkLost
  | supplyCritical
  | shutdown
  | energyLow
deriving DecidableEq, Repr

/-- End causes of the shot context (R46). -/
inductive EndCause where
  | operator
  | evolving
  | closeOntoFault
deriving DecidableEq, Repr

/-- Whether an outstanding trip was ordered for the fault or by an operator (R51, R61). -/
inductive TripKind where
  | fault
  | operator
deriving DecidableEq, Repr

/-- The shot context (R46). -/
structure ShotContext where
  pickup : Option Nat
  elements : ElementSet
  tripsOut : PerPole (Option TripKind)
  closesOut : PoleMask
  ordered : PoleMask
  reclose : PoleMask
  failed : PoleMask
  closeFailed : Bool
  endCause : Option EndCause
deriving DecidableEq, Repr

/-- Fault outcomes (R66). -/
inductive FaultOutcome where
  | reclosedOk
  | lockout
  | tripFailed
deriving DecidableEq, Repr

/-- A fault record (R66). -/
structure FaultRecord where
  number : Half
  startTag : Word
  shots : Nat
  maxima : PerChannel Nat
  elements : ElementSet
  lastMask : PoleMask
  clearing : Nat
  outcome : Option FaultOutcome
  cause : Option LockoutCause
deriving DecidableEq, Repr

/-- An operator trip whose orders have not all completed (R60, R61): the TRIP command it answers, if any, its mask,
the poles still waited for, each pole's outcome, and whether it was taken in LOCKOUT. -/
structure OperatorTrip where
  cmd : Option CmdRef
  mask : PoleMask
  waiting : PoleMask
  outcomes : PerPole (Option OpOutcome)
  inLockout : Bool
deriving DecidableEq, Repr

/-- An operator close whose closes have not all completed (R62): its mask, the closes still waited for, and each
pole's close outcome. -/
structure OperatorClose where
  mask : PoleMask
  waiting : PoleMask
  outcomes : PerPole (Option OpOutcome)
deriving DecidableEq, Repr

/-- The Sequence Controller (R45). `initial`: the initial LOCKOUT has not been left; `decided`: the start decision has
been made (R190). -/
structure Sequence where
  state : SeqState
  cause : LockoutCause
  shot : Nat
  deadTimer : Timer
  reclaimTimer : Timer
  afterClose : Bool
  ctx : ShotContext
  openRecord : Option Half
  userFlags : PerFlag Bool
  faults : List FaultRecord
  nextRecord : Half
  operatorTrips : List OperatorTrip
  operatorClose : Option OperatorClose
  initial : Bool
  decided : Bool
  lamp : Bool
deriving DecidableEq, Repr

/-! ## Hold Unit (05) -/

/-- Hold origins (R89). -/
inductive HoldOrigin where
  | lever
  | crew
  | radio
  | store
deriving DecidableEq, Repr

/-- A hold (R89); its slot is its place in the table. -/
structure Hold where
  origin : HoldOrigin
  tag : Half
  scope : PoleMask
  profile : Bool
  setTag : Word
deriving DecidableEq, Repr

/-- Phases of the operator close record (R99). -/
inductive ClosePhase where
  | warning
  | pulsing
deriving DecidableEq, Repr

/-- The operator close record (R99). -/
structure CloseRecord where
  cmd : CmdRef
  number : Half
  mask : PoleMask
  phase : ClosePhase
  warningEnd : Nat
  timer : Timer
deriving DecidableEq, Repr

/-- A HOLD_SET or HOLD_CLEAR that waits for a hold-image write (R94): the slot it names in its result, and whether the
write in flight started at or after its change. -/
structure HoldWaiter where
  cmd : CmdRef
  slot : Nat
  covered : Bool
deriving DecidableEq, Repr

/-- The Hold Unit: slot 0 (the lever hold), slots 1 to 7, the operator close record, and the rest of R89, R95, R99. -/
structure HoldUnit where
  lever : Option Hold
  slots : Vector (Option Hold) 7
  close : Option CloseRecord
  leverAccepted : Bool
  waiters : List HoldWaiter
deriving DecidableEq, Repr

/-! ## Setting Store (01) -/

/-- The two images (R21). -/
inductive ImageId where
  | settings
  | hold
deriving DecidableEq, Repr

/-- A write in flight, with the contents captured at its start (R21, R96). -/
inductive ImageWrite where
  | settings (bank : Bank)
  | hold (slots : Vector (Option Hold) 7)
deriving DecidableEq, Repr

/-- The nonvolatile store: each image passes its check and holds its contents, or fails (R21). -/
structure Nonvolatile where
  settings : Option Bank
  hold : Option (Vector (Option Hold) 7)
deriving DecidableEq, Repr

/-- The Setting Store (R12, R13, R21, R22), and the BANK_SWAP that waits for its write (R19). -/
structure SettingStore where
  active : Bank
  shadow : Bank
  owner : Option PortId
  ownerTimer : Timer
  nv : Nonvolatile
  inFlight : Option ImageWrite
  waiting : List ImageId
  swapWaiter : Option CmdRef
deriving DecidableEq, Repr

/-! ## Battery Unit (06) -/

/-- Charger states (R107). -/
inductive ChargerState where
  | off
  | bulk
  | absorb
  | float
  | test
  | fault
deriving DecidableEq, Repr

/-- Fault conditions (R112; codes in 08). -/
inductive FaultCondition where
  | temperatureLow
  | temperatureHigh
  | overvoltage
deriving DecidableEq, Repr

/-- Supply levels, best to worst (R114). -/
inductive SupplyLevel where
  | normal
  | low
  | critical
  | shutdownPending
deriving DecidableEq, Repr

/-- Shutdown states (R124, R125). -/
inductive ShutdownState where
  | none
  | waiting
  | asserted
deriving DecidableEq, Repr

/-- Test origins: SCHEDULED, or COMMAND with its port and number (R118); the reference names the port and the command
that the outcome answers (R169, log 11). -/
inductive TestOrigin where
  | scheduled
  | command (cmd : CmdRef) (number : Half)
deriving DecidableEq, Repr

/-- Test grades (R119, R120; order of R164). -/
inductive TestGrade where
  | pass
  | weak
  | fail
  | aborted
deriving DecidableEq, Repr

/-- Test abort causes, in the order of R120 (R164). -/
inductive TestCause where
  | element
  | trip
  | close
  | lowVoltage
  | acLost
  | abort
deriving DecidableEq, Repr

/-- The running test context (R118). -/
structure LoadTest where
  origin : TestOrigin
  startTag : Word
  startVoltage : Nat
  minVoltage : Nat
  timer : Timer
deriving DecidableEq, Repr

/-- The last test record (R119, R120). -/
structure TestRecord where
  startTag : Word
  startVoltage : Nat
  minVoltage : Nat
  drop : Nat
  grade : TestGrade
  cause : Option TestCause
  origin : TestOrigin
deriving DecidableEq, Repr

/-- The battery record (R107). -/
structure Battery where
  voltage : Nat
  current : Int
  temperature : Int
  readingTaken : Bool
  ac : InputLevel
  charger : ChargerState
  absorbEntry : Option Nat
  faultClear : Timer
  pendingFault : Option FaultCondition
  coulomb : Nat
  estimated : Bool
  level : SupplyLevel
  test : Option LoadTest
  lastTest : Option TestRecord
  nextDue : Option Nat
  retryWait : Timer
  shutdown : ShutdownState
  shutdownTimer : Timer
deriving DecidableEq, Repr

/-! ## Report Unit (07) -/

/-- Event kinds, in the order of the report map: the kind's map field is its place plus 7 (R7, 08). -/
inductive EventKind where
  | start
  | defaultsInUse
  | storeHold
  | pickup
  | trip
  | reclose
  | reclaimOk
  | lockout
  | operatorTrip
  | operatorClose
  | closeRefused
  | mechFail
  | mechSlow
  | positionChange
  | holdSet
  | holdCleared
  | holdDuringClose
  | linkLost
  | linkRestored
  | sampleException
  | supplyLevel
  | acLost
  | acRestored
  | chargerFault
  | storeLow
  | testResult
  | doorOpen
  | crewAttached
  | crewDetached
  | bankSwapped
  | timeSet
  | measure
  | shutdown
deriving DecidableEq, Repr

/-- Priorities of report entries (R7, R130). -/
inductive Priority where
  | urgent
  | normal
  | routine
deriving DecidableEq, Repr

/-- A report entry (R130). -/
structure ReportEntry where
  number : Half
  priority : Priority
  kind : EventKind
  tag : Word
  timeSet : Bool
  body : List Byte
  cost : Nat
  attempts : Nat
  channel : Option RadioChannel
  resume : RadioChannel
  allowance : Nat
  inFlight : Bool
  overrunCarried : Bool
deriving DecidableEq, Repr

/-- Transmitter states (R138). -/
inductive TxState where
  | idle
  | waitBudget
  | awaitAck
  | holdoff
  | disabled
deriving DecidableEq, Repr

/-- The REPORT frame handed to the Port Unit and not yet transmitted: which frame, and whose entry (R139, log 11). -/
structure HandedReport where
  id : Nat
  number : Half
  frame : Frame
deriving DecidableEq, Repr

/-- The Report Unit (R127). -/
structure ReportUnit where
  queue : List ReportEntry
  nextNumber : Half
  overrun : Bool
  backlog : Bool
  budget : Nat
  refillTimer : Timer
  tx : TxState
  handed : Option HandedReport
  ackTimer : Timer
  holdoffTimer : Timer
  periodicTimer : Timer
  radioReady : InputLevel
  crewPresent : InputLevel
  nextHandedId : Nat
deriving DecidableEq, Repr

/-! ## Line Unit (10) -/

/-- An input filter (R181). -/
structure Filter where
  accepted : InputLevel
  candidate : Option Bool
  run : Nat
  target : Nat
deriving DecidableEq, Repr

/-- The Line Unit: filters (R181), live masks and event flags (R183), sounder entries (R186). -/
structure LineUnit where
  filters : Inputs Filter
  masks : PerMask Bool
  radioFlags : PerMask Bool
  crewFlags : PerMask Bool
  warningEnd : Option Nat
  alarmEnd : Option Nat
deriving DecidableEq, Repr

/-! ## What the base count paces (R179) -/

/-- Whether the line sample and the cabinet reading of the present base count have been taken: R179 takes one of each at
its counts. The model's own record (log 5). -/
structure Paced where
  sampled : Bool
  read : Bool
deriving DecidableEq, Repr

/-! ## The whole -/

/-- The block. `powered`: its supply is applied (R187, R21). `freeCount`: the model's counter of free values used
(log 3). `pending`: the commands that wait, first in, first out. -/
structure State where
  powered : Bool
  time : TimeBase
  store : SettingStore
  prot : Protection
  seq : Sequence
  poles : PoleDrive
  holds : HoldUnit
  batt : Battery
  rep : ReportUnit
  port : PortUnit
  cmd : CommandUnit
  line : LineUnit
  paced : Paced
  freeCount : Nat
  pending : List Instr
deriving DecidableEq, Repr

/-- No command of this block faults: the manual discards bad frames, answers bad commands and goes on (log 34). -/
inductive Fault where
deriving DecidableEq, Repr

/-- Why a command has no meaning. -/
inductive Refusal where
  /-- Raised by an arm of exec whose row has no meaning yet; no row of this model is left so. Safe. -/
  | notModelled (mnemonic : String)
deriving DecidableEq, Repr

/-! ## The state after power-on (R187) -/

/-- A context with no command (R165). -/
def Context.idle : Context := { executing := none, discard := false, frameOut := false }

/-- R165: both contexts IDLE, the crew-present level not yet accepted. -/
def CommandUnit.initial : CommandUnit :=
  { radio := .idle, crew := .idle, crewPresent := .notYet, nextSerial := 0 }

/-- R149: every count 0, every list empty, every line free. -/
def PortUnit.initial : PortUnit :=
  { accepted := ⟨0, 0, 0⟩, discarded := ⟨0, 0, 0⟩, gaps := 0, tankQueue := [], tankBusy := false,
    radioPending := [], handedReport := none, radioLine := none, crewList := [], crewLine := none,
    radioReady := .notYet, crewPresent := .notYet }

/-- R29: an element at rest. -/
def Element.rest : Element := { state := .idle, acc := 0, byTime := false, byHighSet := false }

/-- R25, R27, R28, R29, R37, R42. -/
def Protection.initial : Protection :=
  { linkUp := false, linkTimer := none, keptNumber := none,
    latest := { number := 0, tag := 0, currents := .all ⟨0, .invalid⟩, voltages := .all ⟨0, .invalid⟩ },
    elements := .all .rest, highSet := .all 0, episode := none, exception := none, latestFlag := false }

/-- R46: the empty shot context. -/
def ShotContext.empty : ShotContext :=
  { pickup := none, elements := .none, tripsOut := .all none, closesOut := .none, ordered := .none,
    reclose := .none, failed := .none, closeFailed := false, endCause := none }

/-- R45: the initial LOCKOUT with cause START, the lamp dark. -/
def Sequence.start : Sequence :=
  { state := .lockout, cause := .start, shot := 1, deadTimer := none, reclaimTimer := none, afterClose := false,
    ctx := .empty, openRecord := none, userFlags := ⟨false, false, false, false⟩, faults := [], nextRecord := 1,
    operatorTrips := [], operatorClose := none, initial := true, decided := false, lamp := false }

/-- R68: a pole record at power-on; its attempt has no meaning with no trip in flight (log 26). -/
def PoleRecord.initial : PoleRecord :=
  { position := .unknown, discovered := false, mech := .idle, failed := false, attempt := 1, last := none, ops := 0,
    pulse := none, window := none, gap := none, heldOpen := false, windowHeld := false }

/-- R68, R81, R82, R83, R84. -/
def PoleDrive.initial : PoleDrive :=
  { pole := .all .initial, storeVoltage := 0, charging := false, storeLow := false, handle := .notYet }

/-- R89, R95, R99: an empty table, no record, the lever not accepted. -/
def HoldUnit.initial : HoldUnit :=
  { lever := none, slots := Vector.replicate 7 none, close := none, leverAccepted := false, waiters := [] }

/-- R107, with the coulomb count at half of `full` and the next test due time given. -/
def Battery.initial (full : Nat) (nextDue : Option Nat) : Battery :=
  { voltage := 0, current := 0, temperature := 0, readingTaken := false, ac := .notYet, charger := .off,
    absorbEntry := none, faultClear := none, pendingFault := none, coulomb := full / 2, estimated := true,
    level := .normal, test := none, lastTest := none, nextDue := nextDue, retryWait := none, shutdown := .none,
    shutdownTimer := none }

/-- R127, with the budget and the periodic timer given; the refill timer first expires at 60 s (R146, R187). -/
def ReportUnit.initial (budget : Nat) (periodic : Timer) : ReportUnit :=
  { queue := [], nextNumber := 1, overrun := false, backlog := false, budget := budget, refillTimer := some 60000,
    tx := .disabled, handed := none, ackTimer := none, holdoffTimer := none, periodicTimer := periodic,
    radioReady := .notYet, crewPresent := .notYet, nextHandedId := 0 }

/-- R181: a filter that has accepted nothing; its run target has no meaning with no run (log 26). -/
def Filter.initial : Filter := { accepted := .notYet, candidate := none, run := 0, target := 1 }

/-- R181, R183, R186, with the live masks given. -/
def LineUnit.initial (masks : PerMask Bool) : LineUnit :=
  { filters := .all .initial, masks := masks, radioFlags := .all false, crewFlags := .all false, warningEnd := none,
    alarmEnd := none }

/-- R179: base count 0, time tag 0, time-set flag clear. -/
def TimeBase.initial : TimeBase := { baseCount := 0, timeTag := 0, timeSet := false }

/-- A count at which no sample and no reading has been taken. -/
def Paced.fresh : Paced := { sampled := false, read := false }

/-- R12, R22: a bank active, its copy the shadow, no owner, nothing in flight. -/
def SettingStore.initial (active : Bank) (nv : Nonvolatile) : SettingStore :=
  { active := active, shadow := active, owner := none, ownerTimer := none, nv := nv, inFlight := none, waiting := [],
    swapWaiter := none }

/-- The nonvolatile contents the model starts from: a settings image that holds the default bank and a hold image that
holds no hold, both passing (log 1; DESIGN CHOICE, unsafe: the manual gives a new part's contents nowhere). -/
def Nonvolatile.factory : Nonvolatile := { settings := some defaultBank, hold := some (Vector.replicate 7 none) }

/-- The START entry of R187 step 6 and R188: both sources IMAGE, priority NORMAL by the default map. -/
def startEntry : ReportEntry :=
  { number := 1, priority := .normal, kind := .start, tag := 0, timeSet := false, body := [0, 0], cost := 1,
    attempts := 0, channel := none, resume := .primary, allowance := 3, inFlight := false, overrunCarried := false }

/-- The machine right after reset: what the power-on of R187 leaves on the contents of log 1. That it is what
POWER_ON leaves is a theorem of Tests/Slice0.lean. -/
def State.reset : State :=
  { powered := true
    time := .initial
    store := .initial defaultBank .factory
    prot := .initial
    seq := .start
    poles := .initial
    holds := .initial
    batt := .initial 864000000 (some 2592000000)
    rep := { ReportUnit.initial 100 (some 3600000) with queue := [startEntry], nextNumber := 2 }
    port := .initial
    cmd := .initial
    line := .initial (.all true)
    paced := .fresh
    freeCount := 0
    pending := [] }

end Sys2Proof.Machine
end

