-- ==== Sys2Proof/Machine/Settings.lean ====
section
/-! DEFINITION. The settings by name: each is one field of a bank (R2 to R9). Durations of a field in seconds, minutes
or days are given here in milliseconds. -/

namespace Sys2Proof.Machine

/-! ## CURVE (R2) -/

/-- The points in use of a curve, each a multiple in hundredths and an operate time in ms. -/
def Bank.curvePoints (b : Bank) (curve : Nat) : List (Nat × Nat) :=
  ((List.range 12).take (b.nat 0 curve 1)).map fun k => (b.nat 0 curve (3 + k), b.nat 0 curve (15 + k))

/-- The reset time of a curve. -/
def Bank.resetTime (b : Bank) (curve : Nat) : Nat := b.nat 0 curve 2

/-! ## ELEMENT (R3) -/

/-- Phase pickup, A. -/
def Bank.phasePickup (b : Bank) : Nat := b.nat 1 0 1

/-- Ground pickup, A. -/
def Bank.groundPickup (b : Bank) : Nat := b.nat 1 0 2

/-- Ground enable. -/
def Bank.groundEnable (b : Bank) : Bool := b.nat 1 0 3 = 1

/-- High-set threshold, A. -/
def Bank.highSetThreshold (b : Bank) : Nat := b.nat 1 0 4

/-- High-set count, frames. -/
def Bank.highSetCount (b : Bank) : Nat := b.nat 1 0 5

/-- High-current lockout threshold, A. -/
def Bank.highCurrentLockout (b : Bank) : Nat := b.nat 1 0 6

/-- Live voltage threshold, units of 10 V. -/
def Bank.liveVoltage (b : Bank) : Nat := b.nat 1 0 7

/-- Hold curve. -/
def Bank.holdCurve (b : Bank) : Nat := b.nat 1 0 8

/-- Hold time multiplier, hundredths. -/
def Bank.holdMultiplier (b : Bank) : Nat := b.nat 1 0 9

/-- Trap INVALID_SAMPLE. -/
def Bank.trapInvalid (b : Bank) : Bool := b.nat 1 0 10 = 1

/-- Trap OVERRANGE. -/
def Bank.trapOverrange (b : Bank) : Bool := b.nat 1 0 11 = 1

/-- Trap TIME_CLAMP. -/
def Bank.trapTimeClamp (b : Bank) : Bool := b.nat 1 0 12 = 1

/-- Link timeout, ms. -/
def Bank.linkTimeout (b : Bank) : Nat := b.nat 1 0 13

/-! ## SEQUENCE (R4) -/

/-- Shot count S. -/
def Bank.shotCount (b : Bank) : Nat := b.nat 2 0 1

/-- Reclaim time, ms. -/
def Bank.reclaimTime (b : Bank) : Nat := b.nat 2 0 2

/-- Close-onto-fault lockout option. -/
def Bank.closeOntoFaultLockout (b : Bank) : Bool := b.nat 2 0 3 = 1

/-- The warning delay of a CLOSE from a port, ms (R100). -/
def Bank.warningDelay (b : Bank) : PortId → Nat
  | .radio => b.nat 2 0 4
  | .crew => b.nat 2 0 5

/-- Phase curve of shot n. -/
def Bank.phaseCurve (b : Bank) (n : Nat) : Nat := b.nat 2 n 1

/-- Ground curve of shot n. -/
def Bank.groundCurve (b : Bank) (n : Nat) : Nat := b.nat 2 n 2

/-- Phase time multiplier of shot n, hundredths. -/
def Bank.phaseMultiplier (b : Bank) (n : Nat) : Nat := b.nat 2 n 3

/-- Ground time multiplier of shot n, hundredths. -/
def Bank.groundMultiplier (b : Bank) (n : Nat) : Nat := b.nat 2 n 4

/-- Dead time of shot n, ms. -/
def Bank.deadTime (b : Bank) (n : Nat) : Nat := b.nat 2 n 7

/-- Lockout gate condition code of shot n. -/
def Bank.gateCondition (b : Bank) (n : Nat) : Nat := b.nat 2 n 8

/-- High-set enable of shot n. -/
def Bank.highSetEnable (b : Bank) (n : Nat) : Bool := b.nat 2 n 5 = 1

/-- Trip mode of shot n: THREE_POLE (1), else SINGLE_POLE. -/
def Bank.threePole (b : Bank) (n : Nat) : Bool := b.nat 2 n 6 = 1

/-- Lockout gate sense of shot n: TRUE (1). -/
def Bank.gateSense (b : Bank) (n : Nat) : Bool := b.nat 2 n 9 = 1

/-! ## POLE (R5) -/

/-- Open pulse, ms. -/
def Bank.openPulse (b : Bank) : Nat := b.nat 3 0 1

/-- Close pulse, ms. -/
def Bank.closePulse (b : Bank) : Nat := b.nat 3 0 2

/-- Open window, ms. -/
def Bank.openWindow (b : Bank) : Nat := b.nat 3 0 3

/-- Close window, ms. -/
def Bank.closeWindow (b : Bank) : Nat := b.nat 3 0 4

/-- Retry enable. -/
def Bank.retryEnable (b : Bank) : Bool := b.nat 3 0 5 = 1

/-- Retry gap, ms. -/
def Bank.retryGap (b : Bank) : Nat := b.nat 3 0 6

/-- Trip reserve, tenths of a volt. -/
def Bank.tripReserve (b : Bank) : Nat := b.nat 3 0 7

/-- Close reserve, tenths of a volt. -/
def Bank.closeReserve (b : Bank) : Nat := b.nat 3 0 8

/-- Store target, tenths of a volt. -/
def Bank.storeTarget (b : Bank) : Nat := b.nat 3 0 9

/-! ## BATTERY (R6) -/

/-- Capacity, mAh. -/
def Bank.capacity (b : Bank) : Nat := b.nat 4 0 1

/-- Absorb voltage, mV. -/
def Bank.absorbVoltage (b : Bank) : Nat := b.nat 4 0 2

/-- Float voltage, mV. -/
def Bank.floatVoltage (b : Bank) : Nat := b.nat 4 0 3

/-- Rebulk margin, mV. -/
def Bank.rebulkMargin (b : Bank) : Nat := b.nat 4 0 4

/-- End current, mA. -/
def Bank.endCurrent (b : Bank) : Nat := b.nat 4 0 5

/-- Absorb time limit, in ms (the field is in minutes). -/
def Bank.absorbLimit (b : Bank) : Nat := b.nat 4 0 6 * 60000

/-- Maximum voltage, mV. -/
def Bank.maximumVoltage (b : Bank) : Nat := b.nat 4 0 7

/-- Temperature minimum, degrees Celsius. -/
def Bank.temperatureMin (b : Bank) : Int := b.int 4 0 8

/-- Temperature maximum, degrees Celsius. -/
def Bank.temperatureMax (b : Bank) : Int := b.int 4 0 9

/-- LOW threshold, mV. -/
def Bank.lowThreshold (b : Bank) : Nat := b.nat 4 0 10

/-- CRITICAL threshold, mV. -/
def Bank.criticalThreshold (b : Bank) : Nat := b.nat 4 0 11

/-- SHUTDOWN threshold, mV. -/
def Bank.shutdownThreshold (b : Bank) : Nat := b.nat 4 0 12

/-- Hysteresis, mV. -/
def Bank.hysteresis (b : Bank) : Nat := b.nat 4 0 13

/-- Test interval, in ms (the field is in days; 0 means none). -/
def Bank.testInterval (b : Bank) : Nat := b.nat 4 0 14 * 86400000

/-- Test duration, in ms (the field is in seconds). -/
def Bank.testDuration (b : Bank) : Nat := b.nat 4 0 15 * 1000

/-- Test abort voltage, mV. -/
def Bank.testAbortVoltage (b : Bank) : Nat := b.nat 4 0 16

/-- Weak-drop limit, mV. -/
def Bank.weakDrop (b : Bank) : Nat := b.nat 4 0 17

/-- Fail-drop limit, mV. -/
def Bank.failDrop (b : Bank) : Nat := b.nat 4 0 18

/-- R113: the full count, in units of 0.1 mA·s. -/
def Bank.fullCount (b : Bank) : Nat := b.capacity * 36000

/-! ## RADIO (R7) -/

/-- Ack timeout, in ms (the field is in seconds). -/
def Bank.ackTimeout (b : Bank) : Nat := b.nat 5 0 1 * 1000

/-- Retries per channel. -/
def Bank.retries (b : Bank) : Nat := b.nat 5 0 2

/-- Holdoff, in ms (the field is in seconds). -/
def Bank.holdoff (b : Bank) : Nat := b.nat 5 0 3 * 1000

/-- Periodic report period, in ms (the field is in minutes; 0 means none). -/
def Bank.periodicPeriod (b : Bank) : Nat := b.nat 5 0 4 * 60000

/-- Budget ceiling, units. -/
def Bank.budgetCeiling (b : Bank) : Nat := b.nat 5 0 5

/-- Refill, units per minute. -/
def Bank.refill (b : Bank) : Nat := b.nat 5 0 6

/-- The place of an event kind: START 0 to SHUTDOWN 32 (08, REPORT and NOTICE payloads). -/
def EventKind.place : EventKind → Nat
  | .start => 0
  | .defaultsInUse => 1
  | .storeHold => 2
  | .pickup => 3
  | .trip => 4
  | .reclose => 5
  | .reclaimOk => 6
  | .lockout => 7
  | .operatorTrip => 8
  | .operatorClose => 9
  | .closeRefused => 10
  | .mechFail => 11
  | .mechSlow => 12
  | .positionChange => 13
  | .holdSet => 14
  | .holdCleared => 15
  | .holdDuringClose => 16
  | .linkLost => 17
  | .linkRestored => 18
  | .sampleException => 19
  | .supplyLevel => 20
  | .acLost => 21
  | .acRestored => 22
  | .chargerFault => 23
  | .storeLow => 24
  | .testResult => 25
  | .doorOpen => 26
  | .crewAttached => 27
  | .crewDetached => 28
  | .bankSwapped => 29
  | .timeSet => 30
  | .measure => 31
  | .shutdown => 32

/-- The priority the report map gives an event kind; none is SUPPRESS (R7, R128). -/
def Bank.priority (b : Bank) (k : EventKind) : Option Priority :=
  match b.nat 5 0 (k.place + 7) with
  | 0 => some .urgent
  | 1 => some .normal
  | 2 => some .routine
  | _ => none

/-! ## LINES (R8) and RELAY (R9) -/

/-- The filter counts of the twelve inputs. -/
def Bank.filterCounts (b : Bank) : Inputs Nat :=
  let f := b.nat 6 0
  { aux := ⟨⟨f 1, f 2⟩, ⟨f 3, f 4⟩, ⟨f 5, f 6⟩⟩, cabinet := ⟨f 7, f 8, f 9, f 10, f 11, f 12⟩ }

/-- The masks of the six maskable inputs. -/
def Bank.lineMasks (b : Bank) : PerMask Bool :=
  let f := fun k => decide (b.nat 6 0 k = 1)
  ⟨f 13, f 14, f 15, f 16, f 17, f 18⟩

/-- The record of the RELAY table for an origin. -/
def relayRecord : PortId → Nat
  | .radio => 0
  | .crew => 1

/-- Whether a service code may be relayed from an origin. -/
def Bank.relayAllowed (b : Bank) (origin : PortId) (service : Nat) : Bool :=
  b.nat 7 (relayRecord origin) (service + 1) = 1

end Sys2Proof.Machine
end

