-- ==== Sys2Proof/Machine/Layout.lean ====
section
/-! DEFINITION. The byte layouts of what the part sends (08): field encodings (R164), report bodies (R129) and result
data. A value that does not fit its field is sent as 0 (00_scope, Arithmetic). -/

namespace Sys2Proof.Machine

/-! ## Encoding of fields (R164) -/

/-- A one-byte quantity. -/
def u8 (n : Nat) : List Byte := [if n < 256 then BitVec.ofNat 8 n else 0]

/-- A two-byte quantity. -/
def u16 (n : Nat) : List Byte := be16 (if n < 65536 then BitVec.ofNat 16 n else 0)

/-- A four-byte quantity. -/
def u32 (n : Nat) : List Byte := be32 (if n < 4294967296 then BitVec.ofNat 32 n else 0)

/-- Whether a quantity overflows its two bytes: its range flag. -/
def overflows16 (n : Nat) : Bool := 65536 ≤ n

/-- A flag or mark: 0 or 1. -/
def Bool.byte (x : Bool) : Byte := if x then 1 else 0

/-- A set of up to eight members, bit 0 for the first. -/
def bits (members : List Bool) : Byte :=
  members.foldr (fun x acc => (acc <<< 1) ||| Bool.byte x) 0

/-- A pole mask: A, B, C from bit 0. -/
def PoleMask.byte (m : PoleMask) : Byte := bits m.toList

/-- An element set: A, B, C, G, HS-A, HS-B, HS-C from bit 0. -/
def ElementSet.byte (e : ElementSet) : Byte := bits (e.time.toList ++ e.highSet.toList)

/-- An absent enumerated value is sent as 255. -/
def optByte {α : Type} (code : α → Byte) : Option α → Byte
  | some x => code x
  | none => 255

/-- A pole's code. -/
def Pole.code : Pole → Byte
  | .a => 0
  | .b => 1
  | .c => 2

/-- A channel's code. -/
def Channel.code : Channel → Byte
  | .a => 0
  | .b => 1
  | .c => 2
  | .g => 3

/-- A port's code where only ports appear. -/
def PortId.code : PortId → Byte
  | .radio => 0
  | .crew => 1

/-- A port's code where SEQUENCE, SCHEDULED or NONE (0) may also appear. -/
def originCode : Option PortId → Byte
  | none => 0
  | some .radio => 1
  | some .crew => 2

/-- Sequence states in R45. -/
def SeqState.code : SeqState → Byte
  | .reset => 0
  | .tripping => 1
  | .deadTime => 2
  | .closing => 3
  | .reclaim => 4
  | .lockout => 5

/-- Lockout causes in R63. -/
def LockoutCause.code : LockoutCause → Byte
  | .lastShot => 0
  | .gate => 1
  | .hold => 2
  | .evolving => 3
  | .mechFail => 4
  | .operator => 5
  | .closeOntoFault => 6
  | .supply => 7
  | .start => 8
  | .handle => 9
  | .poleFailed => 10
  | .poleBusy => 11
  | .positionUnknown => 12
  | .linkLost => 13
  | .supplyCritical => 14
  | .shutdown => 15
  | .energyLow => 16

/-- Positions in R68. -/
def Position.code : Position → Byte
  | .opened => 0
  | .closed => 1
  | .unknown => 2

/-- Mechanism states in R68. -/
def Mech.code : Mech → Byte
  | .idle => 0
  | .tripPulse => 1
  | .tripWait => 2
  | .tripRetry => 3
  | .closePulse => 4
  | .closeWait => 5
  | .failed => 6

/-- Last outcomes in R68. -/
def OpOutcome.code : OpOutcome → Byte
  | .success => 0
  | .retriedSuccess => 1
  | .failed => 2
  | .aborted => 3

/-- Element states in R29. -/
def ElementState.code : ElementState → Byte
  | .idle => 0
  | .timing => 1
  | .resetting => 2
  | .operated => 3

/-- Supply levels in R114. -/
def SupplyLevel.code : SupplyLevel → Byte
  | .normal => 0
  | .low => 1
  | .critical => 2
  | .shutdownPending => 3

/-- Charger states in R107. -/
def ChargerState.code : ChargerState → Byte
  | .off => 0
  | .bulk => 1
  | .absorb => 2
  | .float => 3
  | .test => 4
  | .fault => 5

/-- Charger fault conditions (08). -/
def FaultCondition.code : FaultCondition → Byte
  | .temperatureLow => 0
  | .temperatureHigh => 1
  | .overvoltage => 2

/-- Shutdown states (08). -/
def ShutdownState.code : ShutdownState → Byte
  | .none => 0
  | .waiting => 1
  | .asserted => 2

/-- Test grades. -/
def TestGrade.code : TestGrade → Byte
  | .pass => 0
  | .weak => 1
  | .fail => 2
  | .aborted => 3

/-- Test abort causes in R120. -/
def TestCause.code : TestCause → Byte
  | .element => 0
  | .trip => 1
  | .close => 2
  | .lowVoltage => 3
  | .acLost => 4
  | .abort => 5

/-- Test origins: SCHEDULED 0, RADIO 1, CREW 2. -/
def TestOrigin.code : TestOrigin → Byte
  | .scheduled => 0
  | .command r _ => originCode (some r.port)

/-- Transmitter states in R138. -/
def TxState.code : TxState → Byte
  | .idle => 0
  | .waitBudget => 1
  | .awaitAck => 2
  | .holdoff => 3
  | .disabled => 4

/-- Hold origins in R89. -/
def HoldOrigin.code : HoldOrigin → Byte
  | .lever => 0
  | .crew => 1
  | .radio => 2
  | .store => 3

/-- Priorities in R7. -/
def Priority.code : Priority → Byte
  | .urgent => 0
  | .normal => 1
  | .routine => 2

/-- Fault outcomes. -/
def FaultOutcome.code : FaultOutcome → Byte
  | .reclosedOk => 0
  | .lockout => 1
  | .tripFailed => 2

/-- Exception kinds in R41. -/
def ExceptionKind.code : ExceptionKind → Byte
  | .invalidSample => 0
  | .overrange => 1
  | .timeClamp => 2

/-- The AC level (08, BATTERY_READ): 0 present, 1 absent, 2 not yet accepted. -/
def acCode : InputLevel → Byte
  | .active => 0
  | .inactive => 1
  | .notYet => 2

/-- Command codes (08). -/
def CommandCode.code : CommandCode → Byte
  | .status => 1
  | .eventsRead => 2
  | .tableLoad => 3
  | .tableRead => 4
  | .bankCopy => 5
  | .bankSwap => 6
  | .bankRelease => 7
  | .trip => 8
  | .close => 9
  | .abort => 10
  | .holdSet => 11
  | .holdClear => 12
  | .holdList => 13
  | .flags => 14
  | .faultRead => 15
  | .exceptionRead => 16
  | .batteryRead => 17
  | .batteryTest => 18
  | .mechReset => 19
  | .timeSet => 20
  | .inputMask => 21
  | .restart => 22

/-- Result codes (08). -/
inductive ResultCode where
  | done
  | failed
  | aborted
  | busy
  | refused
  | badCommand
  | badArgument
  | notPermitted
deriving DecidableEq, Repr

/-- Result codes as sent. -/
def ResultCode.code : ResultCode → Byte
  | .done => 0
  | .failed => 1
  | .aborted => 2
  | .busy => 3
  | .refused => 4
  | .badCommand => 5
  | .badArgument => 6
  | .notPermitted => 7

/-- Refusal reasons (08). -/
inductive Reason where
  | hold
  | handle
  | poleBusy
  | poleFailed
  | positionUnknown
  | energyLow
  | supplyCritical
  | shutdown
  | linkLost
  | sequenceActive
  | closeInProgress
  | elementActive
  | testActive
  | testNotAllowed
  | shadowOwned
  | shadowInvalid
  | storeBusy
  | tableFull
  | notHolder
  | notAbortable
  | relayFull
deriving DecidableEq, Repr

/-- Refusal reasons as sent: 1 to 21. -/
def Reason.code : Reason → Byte
  | .hold => 1
  | .handle => 2
  | .poleBusy => 3
  | .poleFailed => 4
  | .positionUnknown => 5
  | .energyLow => 6
  | .supplyCritical => 7
  | .shutdown => 8
  | .linkLost => 9
  | .sequenceActive => 10
  | .closeInProgress => 11
  | .elementActive => 12
  | .testActive => 13
  | .testNotAllowed => 14
  | .shadowOwned => 15
  | .shadowInvalid => 16
  | .storeBusy => 17
  | .tableFull => 18
  | .notHolder => 19
  | .notAbortable => 20
  | .relayFull => 21

/-! ## The frame on the line -/

/-- Destination codes. -/
def Destination.code : Destination → Byte
  | .part => 0
  | .tankHead => 1
  | .master => 2
  | .crewHandset => 3

/-- Kind codes. -/
def FrameKind.code : FrameKind → Byte
  | .measure => 0
  | .relay => 1
  | .relayReply => 2
  | .command => 3
  | .result => 4
  | .report => 5
  | .reportAck => 6
  | .notice => 7

/-- The flags byte. -/
def FrameFlags.byte (f : FrameFlags) : Byte :=
  bits [decide (f.channel = .alternate), f.overrun, f.backlog, f.timeSet, f.more, decide (f.origin = .crew)]

/-- All flags 0. -/
def FrameFlags.none : FrameFlags :=
  { channel := .primary, overrun := false, backlog := false, timeSet := false, more := false, origin := .radio }

/-- The frame as it travels, without its check. -/
def Frame.raw (f : Frame) : RawFrame :=
  { destination := f.destination.code, kind := f.kind.code, number := f.number, flags := f.flags.byte,
    payload := f.payload }

/-- The bytes of a frame, check included (R162). -/
def Frame.bytes (f : Frame) : List Byte := f.raw.bytes

/-! ## Report bodies (R129) -/

/-- PICKUP: channels that left IDLE; frame number; magnitudes. -/
def pickupBody (left : PerChannel Bool) (number : Half) (magnitudes : PerChannel Nat) : List Byte :=
  [bits left.toList] ++ be16 number ++ magnitudes.toList.flatMap u16

/-- TRIP: mask; shot; record; elements; clearing time; range flags. -/
def tripBody (mask : PoleMask) (shot : Nat) (record : Half) (elements : ElementSet) (clearing : Nat) : List Byte :=
  [PoleMask.byte mask] ++ u8 shot ++ be16 record ++ [ElementSet.byte elements] ++ u16 clearing ++
    [bits [overflows16 clearing]]

/-- RECLOSE: mask; shot; record. -/
def recloseBody (mask : PoleMask) (shot : Nat) (record : Half) : List Byte :=
  [PoleMask.byte mask] ++ u8 shot ++ be16 record

/-- LOCKOUT: cause; record closed at entry. -/
def lockoutBody (cause : LockoutCause) (record : Half) : List Byte := [LockoutCause.code cause] ++ be16 record

/-- OPERATOR_TRIP source: RADIO 0, CREW 1, HANDLE 2. -/
def tripSourceCode : Option PortId → Byte
  | some .radio => 0
  | some .crew => 1
  | none => 2

/-- OPERATOR_CLOSE: origin; mask; warning delay. -/
def operatorCloseBody (port : PortId) (mask : PoleMask) (delay : Nat) : List Byte :=
  [PortId.code port, PoleMask.byte mask] ++ u16 delay

/-- CLOSE_REFUSED: reason; origin; mask. -/
def closeRefusedBody (reason : Reason) (origin : Option PortId) (mask : PoleMask) : List Byte :=
  [Reason.code reason, originCode origin, PoleMask.byte mask]

/-- MECH_FAIL: pole; kind (TRIP 0, CLOSE 1); operations since start. -/
def mechFailBody (p : Pole) (close : Bool) (ops : Word) : List Byte := [Pole.code p, Bool.byte close] ++ be32 ops

/-- HOLD_SET and HOLD_CLEARED: slot; origin; crew tag; scope; profile flag. -/
def holdBody (slot : Nat) (h : Hold) : List Byte :=
  u8 slot ++ [HoldOrigin.code h.origin] ++ be16 h.tag ++ [PoleMask.byte h.scope, Bool.byte h.profile]

/-- HOLD_DURING_CLOSE: the new hold's slot and scope; close origin; close mask. -/
def holdDuringCloseBody (slot : Nat) (scope : PoleMask) (origin : Option PortId) (mask : PoleMask) : List Byte :=
  u8 slot ++ [PoleMask.byte scope, originCode origin, PoleMask.byte mask]

/-- SAMPLE_EXCEPTION: kind; channel; frame number; time tag. -/
def exceptionBody (e : ExceptionEntry) : List Byte :=
  [ExceptionKind.code e.kind, Channel.code e.channel] ++ be16 e.number ++ be32 e.tag

/-- A signed two-byte quantity. -/
def i16 (x : Int) : List Byte := be16 (BitVec.ofInt 16 x)

/-- A signed one-byte quantity. -/
def i8 (x : Int) : List Byte := [BitVec.ofInt 8 x]

/-- CHARGER_FAULT: condition; battery voltage; temperature. -/
def chargerFaultBody (c : FaultCondition) (voltage : Nat) (temperature : Int) : List Byte :=
  [FaultCondition.code c] ++ u16 voltage ++ i8 temperature

/-- A test record (13 bytes). -/
def testRecordBytes (r : TestRecord) : List Byte :=
  be32 r.startTag ++ u16 r.startVoltage ++ u16 r.minVoltage ++ u16 r.drop ++
    [TestGrade.code r.grade, optByte TestCause.code r.cause, TestOrigin.code r.origin]

/-- TEST_RESULT: start and end time tag; voltages; drop; grade; abort cause; origin. -/
def testResultBody (r : TestRecord) (endTag : Word) : List Byte :=
  be32 r.startTag ++ be32 endTag ++ u16 r.startVoltage ++ u16 r.minVoltage ++ u16 r.drop ++
    [TestGrade.code r.grade, optByte TestCause.code r.cause, TestOrigin.code r.origin]

/-- The sixteen line bytes of the latest measurement record, in the MEASURE layout. -/
def lineBytes (m : Measurement) : List Byte :=
  m.currents.toList.flatMap (fun r => u16 r.value) ++
  [m.currents.a.mark.code ++ m.currents.b.mark.code ++ m.currents.c.mark.code ++ m.currents.g.mark.code] ++
  m.voltages.toList.flatMap (fun r => u16 r.value) ++
  [m.voltages.a.mark.code ++ m.voltages.b.mark.code ++ m.voltages.c.mark.code ++ 0#2]

/-- R113: the state of charge, in whole per cent. -/
def stateOfCharge (bank : Bank) (b : Battery) : Nat := b.coulomb * 100 / bank.fullCount

/-- R147: the MEASURE report's body. -/
def measureBody (s : State) : List Byte :=
  let counts := [s.port.discarded.tank.toNat, s.port.discarded.radio.toNat, s.port.discarded.crew.toNat,
    s.port.gaps.toNat]
  lineBytes s.prot.latest ++
  u16 s.batt.voltage ++ i16 s.batt.current ++ u16 s.poles.storeVoltage ++ u8 (stateOfCharge s.store.active s.batt) ++
  counts.flatMap u16 ++
  [bits (counts.map overflows16 ++ [s.batt.estimated])]

/-! ## Result data (08) -/

/-- The outcomes of three poles; 255 for a pole with none. -/
def outcomeBytes (o : PerPole (Option OpOutcome)) : List Byte := o.toList.map (optByte OpOutcome.code)

/-- A fault record (22 bytes). -/
def faultRecordBytes (r : FaultRecord) : List Byte :=
  be16 r.number ++ be32 r.startTag ++ u8 r.shots ++ r.maxima.toList.flatMap u16 ++
  [ElementSet.byte r.elements, PoleMask.byte r.lastMask] ++ u16 r.clearing ++ [bits [overflows16 r.clearing]] ++
  [optByte FaultOutcome.code r.outcome, optByte LockoutCause.code r.cause]

/-- R44: EXCEPTION_READ's data (10 bytes). -/
def exceptionData (p : Protection) : List Byte :=
  match p.exception with
  | some e => [1] ++ exceptionBody e ++ [Bool.byte p.latestFlag]
  | none => [0, 0, 0, 0, 0, 0, 0, 0, 0, Bool.byte p.latestFlag]

/-- The holds standing, each with its slot, in slot order (R89). -/
def HoldUnit.table (h : HoldUnit) : List (Nat × Hold) :=
  ((h.lever :: h.slots.toList).zipIdx).filterMap fun (x, slot) => x.map fun hold => (slot, hold)

/-- R90: the hold profile is in force. -/
def HoldUnit.profileInForce (h : HoldUnit) : Bool := h.table.any fun (_, hold) => hold.profile

/-- The byte of STATUS and HOLD_LIST: the number of holds, the record present, the profile in force. -/
def holdSummaryByte (h : HoldUnit) : Byte :=
  BitVec.ofNat 8 h.table.length ||| (if h.close.isSome then 0x40 else 0) ||| (if h.profileInForce then 0x80 else 0)

/-- A hold (10 bytes). -/
def holdBytes (x : Nat × Hold) : List Byte :=
  u8 x.1 ++ [HoldOrigin.code x.2.origin] ++ be16 x.2.tag ++ [PoleMask.byte x.2.scope, Bool.byte x.2.profile] ++
    be32 x.2.setTag

/-- The milliseconds left on a timer; 0 when stopped or reached. -/
def msLeft (now : Nat) (t : Timer) : Nat :=
  match t with
  | some e => e - now
  | none => 0

/-- `n` bytes that the manual does not give, from the `k`-th free byte on (log 21). -/
def absentBytes (k n : Nat) : List Byte := (List.range n).map fun i => Config.absentByte (k + i)

/-- HOLD_LIST's four summary bytes (R98). With no close record its mask, origin, phase and time are free (log 21, from
the `k`-th free byte on). -/
def holdListSummary (k now : Nat) (h : HoldUnit) : List Byte :=
  match h.close with
  | some r =>
    let origin : Byte := if r.cmd.port = .crew then 0x10 else 0
    let phase : Byte := if r.phase = .pulsing then 0x20 else 0
    [holdSummaryByte h, PoleMask.byte r.mask ||| origin ||| phase] ++
      u16 (if r.phase = .warning then r.warningEnd - now else 0)
  | none => [holdSummaryByte h, Config.absentByte k &&& 0x37] ++ absentBytes (k + 1) 2

/-- A list in groups of at most `k + 1`. -/
def groups {α : Type} (k : Nat) : Nat → List α → List (List α)
  | 0, _ => []
  | fuel + 1, l => if l.length ≤ k + 1 then [l] else l.take (k + 1) :: groups k fuel (l.drop (k + 1))

/-- R98: the result data of HOLD_LIST's frames, up to four holds each, the first opening with the summary. -/
def holdListFrames (k now : Nat) (h : HoldUnit) : List (List Byte) :=
  match groups 3 8 h.table with
  | g :: gs => (holdListSummary k now h ++ g.flatMap holdBytes) :: gs.map (·.flatMap holdBytes)
  | [] => [holdListSummary k now h]

/-- A pole's byte in STATUS: position in bits 7..6, failed mark in bit 5, mechanism state in bits 2..0. -/
def poleByte (r : PoleRecord) : Byte :=
  (Position.code r.position <<< 6) ||| (if r.failed then 0x20 else 0) ||| Mech.code r.mech

/-- The seven counts of R149, in STATUS order. -/
def sevenCounts (p : PortUnit) : List Nat :=
  [p.accepted.tank.toNat, p.discarded.tank.toNat, p.accepted.radio.toNat, p.discarded.radio.toNat,
   p.accepted.crew.toNat, p.discarded.crew.toNat, p.gaps.toNat]

/-- STATUS, frame 1 (36 bytes; R176, R177). No charger state, which R109 says STATUS reads (log 43). -/
def statusFirst (s : State) : List Byte :=
  let e := s.prot.elements
  let counts := sevenCounts s.port
  [SeqState.code s.seq.state, if s.seq.state = .lockout then LockoutCause.code s.seq.cause else 255] ++
  u8 s.seq.shot ++
  [bits s.seq.userFlags.toList, originCode s.store.owner, Bool.byte (!s.prot.linkUp), SupplyLevel.code s.batt.level,
   holdSummaryByte s.holds,
   ElementState.code e.a.state ||| (ElementState.code e.b.state <<< 2) ||| (ElementState.code e.c.state <<< 4) |||
     (ElementState.code e.g.state <<< 6)] ++
  s.poles.pole.toList.map poleByte ++
  s.poles.pole.toList.map (fun r => optByte OpOutcome.code r.last) ++
  u16 s.poles.storeVoltage ++
  u8 s.rep.queue.length ++ [TxState.code s.rep.tx] ++ u16 s.rep.budget ++
  counts.flatMap u16 ++ [bits (counts.map overflows16)]

/-- STATUS, frame 2 (38 bytes; R176, R177). No charger state here either (log 43). -/
def statusSecond (s : State) : List Byte :=
  s.poles.pole.toList.flatMap (fun r => be32 r.ops) ++
  be16 s.prot.latest.number ++ be32 s.prot.latest.tag ++ lineBytes s.prot.latest ++
  u16 s.batt.voltage ++ u8 (stateOfCharge s.store.active s.batt) ++ [Bool.byte s.batt.estimated]

/-- BATTERY_READ, frame 1 (31 bytes; R123). With no test running its origin is absent and its quantities are
free (log 21). -/
def batteryFirst (s : State) : List Byte :=
  let b := s.batt
  u16 b.voltage ++ i16 b.current ++ u16 s.poles.storeVoltage ++ i8 b.temperature ++
  [Bool.byte b.readingTaken, acCode b.ac, ChargerState.code b.charger, optByte FaultCondition.code b.pendingFault] ++
  u32 b.coulomb ++ u32 s.store.active.fullCount ++ u8 (stateOfCharge s.store.active b) ++ [Bool.byte b.estimated] ++
  [SupplyLevel.code b.level, ShutdownState.code b.shutdown] ++
  match b.test with
  | some t =>
    [1, TestOrigin.code t.origin] ++ u16 t.startVoltage ++ u16 t.minVoltage ++ u16 (msLeft s.time.baseCount t.timer)
  | none => [0, 255] ++ absentBytes s.freeCount 6

/-- BATTERY_READ, frame 2 (20 bytes; R123). An absent record's enumerated values are 255, its quantities free;
so are the minutes left on a retry wait that does not run (log 21). -/
def batterySecond (s : State) : List Byte :=
  let b := s.batt
  (match b.lastTest with
   | some r => [1] ++ testRecordBytes r
   | none => [0] ++ absentBytes (s.freeCount + 6) 10 ++ [255, 255, 255]) ++
  (match b.nextDue with
   | some d => u32 ((d - s.time.baseCount) / 60000)
   | none => [255, 255, 255, 255]) ++
  match b.retryWait with
  | some e => [1] ++ u8 ((e - s.time.baseCount) / 60000)
  | none => [0] ++ absentBytes (s.freeCount + 16) 1

/-- R15: a TABLE_READ frame's data: bank, table, record, pair count, pairs. -/
def tableReadFrame (bank table record : Byte) (pairs : List FieldPair) : List Byte :=
  [bank, table, record] ++ u8 pairs.length ++ pairs.flatMap FieldPair.bytes

end Sys2Proof.Machine
end

