-- ==== Sys2Proof/Machine/Ops.lean ====
section
/-! DEFINITION. The operations every family uses: time, counts, the outcome of a command, the outputs, and the marks of
which blocks an operation may change. -/

namespace Sys2Proof.Machine

/-- The present instant (R179). -/
def State.now (s : State) : Nat := s.time.baseCount

/-- Whether a timer runs and its expiry instant has been reached. -/
def Timer.due (t : Timer) (now : Nat) : Bool :=
  match t with
  | some e => decide (e ≤ now)
  | none => false

/-- A count that saturates at 4,294,967,295 (R149). -/
def satInc (w : Word) : Word := if w = 0xFFFFFFFF#32 then w else w + 1

/-- A command's outcome: the part takes it while its supply is applied; a part without supply takes nothing (log 7). -/
def run (s : State) (f : State → State) : Host.Outcome State Fault Refusal := .next (if s.powered then f s else s)

/-- A timer's expiry is taken when the timer runs and is due; otherwise there is no such expiry (log 4). -/
def onExpiry (t : State → Timer) (f : State → State) (s : State) : State := if (t s).due s.now then f s else s

/-! ## Which blocks an operation changes

Each names the blocks of `t` that replace those of `s`; a shared operation that is written with one of them changes
no other block, by definition. -/

/-- An event, or the radio's work on reports: Report Unit and Port Unit. -/
def State.onlyReport (s t : State) : State := { s with rep := t.rep, port := t.port }

/-- An answer: Command Unit and Port Unit. -/
def State.onlyAnswer (s t : State) : State := { s with cmd := t.cmd, port := t.port }

/-- The Battery Unit's work with its events and answers. -/
def State.onlyBattery (s t : State) : State := { s with batt := t.batt, rep := t.rep, port := t.port, cmd := t.cmd }

/-- The end of an operator close record: Hold Unit and Line Unit with their events and answers. -/
def State.onlyClose (s t : State) : State :=
  { s with holds := t.holds, line := t.line, rep := t.rep, port := t.port, cmd := t.cmd }

/-- A trip notice: Battery Unit and the operator close record. -/
def State.onlyNotice (s t : State) : State :=
  { s with batt := t.batt, holds := t.holds, line := t.line, rep := t.rep, port := t.port, cmd := t.cmd }

/-- The Pole Drive's work: pole records, and what its notices and events reach. -/
def State.onlyPoles (s t : State) : State :=
  { s with poles := t.poles, batt := t.batt, holds := t.holds, line := t.line, rep := t.rep, port := t.port,
           cmd := t.cmd }

/-- The Sequence Controller's work: sequence and elements, and what the Pole Drive's work reaches. -/
def State.onlySequence (s t : State) : State :=
  { s with seq := t.seq, prot := t.prot, poles := t.poles, batt := t.batt, holds := t.holds, line := t.line,
           rep := t.rep, port := t.port, cmd := t.cmd, freeCount := t.freeCount }

/-- Free values used: the counter goes on past them. -/
def State.spend (n : Nat) (s : State) : State := { s with freeCount := s.freeCount + n }

/-! ## Outputs (R185) -/

/-- The tones of SOUNDER (R185). -/
inductive Tone where
  | off
  | alarm
  | warning
deriving DecidableEq, Repr

/-- The output lines (00_scope, R185). -/
structure Outputs where
  trip : PerPole Bool
  close : PerPole Bool
  storeCharge : Bool
  chargerEnable : Bool
  chargerBoost : Bool
  testLoad : Bool
  shutdown : Bool
  lockoutLamp : Bool
  sounder : Tone
deriving DecidableEq, Repr

/-- R186: WARNING while the WARNING request is present, ALARM while it is absent and the ALARM end is set, else OFF. -/
def LineUnit.tone (l : LineUnit) : Tone :=
  if l.warningEnd.isSome then .warning else if l.alarmEnd.isSome then .alarm else .off

/-- The level of every output line: each follows its owner's state in the step in which that changes (R71, R82, R109,
R118, R125, R185, R186). -/
def State.outputs (s : State) : Outputs :=
  { trip := s.poles.pole.map fun r => decide (r.mech = .tripPulse)
    close := s.poles.pole.map fun r => decide (r.mech = .closePulse)
    storeCharge := s.poles.charging
    chargerEnable := decide (s.batt.charger = .bulk ∨ s.batt.charger = .absorb ∨ s.batt.charger = .float)
    chargerBoost := decide (s.batt.charger = .bulk ∨ s.batt.charger = .absorb)
    testLoad := s.batt.test.isSome
    shutdown := decide (s.batt.shutdown = .asserted)
    lockoutLamp := s.seq.lamp
    sounder := s.line.tone }

/-! ## The sounder's entries (R186) -/

/-- An ALARM request: 2 s from now, if that is later than the present ALARM end. -/
def State.askAlarm (s : State) : State :=
  let e := s.now + 2000
  let later := match s.line.alarmEnd with
    | some a => if a < e then e else a
    | none => e
  { s with line := { s.line with alarmEnd := some later } }

/-- The withdrawal of the WARNING request (R106). -/
def State.withdrawWarning (s : State) : State := { s with line := { s.line with warningEnd := none } }

end Sys2Proof.Machine
end

