-- ==== Sys2Proof/Machine/Operands.lean ====
section
/-! DEFINITION. The operand forms of commands: pole masks, action codes, record and field names. -/

namespace Sys2Proof.Machine

/-- A pole mask received in a command: a bad argument if it is 0 or has a bit above bit 2 (R164). -/
def poleMaskArg (b : Byte) : Option PoleMask :=
  if b.toNat = 0 ∨ 7 < b.toNat then none else some ⟨b.getLsbD 0, b.getLsbD 1, b.getLsbD 2⟩

/-- A FLAGS action (R54): NONE, SET, CLEAR, TOGGLE. -/
inductive FlagAction where
  | none
  | set
  | clear
  | toggle
deriving DecidableEq, Repr

/-- A FLAGS action code; above 3 is a bad argument. -/
def flagActionArg (b : Byte) : Option FlagAction :=
  match b.toNat with
  | 0 => some .none
  | 1 => some .set
  | 2 => some .clear
  | 3 => some .toggle
  | _ => Option.none

/-- The four actions of a FLAGS command, or none if any is bad. -/
def flagActionsArg (a : PerFlag Byte) : Option (PerFlag FlagAction) :=
  match flagActionArg a.f0, flagActionArg a.f1, flagActionArg a.f2, flagActionArg a.f3 with
  | some x0, some x1, some x2, some x3 => some ⟨x0, x1, x2, x3⟩
  | _, _, _, _ => none

/-- An INPUT_MASK action (R184): NONE, ENABLE, DISABLE. -/
inductive MaskAction where
  | none
  | enable
  | disable
deriving DecidableEq, Repr

/-- An INPUT_MASK action code; above 2 is a bad argument. -/
def maskActionArg (b : Byte) : Option MaskAction :=
  match b.toNat with
  | 0 => some .none
  | 1 => some .enable
  | 2 => some .disable
  | _ => Option.none

/-- The six actions of an INPUT_MASK command, or none if any is bad. -/
def maskActionsArg (a : PerMask Byte) : Option (PerMask MaskAction) :=
  match maskActionArg a.holdLever, maskActionArg a.manualTrip, maskActionArg a.door, maskActionArg a.acPresent,
    maskActionArg a.crewPresent, maskActionArg a.radioReady with
  | some x0, some x1, some x2, some x3, some x4, some x5 => some ⟨x0, x1, x2, x3, x4, x5⟩
  | _, _, _, _, _, _ => none

/-- A profile flag: a value above 1 is a bad argument (R91). -/
def profileArg (b : Byte) : Option Bool :=
  match b.toNat with
  | 0 => some false
  | 1 => some true
  | _ => none

/-- The origin of a hold placed from a port (R91). -/
def PortId.holdOrigin : PortId → HoldOrigin
  | .radio => .radio
  | .crew => .crew

/-- The other port. -/
def PortId.other : PortId → PortId
  | .radio => .crew
  | .crew => .radio

/-- The reasons of the close gate, in the order of its conditions (R84). -/
inductive GateReason where
  | hold
  | handle
  | poleFailed
  | poleBusy
  | positionUnknown
  | linkLost
  | supplyCritical
  | shutdown
  | energyLow
deriving DecidableEq, Repr

/-- A gate reason as a refusal reason. -/
def GateReason.reason : GateReason → Reason
  | .hold => .hold
  | .handle => .handle
  | .poleFailed => .poleFailed
  | .poleBusy => .poleBusy
  | .positionUnknown => .positionUnknown
  | .linkLost => .linkLost
  | .supplyCritical => .supplyCritical
  | .shutdown => .shutdown
  | .energyLow => .energyLow

/-- A gate reason as a lockout cause (R57, R63). -/
def GateReason.cause : GateReason → LockoutCause
  | .hold => .hold
  | .handle => .handle
  | .poleFailed => .poleFailed
  | .poleBusy => .poleBusy
  | .positionUnknown => .positionUnknown
  | .linkLost => .linkLost
  | .supplyCritical => .supplyCritical
  | .shutdown => .shutdown
  | .energyLow => .energyLow

end Sys2Proof.Machine
end

