-- ==== Sys2Proof/Machine/Flags.lean ====
section
/-! DEFINITION. Flags: user flags (R54), event flags (R183), and the event that a maskable input's change raises. -/

namespace Sys2Proof.Machine

/-- A user flag after an action (R54). -/
def FlagAction.apply (flag : Bool) : FlagAction → Bool
  | .none => flag
  | .set => true
  | .clear => false
  | .toggle => !flag

/-- A live mask after an action (R184). -/
def MaskAction.apply (mask : Bool) : MaskAction → Bool
  | .none => mask
  | .enable => true
  | .disable => false

/-- The maskable inputs, in INPUT_MASK order (R183). -/
inductive MaskInput where
  | holdLever
  | manualTrip
  | door
  | acPresent
  | crewPresent
  | radioReady
deriving DecidableEq, Repr

/-- The member of one maskable input. -/
def MaskInput.get {α : Type} (i : MaskInput) (v : PerMask α) : α :=
  match i with
  | .holdLever => v.holdLever
  | .manualTrip => v.manualTrip
  | .door => v.door
  | .acPresent => v.acPresent
  | .crewPresent => v.crewPresent
  | .radioReady => v.radioReady

/-- Replace the member of one maskable input. -/
def MaskInput.set {α : Type} (i : MaskInput) (v : PerMask α) (x : α) : PerMask α :=
  match i with
  | .holdLever => { v with holdLever := x }
  | .manualTrip => { v with manualTrip := x }
  | .door => { v with door := x }
  | .acPresent => { v with acPresent := x }
  | .crewPresent => { v with crewPresent := x }
  | .radioReady => { v with radioReady := x }

/-- The event that an accepted change of a maskable input raises under its mask (R183). -/
def MaskInput.event (i : MaskInput) (active : Bool) : Option EventKind :=
  match i, active with
  | .door, true => some .doorOpen
  | .acPresent, true => some .acRestored
  | .acPresent, false => some .acLost
  | .crewPresent, true => some .crewAttached
  | .crewPresent, false => some .crewDetached
  | _, _ => none

/-- An input's flag set in both ports' event flag sets (R183). -/
def LineUnit.setFlags (l : LineUnit) (i : MaskInput) : LineUnit :=
  { l with radioFlags := i.set l.radioFlags true, crewFlags := i.set l.crewFlags true }

/-- One port's event flag set (R178). -/
def LineUnit.flags (l : LineUnit) : PortId → PerMask Bool
  | .radio => l.radioFlags
  | .crew => l.crewFlags

/-- One port's event flag set cleared (R178). -/
def LineUnit.clearFlags (l : LineUnit) : PortId → LineUnit
  | .radio => { l with radioFlags := .all false }
  | .crew => { l with crewFlags := .all false }

/-- A set of event flags in INPUT_MASK order from bit 0 (08). -/
def eventFlagByte (f : PerMask Bool) : Byte := bits f.toList

/-- A set of user flags, 0 to 3 from bit 0 (R164). -/
def userFlagByte (f : PerFlag Bool) : Byte := bits f.toList

end Sys2Proof.Machine
end

