-- ==== Sys2Proof/Machine/PortOps.lean ====
section
/-! DEFINITION. The Port Unit's lists and lines: handing a frame over, beginning a transmission (R152, R155 to R161). -/

namespace Sys2Proof.Machine

/-- R155: when the tank line is free and the queue is not empty, the oldest frame begins. -/
def PortUnit.tankBegin (p : PortUnit) : PortUnit :=
  if p.tankBusy then p else { p with tankBusy := !p.tankQueue.isEmpty }

/-- R157: when the radio line is free and the level active, the oldest reply begins, else the handed REPORT frame. -/
def PortUnit.radioBegin (p : PortUnit) : PortUnit :=
  if p.radioLine.isSome ∨ p.radioReady ≠ .active then p
  else
    match p.radioPending with
    | f :: rest => { p with radioLine := some f, radioPending := rest }
    | [] =>
      match p.handedReport with
      | some f => { p with radioLine := some f, handedReport := none }
      | none => p

/-- R158: a reply handed to the radio port is appended if the list holds fewer than 4 frames, else dropped. Answers
the port and whether the frame was dropped. -/
def PortUnit.handReply (p : PortUnit) (f : OutFrame) : PortUnit × Bool :=
  if p.radioPending.length < 4 then ({ p with radioPending := p.radioPending ++ [f] }.radioBegin, false)
  else (p, true)

/-- R159: a REPORT frame handed over is kept until its transmission begins. -/
def PortUnit.handReport (p : PortUnit) (f : OutFrame) : PortUnit := { p with handedReport := some f }.radioBegin

/-- R159: a handed REPORT frame not yet begun is forgotten. -/
def PortUnit.withdrawReport (p : PortUnit) : PortUnit := { p with handedReport := none }

/-- R161: when the crew line is free and the list is not empty, the oldest frame begins and leaves the list. -/
def PortUnit.crewBegin (p : PortUnit) : PortUnit :=
  if p.crewLine.isSome then p
  else
    match p.crewList with
    | f :: rest => { p with crewLine := some f, crewList := rest }
    | [] => p

/-- R161: a frame handed to the crew port: dropped with the level not active or the list full, else appended. -/
def PortUnit.handCrew (p : PortUnit) (f : OutFrame) : PortUnit × Bool :=
  if p.crewPresent ≠ .active ∨ 8 ≤ p.crewList.length then (p, true)
  else ({ p with crewList := p.crewList ++ [f] }.crewBegin, false)

/-- A frame handed to an outer port's output. -/
def PortUnit.hand (p : PortUnit) (port : PortId) (f : OutFrame) : PortUnit × Bool :=
  match port with
  | .radio => p.handReply f
  | .crew => p.handCrew f

/-- The master station's or the handset's destination (R162). -/
def PortId.destination : PortId → Destination
  | .radio => .master
  | .crew => .crewHandset

/-- The member of one port. -/
def PerPort.get {α : Type} (v : PerPort α) : RunPort → α
  | .tank => v.tank
  | .radio => v.radio
  | .crew => v.crew

/-- Replace the member of one port. -/
def PerPort.set {α : Type} (v : PerPort α) (p : RunPort) (x : α) : PerPort α :=
  match p with
  | .tank => { v with tank := x }
  | .radio => { v with radio := x }
  | .crew => { v with crew := x }

/-- A frame is accepted: the port's accepted count rises by one (R150). -/
def State.countAccepted (s : State) (p : RunPort) : State :=
  { s with port := { s.port with accepted := s.port.accepted.set p (satInc (s.port.accepted.get p)) } }

/-- A run is discarded: the port's discarded count rises by one, and no block sees it (R150). -/
def State.countDiscarded (s : State) (p : RunPort) : State :=
  { s with port := { s.port with discarded := s.port.discarded.set p (satInc (s.port.discarded.get p)) } }

/-- A frame of good form arrives on a port: the crew port takes nothing in while its level is not active (R150, R152);
a payload longer than 48 bytes is no frame (R150). An accepted frame is counted and handed on. -/
def arrive (p : RunPort) (length : Nat) (handOn : State → State) (s : State) : State :=
  if (p = .crew ∧ s.port.crewPresent ≠ .active) ∨ 48 < length then s.countDiscarded p
  else handOn (s.countAccepted p)

end Sys2Proof.Machine
end

