-- ==== Sys2Proof/Machine/ReportOps.lean ====
section
/-! DEFINITION. Events and reports: raising an event (R128), the queue (R130 to R135), NOTICE copies (R136), selection
(R137, R138) and sending (R139). -/

namespace Sys2Proof.Machine

/-- The payload of a REPORT or NOTICE frame (08). -/
def reportPayload (e : ReportEntry) (attempts : Nat) : List Byte :=
  [Priority.code e.priority, BitVec.ofNat 8 e.kind.place] ++ be32 e.tag ++ u16 attempts ++ e.body

/-- R139, R162: the REPORT frame of an entry as it is sent, with the flags as they stand. -/
def reportFrame (r : ReportUnit) (e : ReportEntry) : Frame :=
  { destination := .master, kind := .report, number := e.number,
    flags := { channel := e.resume, overrun := r.overrun, backlog := r.backlog, timeSet := e.timeSet, more := false,
               origin := .radio },
    payload := reportPayload e e.attempts }

/-- R136, R162: the NOTICE of an entry. -/
def noticeFrame (r : ReportUnit) (e : ReportEntry) : Frame :=
  { destination := .crewHandset, kind := .notice, number := e.number,
    flags := { channel := .primary, overrun := r.overrun, backlog := r.backlog, timeSet := e.timeSet, more := false,
               origin := .radio },
    payload := reportPayload e 0 }

/-- The report number after one: 65535 wraps to 1, passing over 0 (R131). -/
def numberAfter (n : Half) : Half := if n = 0xFFFF#16 then 1 else n + 1

/-- R131: the first number from `n` on that no entry in the queue holds; 65 tries always find one. -/
def freeNumber : Nat → List ReportEntry → Half → Half
  | 0, _, n => n
  | tries + 1, q, n => if q.any (fun e => e.number = n) then freeNumber tries q (numberAfter n) else n

/-- The transmissions of a fresh allowance (R130). -/
def freshAllowance (b : Bank) : Nat := 1 + b.retries

/-- R130: a new entry. -/
def newEntry (s : State) (k : EventKind) (p : Priority) (body : List Byte) (n : Half) : ReportEntry :=
  { number := n, priority := p, kind := k, tag := s.time.timeTag, timeSet := s.time.timeSet, body := body,
    cost := 1 + body.length / 16, attempts := 0, channel := none, resume := .primary,
    allowance := freshAllowance s.store.active, inFlight := false, overrunCarried := false }

/-- The oldest QUEUED entry of a priority taken out of the queue. -/
def removeOldest (p : Priority) : List ReportEntry → Option (List ReportEntry)
  | [] => none
  | e :: rest => if e.priority = p ∧ !e.inFlight then some rest else (removeOldest p rest).map (e :: ·)

/-- R133: the full queue after a displacement for a new entry of a priority; none when the new entry is dropped. -/
def displace (q : List ReportEntry) : Priority → Option (List ReportEntry)
  | .routine => none
  | .normal => removeOldest .routine q
  | .urgent => (removeOldest .routine q).orElse fun _ => removeOldest .normal q

/-- R134: a drop or displacement sets OVERRUN and clears every overrun-carried mark. -/
def ReportUnit.markLoss (r : ReportUnit) : ReportUnit :=
  { r with overrun := true, queue := r.queue.map fun e => { e with overrunCarried := false } }

/-- R132, R135: an entry appended at the newest end; reaching 32 sets BACKLOG. -/
def ReportUnit.append (r : ReportUnit) (e : ReportEntry) : ReportUnit :=
  { r with queue := r.queue ++ [e], nextNumber := numberAfter e.number,
           backlog := r.backlog || decide (r.queue.length + 1 = 32) }

/-- R137: an entry is eligible when QUEUED and, at CRITICAL or SHUTDOWN_PENDING, when URGENT. -/
def ReportEntry.eligible (level : SupplyLevel) (e : ReportEntry) : Bool :=
  !e.inFlight && (decide (level = .normal ∨ level = .low) || decide (e.priority = .urgent))

/-- R137: the oldest eligible URGENT entry, else NORMAL, else ROUTINE. -/
def selected (level : SupplyLevel) (q : List ReportEntry) : Option ReportEntry :=
  let oldest := fun p => q.find? fun e => e.eligible level && decide (e.priority = p)
  (oldest .urgent).orElse fun _ => (oldest .normal).orElse fun _ => oldest .routine

/-- The queue with one entry worked on, named by its number. -/
def ReportUnit.update (r : ReportUnit) (n : Half) (f : ReportEntry → ReportEntry) : ReportUnit :=
  { r with queue := r.queue.map fun e => if e.number = n then f e else e }

/-- R139 step 2, R134: the entry as its frame is handed over. -/
def ReportEntry.sent (overrun : Bool) (e : ReportEntry) : ReportEntry :=
  { e with inFlight := true, attempts := if e.attempts < 65535 then e.attempts + 1 else e.attempts,
           channel := some e.resume, allowance := e.allowance - 1, overrunCarried := e.overrunCarried || overrun }

/-- R139: an entry is sent. -/
def sendEntry (e : ReportEntry) (s : State) : State :=
  let r := s.rep
  let frame := reportFrame r (e.sent r.overrun)
  let r' := { r.update e.number (ReportEntry.sent r.overrun) with
    budget := r.budget - e.cost, tx := .awaitAck, ackTimer := none,
    handed := some { id := r.nextHandedId, number := e.number, frame := frame }, nextHandedId := r.nextHandedId + 1 }
  { s with rep := r', port := s.port.handReport { frame := frame, tag := .report r.nextHandedId } }

/-- R138: a selection pass. -/
def selectionPass (s : State) : State :=
  match selected s.batt.level s.rep.queue with
  | none => { s with rep := { s.rep with tx := .idle } }
  | some e =>
    if e.cost ≤ s.rep.budget then sendEntry e s else { s with rep := { s.rep with tx := .waitBudget } }

/-- R138: a selection pass where the arrivals listed there make one: in IDLE or WAIT_BUDGET. -/
def selectionIfOpen (s : State) : State :=
  if s.rep.tx = .idle ∨ s.rep.tx = .waitBudget then selectionPass s else s

/-- R136: an entry copied to the crew port while the Report Unit's crew-present level is active. -/
def sendNotice (e : ReportEntry) (s : State) : State :=
  if s.rep.crewPresent = .active then
    { s with port := (s.port.handCrew { frame := noticeFrame s.rep e, tag := .notice }).1 }
  else s

/-- R128 step 3 onward: an entry of a priority made and placed, copied, and a selection pass made. -/
def placeEntry (k : EventKind) (p : Priority) (body : List Byte) (r : ReportUnit) (s : State) : State :=
  let e := newEntry s k p body (freeNumber 65 s.rep.queue s.rep.nextNumber)
  selectionIfOpen (sendNotice e { s with rep := r.append e })

/-- R128: an event is raised. Suppressed, it has no effect; the shutdown-unsent notice of a suppressed or dropped
SHUTDOWN changes nothing in the Battery Unit (R125), so it has none either. -/
def raise (k : EventKind) (body : List Byte) (s : State) : State :=
  s.onlyReport <|
    match s.store.active.priority k with
    | none => s
    | some p =>
      if s.rep.queue.length < 64 then placeEntry k p body s.rep s
      else
        match displace s.rep.queue p with
        | some q => placeEntry k p body { s.rep with queue := q }.markLoss s
        | none => { s with rep := s.rep.markLoss }

end Sys2Proof.Machine
end

