-- ==== Sys2Proof/Machine/CommandOps.lean ====
section
/-! DEFINITION. The command contexts: taking a command (R165 to R169), answering it (R169, R170), and the pacing of
multi-frame answers (R170). -/

namespace Sys2Proof.Machine

/-- An outcome handed to the Command Unit (R169). -/
structure Answer where
  code : ResultCode
  reason : Option Reason
  data : List Byte
deriving DecidableEq, Repr

/-- DONE with result data. -/
def Answer.done (data : List Byte := []) : Answer := { code := .done, reason := none, data := data }

/-- FAILED with result data. -/
def Answer.failed (data : List Byte) : Answer := { code := .failed, reason := none, data := data }

/-- ABORTED with result data. -/
def Answer.aborted (data : List Byte := []) : Answer := { code := .aborted, reason := none, data := data }

/-- REFUSED with a reason. -/
def Answer.refused (r : Reason) (data : List Byte := []) : Answer := { code := .refused, reason := some r, data := data }

/-- BAD_ARGUMENT. -/
def Answer.badArgument : Answer := { code := .badArgument, reason := none, data := [] }

/-- The answers the Command Unit makes alone (R166): no reason, no data. -/
def Answer.plain (c : ResultCode) : Answer := { code := c, reason := none, data := [] }

/-- The payload of a RESULT (08). -/
def resultPayload (command : Byte) (a : Answer) : List Byte :=
  [command, ResultCode.code a.code, match a.reason with | some r => Reason.code r | none => 0] ++ a.data

/-- A RESULT frame (R162). -/
def resultFrame (port : PortId) (number : Half) (command : Byte) (more : Bool) (a : Answer) : Frame :=
  { destination := PortId.destination port, kind := .result, number := number, flags := { FrameFlags.none with more := more },
    payload := resultPayload command a }

/-- One port's context. -/
def CommandUnit.ctx (c : CommandUnit) : PortId → Context
  | .radio => c.radio
  | .crew => c.crew

/-- One port's context replaced. -/
def CommandUnit.setCtx (c : CommandUnit) (p : PortId) (x : Context) : CommandUnit :=
  match p with
  | .radio => { c with radio := x }
  | .crew => { c with crew := x }

/-- A port's context returned to IDLE, its marks cleared. A frame still out is no longer out: R165 and R170 do not say
when that mark is cleared (the model's choice, log 40). -/
def State.idleCtx (s : State) (p : PortId) : State := { s with cmd := s.cmd.setCtx p .idle }

/-- A RESULT handed to its port; answers the state and whether it was dropped (R158, R161, R170). -/
def sendResult (port : PortId) (number : Half) (command : Byte) (more : Bool) (cmd : Option CmdRef) (a : Answer)
    (s : State) : State × Bool :=
  let r := s.port.hand port { frame := resultFrame port number command more a, tag := .result cmd }
  ({ s with port := r.1 }, r.2)

/-- A RESULT that leaves every context as it stands (R153, R166, R168, ABORT's own result). -/
def answerAlone (port : PortId) (number : Half) (command : Byte) (a : Answer) (s : State) : State :=
  (sendResult port number command false none a s).1

/-- The command of a context, if it is the one that a reference names (R169). -/
def State.holding (s : State) (r : CmdRef) : Option Executing :=
  match (s.cmd.ctx r.port).executing with
  | some e => if e.serial = r.serial then some e else none
  | none => none

/-- R169, R173: the outcome of a command: its RESULT is handed over (none with the discard mark set) and its context
returns to IDLE; an outcome for a command no longer held is discarded. -/
def complete (r : CmdRef) (a : Answer) (s : State) : State :=
  s.onlyAnswer <|
    match s.holding r with
    | some e =>
      if (s.cmd.ctx r.port).discard then s.idleCtx r.port
      else ((sendResult r.port e.number (CommandCode.code e.code) false (some r) a s).1).idleCtx r.port
    | none => s

/-- R163: an answer of exactly two frames, handed over in one step. -/
def completeTwo (r : CmdRef) (first second : List Byte) (s : State) : State :=
  s.onlyAnswer <|
    match s.holding r with
    | some e =>
      let s1 := (sendResult r.port e.number (CommandCode.code e.code) true (some r) (.done first) s).1
      ((sendResult r.port e.number (CommandCode.code e.code) false (some r) (.done second) s1).1).idleCtx r.port
    | none => s

/-- R170: the frames of a multi-frame answer from the next on. Each is handed over when the one before it has been
transmitted or dropped; with the last one the context returns to IDLE, and so no frame is out (log 40). -/
def handFrames (r : CmdRef) (e : Executing) : List (List Byte) → State → State
  | [], s => s.idleCtx r.port
  | d :: rest, s =>
    let handed := sendResult r.port e.number (CommandCode.code e.code) (!rest.isEmpty) (some r) (.done d) s
    if rest.isEmpty then handed.1.idleCtx r.port
    else if handed.2 then handFrames r e rest handed.1
    else
      let waiting : Context := { executing := some { e with rest := rest }, discard := false, frameOut := true }
      { handed.1 with cmd := handed.1.cmd.setCtx r.port waiting }

/-- A multi-frame answer begins: its frames are built from the copy taken now (R15, R67, R98). -/
def completeFrames (r : CmdRef) (frames : List (List Byte)) (s : State) : State :=
  s.onlyAnswer <|
    match s.holding r with
    | some e => handFrames r e frames s
    | none => s

/-- R170: the report that a RESULT of a command was transmitted or dropped paces a multi-frame answer. -/
def frameReported (r : CmdRef) (s : State) : State :=
  s.onlyAnswer <|
    match s.holding r with
    | some e => if (s.cmd.ctx r.port).frameOut then handFrames r e e.rest s else s
    | none => s

/-- R167: port rights: MECH_RESET on the crew port only, TIME_SET on the radio port only. -/
def permitted (port : PortId) : CommandCode → Bool
  | .mechReset => port = .crew
  | .timeSet => port = .radio
  | _ => true

/-- R166 step 5: the context takes a command; answers the state and the command's reference. -/
def takeInto (port : PortId) (number : Half) (code : CommandCode) (s : State) : State × CmdRef :=
  let e : Executing := { code := code, number := number, serial := s.cmd.nextSerial, rest := [] }
  ({ s with cmd := { s.cmd.setCtx port { executing := some e, discard := false, frameOut := false } with
                     nextSerial := s.cmd.nextSerial + 1 } },
   { port := port, serial := s.cmd.nextSerial })

/-- R166 steps 2, 4 and 5: rights, context, dispatch to the owning block. A CLOSE sent again on the port whose first one
stands is answered BUSY (R166, R168 against R169: the model's choice, log 49). -/
def dispatch (port : PortId) (number : Half) (code : CommandCode) (owner : CmdRef → State → State) (s : State) :
    State :=
  if !permitted port code then answerAlone port number (CommandCode.code code) (.plain .notPermitted) s
  else if (s.cmd.ctx port).executing.isSome then answerAlone port number (CommandCode.code code) (.plain .busy) s
  else
    let taken := takeInto port number code s
    owner taken.2 taken.1

/-- A COMMAND frame of good form arrives on a port (R150, R151, R166). -/
def command (port : PortId) (number : Half) (code : CommandCode) (owner : CmdRef → State → State) (s : State) :
    State :=
  arrive port.run 0 (dispatch port number code owner) s

end Sys2Proof.Machine
end

