-- ==== Sys2Proof/Machine/StoreOps.lean ====
section
/-! DEFINITION. The nonvolatile store's write queue (R22), the end of a write (R19, R94), and the restore of the
settings image (R23). -/

namespace Sys2Proof.Machine

/-- Which image a write carries. -/
def ImageWrite.image : ImageWrite → ImageId
  | .settings _ => .settings
  | .hold _ => .hold

/-- R21: a write starts: it captures its contents now, and the image's previous copy is unusable. -/
def SettingStore.startWrite (st : SettingStore) (slots : Vector (Option Hold) 7) : ImageId → SettingStore
  | .settings => { st with inFlight := some (.settings st.active), nv := { st.nv with settings := none } }
  | .hold => { st with inFlight := some (.hold slots), nv := { st.nv with hold := none } }

/-- R94: a hold-image write that starts carries the change of every command that waits. -/
def HoldUnit.covered (h : HoldUnit) (i : ImageId) : HoldUnit :=
  if i = .hold then { h with waiters := h.waiters.map fun w => { w with covered := true } } else h

/-- A write of an image starts now. -/
def startWrite (i : ImageId) (s : State) : State :=
  { s with store := s.store.startWrite s.holds.slots i, holds := s.holds.covered i }

/-- R22: a block's request to write an image. -/
def requestWrite (i : ImageId) (s : State) : State :=
  if s.store.inFlight.isNone then startWrite i s
  else if i ∈ s.store.waiting then s
  else { s with store := { s.store with waiting := s.store.waiting ++ [i] } }

/-- R21: a write that ran to completion: its image passes its check and holds what was captured. -/
def SettingStore.finishWrite (st : SettingStore) : ImageWrite → SettingStore
  | .settings b => { st with inFlight := none, nv := { st.nv with settings := some b } }
  | .hold h => { st with inFlight := none, nv := { st.nv with hold := some h } }

/-- R94: the result of a HOLD_SET carries the slot used; that of a HOLD_CLEAR the slot cleared (08). -/
def answerHoldWaiters : List HoldWaiter → State → State
  | [], s => s
  | w :: rest, s => answerHoldWaiters rest (complete w.cmd (.done (u8 w.slot)) s)

/-- R22, R94: the Hold Unit is told that its image has been written: each command the write covers answers DONE. -/
def tellHoldWritten (s : State) : State :=
  let told := s.holds.waiters.filter (·.covered)
  answerHoldWaiters told { s with holds := { s.holds with waiters := s.holds.waiters.filter fun w => !w.covered } }

/-- R19, R22: the Setting Store is told that its image has been written: the waiting BANK_SWAP answers DONE. -/
def tellSettingsWritten (s : State) : State :=
  match s.store.swapWaiter with
  | some c => complete c .done { s with store := { s.store with swapWaiter := none } }
  | none => s

/-- R22: the block that requested the image is told. -/
def tellWritten : ImageId → State → State
  | .settings => tellSettingsWritten
  | .hold => tellHoldWritten

/-- R22: the write at the head of the pending list starts and leaves the list. -/
def startNextWrite (s : State) : State :=
  match s.store.waiting with
  | i :: rest => startWrite i { s with store := { s.store with waiting := rest } }
  | [] => s

/-- R22: a write completes. -/
def writeComplete (s : State) : State :=
  match s.store.inFlight with
  | some w => startNextWrite (tellWritten w.image { s with store := s.store.finishWrite w })
  | none => s

/-! ## The settings restore (R23) -/

/-- Why the default bank is in force (R129, DEFAULTS_IN_USE): the image fails its check, or its bank fails validation
at a field. -/
inductive RestoreFailure where
  | check
  | validation (table record field : Nat)
deriving DecidableEq, Repr

/-- R23: the bank the settings image gives, or the default bank and why. -/
def restoredBank (nv : Nonvolatile) : Bank × Option RestoreFailure :=
  match nv.settings with
  | none => (defaultBank, some .check)
  | some b =>
    match validate b with
    | none => (b, none)
    | some (t, r, f) => (defaultBank, some (.validation t r f))

/-- R188, R192: whether DEFAULTS_IN_USE is raised by a power-on or by a warm restart. -/
inductive Occasion where
  | powerOn
  | warmRestart
deriving DecidableEq, Repr

/-- DEFAULTS_IN_USE's body (08): occasion (POWER_ON 0, WARM_RESTART 1); failure (CHECK 0, VALIDATION 1); the first
failing table, record and field, each 0 for CHECK. -/
def defaultsBody (o : Occasion) : RestoreFailure → List Byte
  | .check => [if o = .powerOn then 0 else 1, 0, 0, 0, 0]
  | .validation t r f => [if o = .powerOn then 0 else 1, 1] ++ u8 t ++ u8 r ++ u8 f

/-- R12, R13: the owner NONE, its timer stopped, the shadow's contents as they were. -/
def SettingStore.release (st : SettingStore) : SettingStore := { st with owner := none, ownerTimer := none }

/-- R13: the ownership timer starts afresh at 600 s when the command came from the owner. -/
def SettingStore.touch (st : SettingStore) (port : PortId) (now : Nat) : SettingStore :=
  if st.owner = some port then { st with ownerTimer := some (now + 600000) } else st

/-- R13: a port becomes the owner, or stays it, with the timer started afresh. -/
def SettingStore.claim (st : SettingStore) (port : PortId) (now : Nat) : SettingStore :=
  { st with owner := some port, ownerTimer := some (now + 600000) }

/-- R13: the other port owns the shadow. -/
def SettingStore.ownedByOther (st : SettingStore) (port : PortId) : Bool := st.owner = some (PortId.other port)

end Sys2Proof.Machine
end

