-- ==== Sys2Proof/Machine/BatteryOps.lean ====
section
/-! DEFINITION. The Battery Unit: the entry rule (R109), the load test (R116 to R120), the judgements a reading meets
(R111 to R114), and shutdown (R125). -/

namespace Sys2Proof.Machine

/-! ## The charger -/

/-- R109: the entry rule. -/
def Battery.entry (bank : Bank) (b : Battery) : Battery :=
  if b.ac ≠ .active ∨ b.readingTaken = false then { b with charger := .off }
  else if b.voltage < bank.floatVoltage - bank.rebulkMargin then { b with charger := .bulk }
  else { b with charger := .float }

/-- R112: the fault condition present in the latest reading; temperature is judged first. -/
def Battery.faultPresent (bank : Bank) (b : Battery) : Option FaultCondition :=
  if b.temperature < bank.temperatureMin then some .temperatureLow
  else if bank.temperatureMax < b.temperature then some .temperatureHigh
  else if bank.maximumVoltage < b.voltage then some .overvoltage
  else none

/-- R111: BULK, ABSORB or FLOAT judged on a reading with no fault condition. -/
def Battery.stage (bank : Bank) (now : Nat) (b : Battery) : Battery :=
  match b.charger with
  | .bulk => if bank.absorbVoltage ≤ b.voltage then { b with charger := .absorb, absorbEntry := some now } else b
  | .absorb =>
    if 0 ≤ b.current ∧ b.current ≤ bank.endCurrent then
      { b with charger := .float, coulomb := bank.fullCount, estimated := false }
    else if bank.absorbLimit ≤ now - b.absorbEntry.getD now then { b with charger := .float }
    else b
  | .float => if b.voltage < bank.floatVoltage - bank.rebulkMargin then { b with charger := .bulk } else b
  | _ => b

/-- CHARGER_FAULT raised with the latest reading's voltage and temperature (R112, log 32). -/
def raiseChargerFault (c : FaultCondition) (s : State) : State :=
  raise .chargerFault (chargerFaultBody c s.batt.voltage s.batt.temperature) s

/-- R112: a fault condition taken by the charger's state. -/
def chargerTakesFault (c : FaultCondition) (s : State) : State :=
  match s.batt.charger with
  | .test => { s with batt := { s.batt with pendingFault := some c } }
  | .fault => { s with batt := { s.batt with faultClear := none } }
  | _ => raiseChargerFault c { s with batt := { s.batt with charger := .fault } }

/-- R109 to R112: step 4 of a reading; `first` says that no reading had been taken before it. -/
def chargerStep (first : Bool) (s : State) : State :=
  match s.batt.faultPresent s.store.active with
  | some c => chargerTakesFault c s
  | none =>
    match s.batt.charger with
    | .fault =>
      { s with batt := { s.batt with faultClear := some (s.batt.faultClear.getD (s.now + 60000)) } }
    | .off => if first then { s with batt := s.batt.entry s.store.active } else s
    | _ => { s with batt := s.batt.stage s.store.active s.now }

/-- R112, R119, R120: the charger leaves TEST: to FAULT with a pending fault, else by the entry rule. -/
def chargerLeavesTest (s : State) : State :=
  match s.batt.pendingFault with
  | some c => raiseChargerFault c { s with batt := { s.batt with charger := .fault, pendingFault := none } }
  | none => { s with batt := s.batt.entry s.store.active }

/-! ## The coulomb count and the level -/

/-- A value limited to the nearest end of a range (R108). -/
def limited (low high v : Int) : Int := if v < low then low else if high < v then high else v

/-- R113: the count advanced by a current, kept between 0 and the full count. -/
def advancedCount (full count : Nat) (current : Int) : Nat := (limited 0 full (count + current)).toNat

/-- R114: the level a voltage gives, from the level before. -/
def judgedLevel (bank : Bank) (level : SupplyLevel) (v : Nat) : SupplyLevel :=
  if level = .shutdownPending then .shutdownPending
  else if v ≤ bank.shutdownThreshold then .shutdownPending
  else if v ≤ bank.criticalThreshold then .critical
  else if level = .critical ∧ v < bank.criticalThreshold + bank.hysteresis then .critical
  else if v ≤ bank.lowThreshold then .low
  else if (level = .low ∨ level = .critical) ∧ v < bank.lowThreshold + bank.hysteresis then .low
  else .normal

/-! ## The load test -/

/-- R119, R120: the record of a test that ends. -/
def LoadTest.record (t : LoadTest) (grade : TestGrade) (cause : Option TestCause) : TestRecord :=
  { startTag := t.startTag, startVoltage := t.startVoltage, minVoltage := t.minVoltage,
    drop := t.startVoltage - t.minVoltage, grade := grade, cause := cause, origin := t.origin }

/-- R119: the grade of a drop. -/
def gradeOf (bank : Bank) (drop : Nat) : TestGrade :=
  if drop < bank.weakDrop then .pass else if drop < bank.failDrop then .weak else .fail

/-- R117: the start conditions, in order. -/
def testConditions (s : State) : List Bool :=
  [decide (s.batt.charger = .float), decide (s.batt.ac = .active), decide (s.seq.state = .reset),
   s.poles.pole.toList.all (fun r => decide (r.mech = .idle)), s.holds.close.isNone,
   decide (s.store.active.storeTarget ≤ s.poles.storeVoltage), decide (s.batt.level = .normal),
   decide (s.batt.shutdown = .none)]

/-- R117, R122: the number of the first failing start condition; none if all hold. -/
def testBar (s : State) : Option Nat := ((testConditions s).findIdx? (!·)).map (· + 1)

/-- R118: a test starts. TEST_LOAD is active while the context exists. -/
def startTest (origin : TestOrigin) (s : State) : State :=
  let t : LoadTest :=
    { origin := origin, startTag := s.time.timeTag, startVoltage := s.batt.voltage, minVoltage := s.batt.voltage,
      timer := some (s.now + s.store.active.testDuration) }
  let wait := if origin = .scheduled then none else s.batt.retryWait
  { s with batt := { s.batt with test := some t, charger := .test, retryWait := wait } }

/-- R116: a test is due: it starts where the conditions of R117 hold, and otherwise the retry wait does. -/
def testDue (s : State) : State :=
  if (testBar s).isNone then startTest .scheduled s
  else { s with batt := { s.batt with retryWait := some (s.now + 600000) } }

/-- A scheduled test has started at this very instant: its duration timer has its whole duration to run. No bank
exchange and no warm restart changes the duration while a test runs (R18, R191). -/
def scheduledNow (s : State) : Bool :=
  s.batt.test.any fun t =>
    decide (t.origin = .scheduled) && decide (t.timer = some (s.now + s.store.active.testDuration))

/-- The retry wait runs on past this instant; one that ends now arrives together with what is taken now (R116). -/
def waitRunsOn (s : State) : Bool := s.batt.retryWait.any fun e => decide (s.now < e)

/-- R116: the due time is reached: it becomes none, and the test is due. A retry wait that runs on is left running. Of
two due moments of one instant the second finds the test just started, or the wait running, and does nothing (log 20). -/
def dueTimeReached (s : State) : State :=
  let s1 := { s with batt := { s.batt with nextDue := none } }
  if waitRunsOn s || scheduledNow s then s1 else testDue s1

/-- R120, R119: the outcome of a commanded test is handed to the Command Unit. An ABORT and a crew detach answer in
their own way (R122). -/
def answerTest (origin : TestOrigin) (a : Answer) (s : State) : State :=
  match origin with
  | .command c _ => complete c a s
  | .scheduled => s

/-- R120 steps 1, 2 and 4, R119 steps 1, 3 and 5: the load off, the record replaced, the context removed. -/
def Battery.endTest (b : Battery) (r : TestRecord) : Battery := { b with test := none, lastTest := some r }

/-- R120 step 5: the retry wait starts for a scheduled test. -/
def startRetry (origin : TestOrigin) (s : State) : State :=
  if origin = .scheduled then { s with batt := { s.batt with retryWait := some (s.now + 600000) } } else s

/-- R120: a running test ends at once, without a grade. A notice that finds no test has no effect. -/
def abortTest (cause : TestCause) (s : State) : State :=
  s.onlyBattery <|
    match s.batt.test with
    | none => s
    | some t =>
      let r := t.record .aborted (some cause)
      let ended := startRetry t.origin (chargerLeavesTest { s with batt := s.batt.endTest r })
      let told := raise .testResult (testResultBody r s.time.timeTag) ended
      if cause = .abort then told else answerTest t.origin (.failed (testRecordBytes r)) told

/-- R116: the next test due time after a graded end, or after a bank exchange that changed the interval. -/
def dueAfter (bank : Bank) (now : Nat) : Option Nat :=
  if bank.testInterval = 0 then none else some (now + bank.testInterval)

/-- R119: the duration timer has expired: the test is graded. -/
def gradeTest (s : State) : State :=
  s.onlyBattery <|
    match s.batt.test with
    | none => s
    | some t =>
      let r := t.record (gradeOf s.store.active (t.startVoltage - t.minVoltage)) none
      let left := chargerLeavesTest { s with batt := s.batt.endTest r }
      let ended :=
        { left with batt := { left.batt with nextDue := dueAfter s.store.active s.now, retryWait := none } }
      answerTest t.origin (.done (testRecordBytes r))
        (raise .testResult (testResultBody r s.time.timeTag) ended)

/-- R118: a reading taken by the running test. -/
def testTakesReading (s : State) : State :=
  match s.batt.test with
  | none => s
  | some t =>
    let t' := { t with minVoltage := min t.minVoltage s.batt.voltage }
    let s1 := { s with batt := { s.batt with test := some t' } }
    if s.batt.voltage < s.store.active.testAbortVoltage then abortTest .lowVoltage s1 else s1

/-! ## The reading and the AC level -/

/-- R108 step 1: the readings replaced, each limited to its field range. -/
def Battery.reading (b : Battery) (v c t : Int) : Battery :=
  { b with voltage := (limited 0 65535 v).toNat, current := limited (-32768) 32767 c,
           temperature := limited (-128) 127 t, readingTaken := true }

/-- R108 steps 1 to 4. -/
def batteryTakesReading (v c t : Int) (s : State) : State :=
  s.onlyBattery <|
    let b := s.batt.reading v c t
    let counted := { b with coulomb := advancedCount s.store.active.fullCount b.coulomb b.current }
    chargerStep (!s.batt.readingTaken) (testTakesReading { s with batt := counted })

/-- R110: the Battery Unit takes an accepted change of AC_PRESENT. A charger in FAULT that takes a first acceptance as
present stays in FAULT (log 36). -/
def batteryTakesAc (present : Bool) (s : State) : State :=
  s.onlyBattery <|
    let b := { s.batt with ac := if present then .active else .inactive }
    match b.charger, present with
    | .off, true => { s with batt := b.entry s.store.active }
    | .bulk, false => { s with batt := { b with charger := .off } }
    | .absorb, false => { s with batt := { b with charger := .off } }
    | .float, false => { s with batt := { b with charger := .off } }
    | .test, false => abortTest .acLost { s with batt := b }
    | .fault, false => { s with batt := { b with charger := .off, faultClear := none } }
    | _, _ => { s with batt := b }

/-- R125: in WAITING, shutdown is asserted. -/
def assertShutdown (s : State) : State :=
  if s.batt.shutdown = .waiting then
    { s with batt := { s.batt with shutdown := .asserted, shutdownTimer := none } }
  else s

/-- R124: the shutdown procedure begins. -/
def beginShutdown (s : State) : State :=
  s.onlyBattery <|
    let waiting := { s with batt := { s.batt with shutdown := .waiting } }
    let body := u16 s.batt.voltage ++ u8 (stateOfCharge s.store.active s.batt) ++ [Bool.byte s.batt.estimated]
    let raised := raise .shutdown body waiting
    { raised with batt := { raised.batt with shutdownTimer := some (s.now + 30000) } }

end Sys2Proof.Machine
end

