-- ==== Sys2Proof/Machine/ProtectionOps.lean ====
section
/-! DEFINITION. The Protection Unit: a frame's magnitudes (R24, R25), one protection interval of the elements (R30 to
R36), the episode (R37), exceptions (R41, R42), release (R40). -/

namespace Sys2Proof.Machine

/-! ## From frame to magnitudes (R24) -/

/-- A current channel evaluated: its magnitude, if it has one, and its mark (log 14). -/
structure Evaluated where
  magnitude : Option Nat
  mark : Mark
deriving DecidableEq, Repr

/-- R24: the current rules. -/
def evaluateCurrent (trapInvalid : Bool) (x : Sample) : Evaluated :=
  match x.mark with
  | .valid =>
    if x.value.toNat ≤ 32767 then { magnitude := some x.value.toNat, mark := .valid }
    else { magnitude := some 32767, mark := .overrange }
  | .overrange => { magnitude := some 32767, mark := .overrange }
  | .invalid => { magnitude := if trapInvalid then none else some 0, mark := .invalid }

/-- R24: the voltage rules; an INVALID voltage has no value, kept as 0 with its mark (R25). -/
def evaluateVoltage (x : Sample) : Reading :=
  match x.mark with
  | .valid => { value := min x.value.toNat 4095, mark := .valid }
  | .overrange => { value := 4095, mark := .overrange }
  | .invalid => { value := 0, mark := .invalid }

/-- The evaluated magnitude, or 0 where there is none (R25, R37). -/
def Evaluated.amount (e : Evaluated) : Nat := e.magnitude.getD 0

/-- R25: the latest measurement record that a frame gives. -/
def measurementOf (number : Half) (tag : Word) (cur : PerChannel Evaluated) (vol : PerPole Sample) : Measurement :=
  { number := number, tag := tag, currents := cur.map fun e => { value := e.amount, mark := e.mark },
    voltages := vol.map evaluateVoltage }

/-! ## The elements -/

/-- R32: what one element uses in a frame. -/
structure CurveInForce where
  curve : Nat
  multiplier : Nat
deriving DecidableEq, Repr

/-- R32: the curve in force of the phase elements. -/
def phaseCurveInForce (b : Bank) (n : Nat) (profile : Bool) : CurveInForce :=
  if profile then { curve := b.holdCurve, multiplier := b.holdMultiplier }
  else { curve := b.phaseCurve n, multiplier := b.phaseMultiplier n }

/-- R32: the curve in force of the ground element. -/
def groundCurveInForce (b : Bank) (n : Nat) (profile : Bool) : CurveInForce :=
  if profile then { curve := b.holdCurve, multiplier := b.holdMultiplier }
  else { curve := b.groundCurve n, multiplier := b.groundMultiplier n }

/-- R32: the high-set enable in force. -/
def highSetInForce (b : Bank) (n : Nat) (profile : Bool) : Bool := profile || b.highSetEnable n

/-- R33: the curve time at a multiple, over the points in use; the product is formed before the division. -/
def curveTime : List (Nat × Nat) → Nat → Nat
  | [], _ => 0
  | [(_, t)], _ => t
  | (m1, t1) :: (m2, t2) :: rest, m =>
    if m ≤ m1 then t1
    else if m < m2 then t2 + (t1 - t2) * (m2 - m) / (m2 - m1)
    else curveTime ((m2, t2) :: rest) m

/-- R33, R34: the scaled operate time of a curve in force at a magnitude and pickup. -/
def scaledTime (b : Bank) (c : CurveInForce) (m p : Nat) : Nat :=
  curveTime (b.curvePoints c.curve) (m * 100 / p) * c.multiplier / 100

/-- An element after its step, and whether its scaled time was raised to 2 ms (R34). -/
structure Stepped where
  element : Element
  clamped : Bool
deriving DecidableEq, Repr

/-- R34: the accumulator that operates: 2^30. -/
def fullAccumulator : Nat := 1073741824

/-- R34: integration at a scaled time. -/
def Element.integrate (e : Element) (t : Nat) : Stepped :=
  let sum := e.acc + 2147483648 / max t 2
  if fullAccumulator ≤ sum then
    { element := { e with state := .operated, acc := fullAccumulator, byTime := true }, clamped := decide (t < 2) }
  else { element := { e with state := .timing, acc := sum }, clamped := decide (t < 2) }

/-- R35: decay by a reset time. -/
def Element.decay (e : Element) (reset : Nat) : Stepped :=
  let left := if reset = 0 then 0 else e.acc - 2147483648 / reset
  { element := { e with state := if left = 0 then .idle else .resetting, acc := left }, clamped := false }

/-- R30: the dropout of a pickup. -/
def dropout (p : Nat) : Nat := p * 95 / 100

/-- R31: one step of an active element at a magnitude. -/
def Element.step (b : Bank) (c : CurveInForce) (p m : Nat) (e : Element) : Stepped :=
  let stays : Stepped := { element := e, clamped := false }
  match e.state with
  | .operated => stays
  | .idle => if p ≤ m then e.integrate (scaledTime b c m p) else stays
  | .timing =>
    if p ≤ m then e.integrate (scaledTime b c m p)
    else if dropout p ≤ m then stays
    else e.decay (b.resetTime c.curve)
  | .resetting =>
    if p ≤ m then e.integrate (scaledTime b c m p) else e.decay (b.resetTime c.curve)

/-- R31: an element whose channel may have no evaluated magnitude. -/
def Element.stepMaybe (b : Bank) (c : CurveInForce) (p : Nat) (m : Option Nat) (e : Element) : Stepped :=
  match m with
  | some m => e.step b c p m
  | none => { element := e, clamped := false }

/-- R36: a phase's high-set counter after a frame, and whether it operates the element, judged on the element as it
stood before the frame (log 13). A trapped INVALID sample leaves the counter as it is (R24, R36), also in a frame whose
high-set enable in force is off, where R36 would stop it at 0 as well (the model's choice, log 38). -/
def highSetStep (b : Bank) (enabled : Bool) (m : Option Nat) (before : ElementState) (count : Nat) : Nat × Bool :=
  match m with
  | none => (count, false)
  | some m =>
    if !enabled then (0, false)
    else if before = .operated then (count, false)
    else if 2 * b.highSetThreshold ≤ m then
      if b.highSetCount ≤ count + 1 then (0, true) else (count + 1, false)
    else (0, false)

/-- R36: an element made OPERATED by its high-set counter. -/
def Element.operateHighSet (e : Element) (fires : Bool) : Element :=
  if fires then { e with state := .operated, byHighSet := true } else e

/-- What one frame leaves of a channel. -/
structure ChannelAfter where
  element : Element
  count : Nat
  clamped : Bool
deriving DecidableEq, Repr

/-- R31, R36: one frame for a phase channel. -/
def phaseStep (b : Bank) (n : Nat) (profile : Bool) (x : Evaluated) (e : Element) (count : Nat) : ChannelAfter :=
  let st := e.stepMaybe b (phaseCurveInForce b n profile) (2 * b.phasePickup) x.magnitude
  let hs := highSetStep b (highSetInForce b n profile) x.magnitude e.state count
  { element := st.element.operateHighSet hs.2, count := hs.1, clamped := st.clamped }

/-- R30, R31: one frame for the ground channel; an inactive ground element takes no step. -/
def groundStep (b : Bank) (n : Nat) (profile : Bool) (x : Evaluated) (e : Element) : Stepped :=
  if b.groundEnable then e.stepMaybe b (groundCurveInForce b n profile) (2 * b.groundPickup) x.magnitude
  else { element := e, clamped := false }

/-! ## Exceptions (R41, R42) -/

/-- R41: the trapped exceptions of one channel with an active element: the mark's, then TIME_CLAMP. -/
def channelExceptions (b : Bank) (mark : Mark) (clamped : Bool) : List ExceptionKind :=
  (match mark with
   | .invalid => if b.trapInvalid then [.invalidSample] else []
   | .overrange => if b.trapOverrange then [.overrange] else []
   | .valid => []) ++
  (if clamped && b.trapTimeClamp then [.timeClamp] else [])

/-- R41: the trapped exceptions of a frame, in the order they are recorded. -/
def frameExceptions (b : Bank) (marks : PerChannel Mark) (clamped : PerChannel Bool) :
    List (ExceptionKind × Channel) :=
  (channelExceptions b marks.a clamped.a).map (·, Channel.a) ++
  (channelExceptions b marks.b clamped.b).map (·, Channel.b) ++
  (channelExceptions b marks.c clamped.c).map (·, Channel.c) ++
  (if b.groundEnable then (channelExceptions b marks.g clamped.g).map (·, Channel.g) else [])

/-! ## The episode (R37) -/

/-- Whether all four elements are IDLE. -/
def allIdle (e : PerChannel Element) : Bool := e.toList.all fun x => decide (x.state = .idle)

/-- R37: the episode after a frame. -/
def Episode.after (episode : Option Episode) (before after : PerChannel Element) (now : Nat) (tag : Word)
    (amounts : PerChannel Nat) : Option Episode :=
  if allIdle after then none
  else if allIdle before then some { instant := now, tag := tag, maxima := amounts }
  else episode.map fun ep => { ep with maxima := ep.maxima.zip max amounts }

/-! ## One frame -/

/-- What a frame leaves: the Protection Unit after it, and what it hands on (R37 to R39, R43). -/
structure FrameResult where
  prot : Protection
  left : PerChannel Bool
  opened : Bool
  amounts : PerChannel Nat
  operated : ElementSet
  exceptionRose : Bool
deriving DecidableEq, Repr

/-- R39: the elements that became OPERATED, as shot elements (R46). -/
def newlyOperated (before after : PerChannel Element) : ElementSet :=
  let became := before.zip (fun x y => decide (x.state ≠ .operated) && decide (y.state = .operated)) after
  { time := became.zip (fun n y => n && y.byTime) after,
    highSet := ⟨became.a && after.a.byHighSet, became.b && after.b.byHighSet, became.c && after.c.byHighSet⟩ }

/-- R38: the channels whose elements left IDLE. -/
def leftIdle (before after : PerChannel Element) : PerChannel Bool :=
  before.zip (fun x y => decide (x.state = .idle) && decide (y.state ≠ .idle)) after

/-- R24 to R37, R41, R42: one accepted frame taken by the Protection Unit, the link and the kept number apart. The
magnitudes it hands to PICKUP (R129) are 0 for a channel with none, as R25 and R37 have it for the record and the maxima
(the model's choice, log 42). -/
def Protection.frame (p : Protection) (b : Bank) (n : Nat) (profile : Bool) (now : Nat) (tag : Word) (number : Half)
    (currents : PerChannel Sample) (voltages : PerPole Sample) : FrameResult :=
  let cur := currents.map (evaluateCurrent b.trapInvalid)
  let amounts := cur.map Evaluated.amount
  let a := phaseStep b n profile cur.a p.elements.a p.highSet.a
  let bb := phaseStep b n profile cur.b p.elements.b p.highSet.b
  let c := phaseStep b n profile cur.c p.elements.c p.highSet.c
  let g := groundStep b n profile cur.g p.elements.g
  let after : PerChannel Element := ⟨a.element, bb.element, c.element, g.element⟩
  let found := frameExceptions b (cur.map Evaluated.mark) ⟨a.clamped, bb.clamped, c.clamped, g.clamped⟩
  let entry := found.getLast?.map fun x => ({ kind := x.1, channel := x.2, number := number, tag := tag } : ExceptionEntry)
  let episode := Episode.after p.episode p.elements after now tag amounts
  { prot :=
      { p with latest := measurementOf number tag cur voltages, elements := after, highSet := ⟨a.count, bb.count, c.count⟩,
               episode := episode, exception := entry.or p.exception, latestFlag := !found.isEmpty }
    left := leftIdle p.elements after
    opened := allIdle p.elements && !allIdle after
    amounts := amounts
    operated := newlyOperated p.elements after
    exceptionRose := !found.isEmpty && !p.latestFlag }

/-! ## Release and loss -/

/-- R40: an element released. -/
def Element.release (e : Element) : Element := if e.state = .operated then .rest else e

/-- R40: every OPERATED element is released; the episode closes if all four are then IDLE. -/
def Protection.release (p : Protection) : Protection :=
  let after := p.elements.map Element.release
  let cleared := fun (e : Element) (count : Nat) => if e.state = .operated then 0 else count
  { p with elements := after,
           highSet := ⟨cleared p.elements.a p.highSet.a, cleared p.elements.b p.highSet.b,
             cleared p.elements.c p.highSet.c⟩,
           episode := if allIdle after then none else p.episode }

/-- R27, R29: every element to IDLE with accumulator 0, every counter to 0, the episode ended. -/
def Protection.clearElements (p : Protection) : Protection :=
  { p with elements := .all .rest, highSet := .all 0, episode := none }

/-- R27 steps 1 to 4: the link is lost. -/
def Protection.loseLink (p : Protection) : Protection :=
  { p.clearElements with linkUp := false, linkTimer := none, keptNumber := none, latestFlag := false }

/-- R26: whether a frame's number is a gap after the kept number. -/
def isGap (kept : Option Half) (number : Half) : Bool :=
  match kept with
  | some k => decide (number - k ≠ 1)
  | none => false

end Sys2Proof.Machine
end

