-- ==== Sys2Proof/Machine/CloseOps.lean ====
section
/-! DEFINITION. The ends of the operator close record (R101 to R105) and the trip notice (R72). -/

namespace Sys2Proof.Machine

/-- The record removed (its warning timer with it). -/
def State.withoutClose (s : State) : State := { s with holds := { s.holds with close := none } }

/-- CLOSE_REFUSED for an operator close's record (R101, R102, R103). -/
def raiseCloseRefused (reason : Reason) (r : CloseRecord) (s : State) : State :=
  raise .closeRefused (closeRefusedBody reason (some r.cmd.port) r.mask) s

/-- R102, R103: a record in WARNING is cancelled: removed, its tone withdrawn, its CLOSE answered REFUSED, and
CLOSE_REFUSED raised. A record in PULSING, or none, is left as it is. -/
def cancelWarning (reason : Reason) (s : State) : State :=
  s.onlyClose <|
    match s.holds.close with
    | some r =>
      if r.phase = .warning then
        raiseCloseRefused reason r (complete r.cmd (.refused reason) s.withoutClose.withdrawWarning)
      else s
    | none => s

/-- R104: an abort request for a record in WARNING: removed and its tone withdrawn; the answer is the Command Unit's. -/
def abortWarning (s : State) : State := s.withoutClose.withdrawWarning

/-- R101: the gate has refused the close: the record is removed, its CLOSE answered, CLOSE_REFUSED raised. -/
def closeRefused (reason : Reason) (r : CloseRecord) (s : State) : State :=
  s.onlyClose (raiseCloseRefused reason r (complete r.cmd (.refused reason) s.withoutClose))

/-- R62: the outcomes of an operator close. -/
inductive CloseOutcome where
  | succeeded
  | failed
  | tripped
deriving DecidableEq, Repr

/-- R105: the CLOSE's answer to an outcome. -/
def CloseOutcome.answer (o : CloseOutcome) (outcomes : PerPole (Option OpOutcome)) : Answer :=
  match o with
  | .succeeded => .done (outcomeBytes outcomes)
  | .failed => .failed (outcomeBytes outcomes)
  | .tripped => .failed (outcomeBytes outcomes)

/-- R105: the outcome of the operator close is handed over: the record is removed and the CLOSE answered. -/
def closeEnds (o : CloseOutcome) (outcomes : PerPole (Option OpOutcome)) (s : State) : State :=
  s.onlyClose <|
    match s.holds.close with
    | some r => complete r.cmd (o.answer outcomes) s.withoutClose
    | none => s

/-- R72: the trip notice: the Battery Unit ends a running test, the Hold Unit cancels a warning. -/
def tripNotice (s : State) : State := s.onlyNotice (cancelWarning .sequenceActive (abortTest .trip s))

end Sys2Proof.Machine
end

