-- ==== Sys2Proof/Machine/PoleOps.lean ====
section
/-! DEFINITION. The Pole Drive: trip orders (R72, R76), the trip and close under way (R73 to R77), position (R69, R70),
the close gate (R84 to R86), and the energy store (R81 to R83). -/

namespace Sys2Proof.Machine

/-- R78: a completion of a pole operation, handed to the Sequence Controller: the pole, the kind and the outcome. -/
structure Completion where
  pole : Pole
  close : Bool
  outcome : OpOutcome
deriving DecidableEq, Repr

/-! ## One pole record -/

/-- R68: no operation is in flight. -/
def PoleRecord.atRest (r : PoleRecord) : Bool := r.mech = .idle || r.mech = .failed

/-- R68: the record at the end of an operation: resting in FAILED or IDLE by its mark, every timer stopped. -/
def PoleRecord.finish (r : PoleRecord) (o : OpOutcome) : PoleRecord :=
  { r with mech := if r.failed then .failed else .idle, last := some o, pulse := none, window := none, gap := none,
           heldOpen := false, windowHeld := false }

/-- R75, R77: the record of a pole declared failed. -/
def PoleRecord.fail (r : PoleRecord) : PoleRecord := { r with failed := true }.finish .failed

/-- R72, R74: a trip pulse begins, with a fresh pulse timer and a fresh window timer. -/
def PoleRecord.tripPulse (r : PoleRecord) (b : Bank) (now attempt : Nat) : PoleRecord :=
  { r with mech := .tripPulse, attempt := attempt, pulse := some (now + b.openPulse),
           window := some (now + b.openWindow), gap := none, heldOpen := false, windowHeld := false }

/-- R72, R76: a trip's first pulse, which counts as an operation. -/
def PoleRecord.beginTrip (r : PoleRecord) (b : Bank) (now : Nat) : PoleRecord :=
  { r.tripPulse b now 1 with ops := r.ops + 1 }

/-- R77: a close begins. -/
def PoleRecord.beginClose (r : PoleRecord) (b : Bank) (now : Nat) : PoleRecord :=
  { r with mech := .closePulse, pulse := some (now + b.closePulse), window := some (now + b.closeWindow), gap := none,
           ops := r.ops + 1, heldOpen := false, windowHeld := false }

/-- R72, R76: a trip order taken by the pole's mechanism state and position: the record after it, and the completion
returned at once, if any, as its kind (a close or not) and outcome. -/
def PoleRecord.order (r : PoleRecord) (b : Bank) (now : Nat) : PoleRecord × Option (Bool × OpOutcome) :=
  match r.mech with
  | .tripPulse => (r, none)
  | .tripWait => (r, none)
  | .tripRetry => (r, none)
  | .closePulse =>
    ({ { r with last := some .aborted }.beginTrip b now with heldOpen := r.position = .opened }, some (true, .aborted))
  | .closeWait =>
    ({ { r with last := some .aborted }.beginTrip b now with heldOpen := r.position = .opened }, some (true, .aborted))
  | .idle => if r.position = .opened then ({ r with last := some .success }, some (false, .success))
    else (r.beginTrip b now, none)
  | .failed => if r.position = .opened then ({ r with last := some .success }, some (false, .success))
    else (r.beginTrip b now, none)

/-- R73, R74: the outcome of a trip that completes at the attempt under way, or during the retry gap. -/
def PoleRecord.tripOutcome (r : PoleRecord) : OpOutcome :=
  if r.mech = .tripRetry ∨ r.attempt = 2 then .retriedSuccess else .success

/-- What an arrival makes of a pole's operation: nothing, a completion, or a failure. -/
inductive Verdict where
  | goesOn
  | completes (o : OpOutcome)
  | fails
deriving DecidableEq, Repr

/-- R73, R74, R76, R77: a decoded position taken by the operation in flight. -/
def PoleRecord.verdictAt (r : PoleRecord) : Verdict :=
  match r.mech, r.position with
  | .tripPulse, .opened => if r.heldOpen ∨ r.windowHeld then .goesOn else .completes r.tripOutcome
  | .tripWait, .opened => .completes r.tripOutcome
  | .tripRetry, .opened => .completes r.tripOutcome
  | .closePulse, .closed => .completes .success
  | .closeWait, .closed => .completes .success
  | _, _ => .goesOn

/-! ## The pole records in the state -/

/-- One pole's record. -/
def State.poleRec (s : State) (p : Pole) : PoleRecord := s.poles.pole.get p

/-- One pole's record replaced. -/
def State.withPole (s : State) (p : Pole) (r : PoleRecord) : State :=
  { s with poles := { s.poles with pole := s.poles.pole.set p r } }

/-- R74, R75, R77: a pole's operation ends: its record takes the outcome, MECH_SLOW (with the attempt as it stands,
log 19) or MECH_FAIL and the ALARM request follow in the same step. -/
def endOperation (p : Pole) (close : Bool) (v : Verdict) (s : State) : State :=
  s.onlyPoles <|
    match v with
    | .goesOn => s
    | .completes .retriedSuccess =>
      raise .mechSlow ([Pole.code p] ++ u8 (s.poleRec p).attempt) (s.withPole p ((s.poleRec p).finish .retriedSuccess))
    | .completes o => s.withPole p ((s.poleRec p).finish o)
    | .fails =>
      (raise .mechFail (mechFailBody p close (s.poleRec p).ops) (s.withPole p (s.poleRec p).fail)).askAlarm

/-- The completion that a verdict brings (R78). -/
def Verdict.completion (v : Verdict) (p : Pole) (close : Bool) : List Completion :=
  match v with
  | .goesOn => []
  | .completes o => [{ pole := p, close := close, outcome := o }]
  | .fails => [{ pole := p, close := close, outcome := .failed }]

/-- Whether the operation in flight is a close. -/
def PoleRecord.closing (r : PoleRecord) : Bool := r.mech = .closePulse || r.mech = .closeWait

/-- R72: a trip order for one pole: the notice, then the order. -/
def orderTrip (p : Pole) (s : State) : State × List Completion :=
  let told := tripNotice s
  let r := (told.poleRec p).order told.store.active told.now
  (told.withPole p r.1,
    match r.2 with
    | some (close, o) => [{ pole := p, close := close, outcome := o }]
    | none => [])

/-- R72: the poles of a mask ordered to trip, one by one. -/
def orderTrips (mask : PoleMask) (s : State) : State × List Completion :=
  let step := fun (acc : State × List Completion) (p : Pole) =>
    if mask.get p then
      let next := orderTrip p acc.1
      (next.1, acc.2 ++ next.2)
    else acc
  step (step (step (s, []) .a) .b) .c

/-! ## Position (R69, R70) -/

/-- R69: the position two accepted levels decode to. -/
def decodePosition (c : Contacts Bool) : Position :=
  match c.a, c.b with
  | true, false => .closed
  | false, true => .opened
  | _, _ => .unknown

/-- POSITION_CHANGE's body (R70). -/
def positionBody (p : Pole) (before after : Position) : List Byte :=
  [Pole.code p, Position.code before, Position.code after]

/-- R69, R70: a decoded position taken by a pole: POSITION_CHANGE with no operation in flight (but not at discovery),
else the operation's own rule. Answers the completion, if any. -/
def takePosition (p : Pole) (pos : Position) (s : State) : State × List Completion :=
  let r := s.poleRec p
  let r' := { r with position := pos, discovered := true }
  let s1 := s.withPole p r'
  if r.atRest then
    (if r.discovered ∧ r.position ≠ pos then s.onlyPoles (raise .positionChange (positionBody p r.position pos) s1)
     else s1, [])
  else (endOperation p r.closing r'.verdictAt s1, r'.verdictAt.completion p r.closing)

/-! ## Timers of an operation (R73, R74, R77) -/

/-- R74: a missed attempt: a retry, or the trip fails. -/
def missedAttempt (p : Pole) (s : State) : State × List Completion :=
  let r := s.poleRec p
  let b := s.store.active
  if r.attempt = 1 ∧ b.retryEnable = true then
    (s.withPole p { r with mech := .tripRetry, pulse := none, window := none, gap := some (s.now + b.retryGap),
                           heldOpen := false, windowHeld := false }, [])
  else (endOperation p false .fails s, Verdict.fails.completion p false)

/-- R73, R76: the trip pulse ends. -/
def tripPulseEnds (p : Pole) (s : State) : State × List Completion :=
  let r := s.poleRec p
  if r.mech ≠ .tripPulse then (s, [])
  else if r.position = .opened then
    (endOperation p false (.completes r.tripOutcome) s, (Verdict.completes r.tripOutcome).completion p false)
  else if r.windowHeld then missedAttempt p s
  else (s.withPole p { r with mech := .tripWait, pulse := none, heldOpen := false }, [])

/-- R73: the trip window expires: a miss in TRIP_WAIT; in TRIP_PULSE it is held to the pulse's end. -/
def tripWindowExpires (p : Pole) (s : State) : State × List Completion :=
  let r := s.poleRec p
  match r.mech with
  | .tripPulse => (s.withPole p { r with window := none, windowHeld := true }, [])
  | .tripWait => missedAttempt p s
  | _ => (s, [])

/-- R74: the gap ends: the second pulse begins. -/
def gapEnds (p : Pole) (s : State) : State :=
  let r := s.poleRec p
  if r.mech = .tripRetry then s.withPole p (r.tripPulse s.store.active s.now 2) else s

/-- R77: the close pulse ends. -/
def closePulseEnds (p : Pole) (s : State) : State × List Completion :=
  let r := s.poleRec p
  if r.mech ≠ .closePulse then (s, [])
  else if r.position = .closed then
    (endOperation p true (.completes .success) s, (Verdict.completes .success).completion p true)
  else if r.windowHeld then (endOperation p true .fails s, Verdict.fails.completion p true)
  else (s.withPole p { r with mech := .closeWait, pulse := none }, [])

/-- R77: the close window expires: the close fails in CLOSE_WAIT; in CLOSE_PULSE it is held to the pulse's end. -/
def closeWindowExpires (p : Pole) (s : State) : State × List Completion :=
  let r := s.poleRec p
  match r.mech with
  | .closePulse => (s.withPole p { r with window := none, windowHeld := true }, [])
  | .closeWait => (endOperation p true .fails s, Verdict.fails.completion p true)
  | _ => (s, [])

/-! ## The close gate (R84 to R86) -/

/-- Whether the hold table covers a pole of a mask (R90). -/
def HoldUnit.covers (h : HoldUnit) (mask : PoleMask) : Bool :=
  h.table.any fun x => !(x.2.scope.inter mask).isEmpty

/-- Whether every pole of a mask satisfies a test. -/
def everyPole (mask : PoleMask) (f : PoleRecord → Bool) (poles : PerPole PoleRecord) : Bool :=
  (!mask.a || f poles.a) && (!mask.b || f poles.b) && (!mask.c || f poles.c)

/-- R84: the conditions in order, each with the reason of its failure. None is on the lever: before its first acceptance
R100 step 1 refuses every CLOSE, and an automatic reclose may pass (R189; log 45). -/
def gateConditions (mask : PoleMask) (s : State) : List (Bool × GateReason) :=
  [(!s.holds.covers mask, .hold),
   (decide (s.poles.handle = .inactive), .handle),
   (s.poles.pole.toList.all (fun r => !r.failed), .poleFailed),
   (everyPole mask (fun r => decide (r.mech = .idle)) s.poles.pole, .poleBusy),
   (everyPole mask (fun r => decide (r.position = .opened)) s.poles.pole, .positionUnknown),
   (s.prot.linkUp, .linkLost),
   (decide (s.batt.level ≠ .critical), .supplyCritical),
   (decide (s.batt.level ≠ .shutdownPending), .shutdown),
   (decide (s.store.active.closeReserve ≤ s.poles.storeVoltage), .energyLow)]

/-- R84, R86: the first reason that refuses a close of a mask; none when the gate would admit it. -/
def gateQuery (mask : PoleMask) (s : State) : Option GateReason :=
  ((gateConditions mask s).find? fun c => !c.1).map (·.2)

/-- R77, R85: the close pulses of a mask begin. -/
def beginCloses (mask : PoleMask) (s : State) : State :=
  let start := fun (on : Bool) (r : PoleRecord) => if on then r.beginClose s.store.active s.now else r
  { s with poles := { s.poles with pole := mask.zip start s.poles.pole } }

/-- R84, R85: a close request: the close notice, the conditions, and the pulses in the same step. -/
def closeRequest (mask : PoleMask) (s : State) : State × Option GateReason :=
  let told := abortTest .close s
  match gateQuery mask told with
  | some r => (told, some r)
  | none => (beginCloses mask told, none)

/-! ## The energy store (R81 to R83) -/

/-- R82: the store charger state after a reading. -/
def chargingAfter (b : Bank) (reading : Nat) (before : Bool) : Bool :=
  if reading < b.storeTarget - 50 then true else if reading < b.storeTarget then before else false

/-- R81 to R83: the Pole Drive takes a store reading. -/
def poleTakesReading (reading : Nat) (s : State) : State :=
  let b := s.store.active
  let p := { s.poles with storeVoltage := reading, charging := chargingAfter b reading s.poles.charging }
  if reading < b.tripReserve ∧ s.poles.storeLow = false then
    raise .storeLow (u16 reading) { s with poles := { p with storeLow := true } }
  else if b.closeReserve ≤ reading then { s with poles := { p with storeLow := false } }
  else { s with poles := p }

end Sys2Proof.Machine
end

