-- ==== Sys2Proof/Machine/SequenceOps.lean ====
section
/-! DEFINITION. The Sequence Controller: fault records (R65, R66), lockout (R63), the choice of poles (R47, R49), the
completions and the end of TRIPPING (R51, R52), operation signals (R48 to R59, R64), operator trips (R60, R61), the
operator close's side (R62), and the start decision (R190). -/

namespace Sys2Proof.Machine

/-- The Sequence Controller's record replaced. -/
def State.withSeq (s : State) (q : Sequence) : State := { s with seq := q }

/-- R46: the context emptied; outstanding orders are kept while they are in flight. -/
def ShotContext.emptied (c : ShotContext) : ShotContext :=
  { ShotContext.empty with tripsOut := c.tripsOut, closesOut := c.closesOut }

/-- The poles with a trip order not yet completed. -/
def ShotContext.tripping (c : ShotContext) : PoleMask := c.tripsOut.map Option.isSome

/-- Orders of one kind recorded as outstanding. -/
def ShotContext.ordering (c : ShotContext) (mask : PoleMask) (k : TripKind) : ShotContext :=
  { c with tripsOut := mask.zip (fun on old => if on then some k else old) c.tripsOut }

/-- Whether no order of either kind is outstanding. -/
def ShotContext.settled (c : ShotContext) : Bool := c.tripping.isEmpty && c.closesOut.isEmpty

/-- R47: a pole counts as closed. -/
def countsClosed (s : State) : PoleMask :=
  s.poles.pole.zip (fun r out => decide (r.position ≠ .opened) || out) s.seq.ctx.closesOut

/-- R47: an order set that comes out empty with no trip outstanding becomes all three poles. -/
def orOrderAll (mask : PoleMask) (s : State) : PoleMask :=
  if mask.isEmpty && s.seq.ctx.tripping.isEmpty then .full else mask

/-! ## Fault records (R65, R66) -/

/-- The open record's number, or 0. -/
def Sequence.recordNumber (q : Sequence) : Half := q.openRecord.getD 0

/-- Work on the open record, if there is one. -/
def Sequence.updateOpen (q : Sequence) (f : FaultRecord → FaultRecord) : Sequence :=
  match q.openRecord with
  | some n => { q with faults := q.faults.map fun r => if r.number = n then f r else r }
  | none => q

/-- R65, R66, R48: a fault record started from the episode open at the signal. -/
def startRecord (shot : Nat) (elements : ElementSet) (s : State) : State :=
  let q := s.seq
  let r : FaultRecord :=
    { number := q.nextRecord, startTag := (s.prot.episode.map (·.tag)).getD s.time.timeTag, shots := shot,
      maxima := (s.prot.episode.map (·.maxima)).getD (.all 0), elements := elements, lastMask := .none, clearing := 0,
      outcome := none, cause := none }
  let kept := if 8 ≤ q.faults.length then q.faults.drop 1 else q.faults
  s.withSeq { q with faults := kept ++ [r], openRecord := some q.nextRecord, nextRecord := numberAfter q.nextRecord }

/-- R51, R66: the open record's maxima raised to the episode's, while it is open. -/
def raiseMaxima (s : State) : State :=
  match s.prot.episode with
  | some ep => s.withSeq (s.seq.updateOpen fun r => { r with maxima := r.maxima.zip max ep.maxima })
  | none => s

/-- R66: the open record takes an operation signal. -/
def recordSignal (elements : ElementSet) (s : State) : State :=
  raiseMaxima (s.withSeq (s.seq.updateOpen fun r => { r with elements := r.elements.union elements }))

/-- R59, R63, R45: the open record closed. -/
def Sequence.closeRecord (q : Sequence) (o : FaultOutcome) (cause : Option LockoutCause) : Sequence :=
  { q.updateOpen fun r => { r with outcome := some o, cause := cause } with openRecord := none }

/-! ## Lockout (R63) and RESET -/

/-- R63: LOCKOUT entered with a cause; the open record's outcome is given. -/
def enterLockout (cause : LockoutCause) (o : FaultOutcome) (s : State) : State :=
  s.onlySequence <|
    let closed := s.seq.closeRecord o (some cause)
    raise .lockout (lockoutBody cause s.seq.recordNumber) <|
      s.withSeq { closed with state := .lockout, cause := cause, shot := 1, deadTimer := none, reclaimTimer := none,
                              afterClose := false, ctx := closed.ctx.emptied, initial := false, lamp := true }

/-- R59, R190, R45: RESET with n = 1; the shot context emptied (R46; log 41 for trips of LOCKOUT still in flight) and the
lamp dark. -/
def Sequence.toReset (q : Sequence) : Sequence :=
  { q with state := .reset, shot := 1, deadTimer := none, reclaimTimer := none, afterClose := false,
           ctx := q.ctx.emptied, initial := false, lamp := false }

/-! ## The operator close's outcome (R62, R105) -/

/-- R62, R105: a close outcome recorded for the operator close, if the pole's close is one of its own. -/
def OperatorClose.take (oc : OperatorClose) (p : Pole) (o : OpOutcome) : OperatorClose :=
  if oc.waiting.get p then { oc with waiting := oc.waiting.set p false, outcomes := oc.outcomes.set p (some o) } else oc

/-- R62: the operator close's outcome handed to the Hold Unit once its last close has completed. -/
def handCloseOutcome (o : CloseOutcome) (s : State) : State :=
  match s.seq.operatorClose with
  | some oc =>
    if oc.waiting.isEmpty then closeEnds o oc.outcomes (s.withSeq { s.seq with operatorClose := none }) else s
  | none => s

/-! ## The end of TRIPPING (R52, R53) -/

/-- R53: the condition of a lockout gate. -/
def gateCondition (code : Nat) (s : State) : Bool :=
  let els := s.seq.ctx.elements
  match code with
  | 0 => true
  | 1 =>
    match s.seq.openRecord with
    | some n =>
      s.seq.faults.any fun r =>
        decide (r.number = n) && r.maxima.toList.any (fun m => decide (2 * s.store.active.highCurrentLockout ≤ m))
    | none => false
  | 2 => els.time.g
  | 3 => decide (2 ≤ (els.phases.toList.filter id).length)
  | 4 => els.highSet.a || els.highSet.b || els.highSet.c
  | 5 =>
    s.prot.latest.voltages.toList.any fun v =>
      decide (v.mark ≠ .invalid) && decide (v.value < s.store.active.liveVoltage)
  | 6 => decide (s.batt.level ≠ .normal)
  | 7 => s.seq.userFlags.f0
  | 8 => s.seq.userFlags.f1
  | 9 => s.seq.userFlags.f2
  | 10 => s.seq.userFlags.f3
  | _ => false

/-- R53: whether the lockout gate of shot n fires: the condition's truth equals the sense. -/
def gateFires (s : State) : Bool :=
  gateCondition (s.store.active.gateCondition s.seq.shot) s == s.store.active.gateSense s.seq.shot

/-- An end cause as a lockout cause (R52 step 3). -/
def EndCause.cause : EndCause → LockoutCause
  | .operator => .operator
  | .evolving => .evolving
  | .closeOntoFault => .closeOntoFault

/-- R52, step 1's second part to step 7: the lockout that TRIPPING's end gives, with the record's outcome; none for
DEAD_TIME (step 8). -/
def trippingLockout (s : State) : Option (LockoutCause × FaultOutcome) :=
  let c := s.seq.ctx
  if !c.failed.isEmpty then some (.mechFail, .tripFailed)
  else if c.closeFailed then some (.mechFail, .lockout)
  else
    match c.endCause with
    | some e => some (e.cause, .lockout)
    | none =>
      if !s.holds.table.isEmpty then some (.hold, .lockout)
      else if s.seq.shot = s.store.active.shotCount then some (.lastShot, .lockout)
      else if gateFires s then some (.gate, .lockout)
      else if s.batt.level = .shutdownPending then some (.supply, .lockout)
      else none

/-- R55: DEAD_TIME entered for shot n. -/
def enterDeadTime (s : State) : State :=
  s.withSeq { s.seq with state := .deadTime, deadTimer := some (s.now + s.store.active.deadTime s.seq.shot) }

/-- R52, R66: the open record updated at the application that leaves TRIPPING. -/
def FaultRecord.atTrippingEnd (r : FaultRecord) (c : ShotContext) (shot now : Nat) : FaultRecord :=
  { r with lastMask := c.ordered, shots := shot, elements := r.elements.union c.elements,
           clearing := match c.pickup with
             | some t => now - t
             | none => r.clearing }

/-- R129: the clearing time TRIP carries: the open record's, or, with no record, that of the shot; with neither the
manual gives none (log 25). -/
def tripClearing (s : State) : Option Nat :=
  match s.seq.openRecord.bind fun n => s.seq.faults.find? fun r => r.number = n with
  | some r => some r.clearing
  | none => s.seq.ctx.pickup.map fun t => s.now - t

/-- TRIP raised. A clearing time the manual does not give is a free value (log 25). -/
def raiseTrip (mask : PoleMask) (shot : Nat) (record : Half) (els : ElementSet) (clearing : Option Nat)
    (s : State) : State :=
  match clearing with
  | some ms => raise .trip (tripBody mask shot record els ms) s
  | none => raise .trip (tripBody mask shot record els (Config.absentClearing s.freeCount)) (s.spend 1)

/-- R52: the record updated and TRIP raised, when the ordered mask is non-empty. -/
def reportTrip (s : State) : State :=
  if s.seq.ctx.ordered.isEmpty then s
  else
    let c := s.seq.ctx
    let s1 := s.withSeq (s.seq.updateOpen fun r => r.atTrippingEnd c s.seq.shot s.now)
    raiseTrip c.ordered s.seq.shot s.seq.recordNumber c.elements (tripClearing s1) s1

/-- R52: TRIPPING ends. Answers the completions that its follow-on trips return at once. -/
def trippingEnds (s : State) : State × List Completion :=
  let c := s.seq.ctx
  let follow := ((countsClosed s).diff c.tripping).diff c.failed
  if !c.failed.isEmpty && !follow.isEmpty then
    let s1 := s.withSeq { s.seq with ctx := { c.ordering follow .fault with ordered := c.ordered.union follow } }
    orderTrips follow s1
  else
    let s1 := reportTrip s
    match trippingLockout s with
    | some (cause, o) => (enterLockout cause o s1, [])
    | none => (enterDeadTime s1, [])

/-! ## Operator trips: the waiting commands (R60) -/

/-- R60: the TRIP's answer once every order has completed. -/
def OperatorTrip.answer (t : OperatorTrip) : Answer :=
  if t.outcomes.toList.any (· = some .failed) then .failed (outcomeBytes t.outcomes) else .done (outcomeBytes t.outcomes)

/-- R60: a completion taken by an operator trip that waits for the pole. -/
def OperatorTrip.take (t : OperatorTrip) (p : Pole) (o : OpOutcome) : OperatorTrip :=
  if t.waiting.get p then { t with waiting := t.waiting.set p false, outcomes := t.outcomes.set p (some o) } else t

/-- R60, R61: an operator trip whose orders have completed: its command is answered, and in LOCKOUT its cause becomes
OPERATOR if it was taken there. -/
def operatorTripEnds (t : OperatorTrip) (s : State) : State :=
  let s1 :=
    if t.inLockout = true ∧ s.seq.state = .lockout then s.withSeq { s.seq with cause := .operator } else s
  match t.cmd with
  | some r => complete r t.answer s1
  | none => s1

/-- R60: every operator trip of a list that has ended is answered, in the order they were taken. -/
def operatorTripsEnd : List OperatorTrip → State → State
  | [], s => s
  | t :: rest, s => operatorTripsEnd rest (operatorTripEnds t s)

/-- R60: a trip completion taken by the operator trips. -/
def operatorTripsTake (p : Pole) (o : OpOutcome) (s : State) : State :=
  let all := s.seq.operatorTrips.map (·.take p o)
  let ended := all.filter (·.waiting.isEmpty)
  operatorTripsEnd ended (s.withSeq { s.seq with operatorTrips := all.filter fun t => !t.waiting.isEmpty })

/-! ## Completions (R51, R58) -/

/-- R51 steps 1 to 4. -/
def tripCompleted (p : Pole) (o : OpOutcome) (s : State) : State :=
  let kind := s.seq.ctx.tripsOut.get p
  let freed := { s with prot := s.prot.release }
  match kind with
  | none => freed
  | some k =>
    let c := { s.seq.ctx with tripsOut := s.seq.ctx.tripsOut.set p none }
    let marked :=
      if o = .failed then { c with failed := c.failed.set p true }
      else if k = .fault then { c with reclose := c.reclose.set p true }
      else c
    let s1 := freed.withSeq { s.seq with ctx := marked }
    if k = .fault then raiseMaxima s1 else s1

/-- R64: in LOCKOUT, when the last trip ordered there for a fault completes, TRIP is raised with their mask (log 16); it
has no clearing time (log 25). Once that LOCKOUT has been left there is none for them (the model's choice, log 41). -/
def lockoutTripDone (s : State) : State :=
  let c := s.seq.ctx
  let waiting := c.tripsOut.toList.any (· = some .fault)
  if s.seq.state = .lockout ∧ waiting = false ∧ c.ordered.isEmpty = false then
    raiseTrip c.ordered 0 0 .none none (s.withSeq { s.seq with ctx := { c with ordered := .none } })
  else s

/-- R51 step 5: TRIPPING ends with no order outstanding. -/
def endIfSettled (s : State) : State × List Completion :=
  if s.seq.state = .tripping ∧ s.seq.ctx.settled = true then trippingEnds s else (s, [])

/-- R51: a trip completion. A waiting TRIP command is answered before the TRIP event of R64 is raised, and before the end of
TRIPPING is judged (the model's choice, log 18). -/
def takeTripCompletion (p : Pole) (o : OpOutcome) (s : State) : State × List Completion :=
  endIfSettled (lockoutTripDone (operatorTripsTake p o (tripCompleted p o s)))

/-- R58, R62: CLOSING ends: LOCKOUT (MECH_FAIL), or RECLAIM with n + 1 (with n = 1 after an operator close). LOCKOUT is
raised before a CLOSE answers FAILED (the model's choice, log 18). -/
def closingEnds (s : State) : State :=
  if s.seq.ctx.closeFailed then handCloseOutcome .failed (enterLockout .mechFail .lockout s)
  else
    let n := if s.seq.afterClose then 1 else s.seq.shot + 1
    handCloseOutcome .succeeded <|
      s.withSeq { s.seq with state := .reclaim, shot := n, reclaimTimer := some (s.now + s.store.active.reclaimTime) }

/-- R51, R58: a close completion. One for an order no longer tracked has no effect. In TRIPPING a CLOSE is answered before
the end of TRIPPING is judged (the model's choice, log 18). -/
def takeCloseCompletion (p : Pole) (o : OpOutcome) (s : State) : State × List Completion :=
  if s.seq.ctx.closesOut.get p = false then (s, [])
  else
    let c := { s.seq.ctx with closesOut := s.seq.ctx.closesOut.set p false,
                              closeFailed := s.seq.ctx.closeFailed || decide (o = .failed) }
    let s1 := s.withSeq { s.seq with ctx := c, operatorClose := s.seq.operatorClose.map (·.take p o) }
    if s1.seq.state = .closing then (if c.closesOut.isEmpty then closingEnds s1 else s1, [])
    else endIfSettled (handCloseOutcome .tripped s1)

/-- R78: one completion taken by the Sequence Controller. -/
def takeCompletion (c : Completion) (s : State) : State × List Completion :=
  if c.close then takeCloseCompletion c.pole c.outcome s else takeTripCompletion c.pole c.outcome s

/-- R51: completions taken one by one, those they bring at once after them. The bound is never reached (log 27). -/
def settle : Nat → List Completion → State → State
  | 0, _, s => s
  | _, [], s => s
  | n + 1, c :: rest, s =>
    let next := takeCompletion c s
    settle n (rest ++ next.2) next.1

/-- The state and completions of a step of the Pole Drive, settled. -/
def settled (x : State × List Completion) : State := settle 12 x.2 x.1

/-- A step of the Pole Drive with the completions it hands to the Sequence Controller (R78). -/
def poleEvent (f : State → State × List Completion) (s : State) : State := s.onlySequence (settled (f s))

/-! ## Operation signals (R48 to R59, R64) -/

/-- R46: the context emptied and the signal recorded in it. -/
def ShotContext.fresh (c : ShotContext) (pickup : Option Nat) (elements : ElementSet) (e : Option EndCause) :
    ShotContext :=
  { c.emptied with pickup := pickup, elements := elements, endCause := e }

/-- R49: the poles to trip on the signal that begins a shot. -/
def polesToTrip (b : Bank) (shot : Nat) (elements : ElementSet) (closed : PoleMask) : PoleMask :=
  let phases := elements.phases
  if !b.threePole shot && !elements.time.g && (phases.toList.filter id).length == 1 then phases else closed

/-- The pickup instant of the episode open at the signal (R46). -/
def pickupInstant (s : State) : Option Nat := s.prot.episode.map (·.instant)

/-- Trips ordered for a fault: recorded as outstanding and in the ordered mask before the Pole Drive takes them (R48
step 3, R51 step 5). -/
def orderFault (mask : PoleMask) (s : State) : State × List Completion :=
  let c := s.seq.ctx
  orderTrips mask (s.withSeq { s.seq with ctx := { c.ordering mask .fault with ordered := c.ordered.union mask } })

/-- R48, R58, R59: a shot begins on a signal: the context is fresh, the poles are chosen under shot n, TRIPPING is
entered. -/
def beginShot (shot : Nat) (elements : ElementSet) (e : Option EndCause) (s : State) : State × List Completion :=
  let c := s.seq.ctx.fresh (pickupInstant s) elements e
  let s1 := s.withSeq { s.seq with state := .tripping, shot := shot, reclaimTimer := none, afterClose := false, ctx := c }
  orderFault (orOrderAll (polesToTrip s.store.active shot elements (countsClosed s1)) s1) s1

/-- A signal's elements joined to the context. -/
def joinElements (elements : ElementSet) (s : State) : State :=
  s.withSeq { s.seq with ctx := { s.seq.ctx with elements := s.seq.ctx.elements.union elements } }

/-- CLOSE_ONTO_FAULT when the header's option is on (R59, R62). -/
def ontoFaultCause (s : State) : Option EndCause :=
  if s.store.active.closeOntoFaultLockout then some .closeOntoFault else none

/-- R48: a signal in RESET. -/
def signalInReset (els : ElementSet) (s : State) : State × List Completion :=
  beginShot 1 els none (startRecord 1 els s)

/-- R50: a signal in TRIPPING. -/
def signalInTripping (els : ElementSet) (s : State) : State × List Completion :=
  let s1 := joinElements els (recordSignal els s)
  let c := s1.seq.ctx
  orderFault (orOrderAll (((countsClosed s1).diff c.tripping).diff c.failed) s1) s1

/-- R56: a signal in DEAD_TIME: an evolving fault. -/
def signalInDeadTime (els : ElementSet) (s : State) : State × List Completion :=
  let s1 := joinElements els (recordSignal els s)
  let s2 := s1.withSeq { s1.seq with state := .tripping, deadTimer := none,
                                     ctx := { s1.seq.ctx with endCause := some .evolving } }
  orderFault (orOrderAll (PoleMask.full.diff s2.seq.ctx.tripping) s2) s2

/-- R58, R62: a signal in CLOSING: a close onto a fault. -/
def signalInClosing (els : ElementSet) (s : State) : State × List Completion :=
  if s.seq.afterClose then beginShot 1 els (ontoFaultCause s) (startRecord 1 els s)
  else beginShot (s.seq.shot + 1) els none (recordSignal els s)

/-- R59: a signal in RECLAIM. -/
def signalInReclaim (els : ElementSet) (s : State) : State × List Completion :=
  let e := if s.seq.afterClose then ontoFaultCause s else none
  let s1 := if s.seq.openRecord.isSome then recordSignal els s else startRecord s.seq.shot els s
  beginShot s.seq.shot els e s1

/-- R64: a signal in LOCKOUT. -/
def signalInLockout (els : ElementSet) (s : State) : State × List Completion :=
  let s1 := joinElements els s
  orderFault (orOrderAll ((countsClosed s1).diff s1.seq.ctx.tripping) s1) s1

/-- R39: an operation signal taken by the Sequence Controller, by its state. -/
def takeSignal (els : ElementSet) (s : State) : State × List Completion :=
  match s.seq.state with
  | .reset => signalInReset els s
  | .tripping => signalInTripping els s
  | .deadTime => signalInDeadTime els s
  | .closing => signalInClosing els s
  | .reclaim => signalInReclaim els s
  | .lockout => signalInLockout els s

/-- R39: an operation signal with the completions it brings at once; then the Hold Unit takes it (R103). -/
def operationSignal (els : ElementSet) (s : State) : State :=
  s.onlySequence (cancelWarning .sequenceActive (settled (takeSignal els s)))

/-! ## Operator trips (R60, R61) -/

/-- R61: the sequence's change at an operator trip, by its state. The mark that CLOSING had after an operator close stays
until the LOCKOUT that follows (R45 against R61's row: the model's choice, log 46). -/
def Sequence.operatorTrip (q : Sequence) : Sequence :=
  let cleared := { q.ctx with ordered := .none, pickup := none, endCause := some .operator }
  match q.state with
  | .reset => { q with state := .tripping, ctx := { q.ctx.emptied with endCause := some .operator } }
  | .tripping => { q with ctx := { q.ctx with endCause := some .operator } }
  | .deadTime => { q with state := .tripping, deadTimer := none, ctx := cleared }
  | .closing => { q with state := .tripping, ctx := cleared }
  | .reclaim => { q with state := .tripping, reclaimTimer := none, afterClose := false, ctx := cleared }
  | .lockout => q

/-- R60, R61: an operator trip: orders on the poles with no trip outstanding, OPERATOR_TRIP, the sequence's change
(log 18), then the completions that came at once. A pole with a trip outstanding takes no order and brings no trip
notice (R61 against R60, R72 and R103: the model's choice, log 48). -/
def operatorTrip (cmd : Option CmdRef) (source : Option PortId) (mask : PoleMask) (s : State) : State :=
  s.onlySequence <|
    let placed := mask.diff s.seq.ctx.tripping
    let ordered := orderTrips placed s
    let told := raise .operatorTrip [tripSourceCode source, PoleMask.byte mask] ordered.1
    let t : OperatorTrip :=
      { cmd := cmd, mask := mask, waiting := mask, outcomes := .all none,
        inLockout := decide (told.seq.state = .lockout) }
    let q := told.seq.operatorTrip
    let taken := told.withSeq { q with ctx := q.ctx.ordering placed .operator, operatorTrips := q.operatorTrips ++ [t] }
    settled (taken, ordered.2)

/-! ## The operator close admitted (R62), notices, timers -/

/-- R62: the gate has admitted an operator close of a mask: CLOSING. An operator trip taken in LOCKOUT and still in
flight loses its mark of that, so that its completion does not give its cause to a LOCKOUT entered after this one (the
model's choice where R61 and R62 are silent, log 39). Trips ordered in LOCKOUT for a fault and still in flight leave the
ordered mask with the rest of the context, so that no TRIP is raised for them (R62 against R64: log 41). -/
def closeAdmitted (mask : PoleMask) (s : State) : State :=
  let q := s.seq
  let lamp := if q.state = .lockout then false else q.lamp
  s.withSeq { q with
    state := .closing, shot := 1, afterClose := true, lamp := lamp, initial := false,
    ctx := { q.ctx.emptied with closesOut := mask },
    operatorTrips := q.operatorTrips.map fun t => { t with inLockout := false },
    operatorClose := some { mask := mask, waiting := mask, outcomes := .all none } }

/-- R55, R58: the hold-placed notice. -/
def sequenceTakesHold (slot : Nat) (scope : PoleMask) (s : State) : State :=
  match s.seq.state with
  | .deadTime => enterLockout .hold .lockout s
  | .closing =>
    if s.seq.afterClose then s
    else raise .holdDuringClose (holdDuringCloseBody slot scope none s.seq.ctx.reclose) s
  | _ => s

/-- R55: the supply-level notice. -/
def sequenceTakesLevel (s : State) : State :=
  if s.seq.state = .deadTime ∧ s.batt.level = .shutdownPending then enterLockout .supply .lockout s else s

/-- R57: the dead timer has expired: the gate is asked for the reclose mask. -/
def deadTimeEnds (s : State) : State :=
  s.onlySequence <|
    let mask := s.seq.ctx.reclose
    let asked := closeRequest mask (s.withSeq { s.seq with deadTimer := none })
    match asked.2 with
    | some r =>
      enterLockout r.cause .lockout (raise .closeRefused (closeRefusedBody r.reason none mask) asked.1)
    | none =>
      let q := asked.1.seq
      raise .reclose (recloseBody mask q.shot q.recordNumber)
        (asked.1.withSeq { q with state := .closing, afterClose := false, ctx := { q.ctx with closesOut := mask } })

/-- R59: the reclaim timer has expired. -/
def reclaimEnds (s : State) : State :=
  let closed := s.seq.closeRecord .reclosedOk none
  raise .reclaimOk (be16 s.seq.recordNumber) (s.withSeq closed.toReset)

/-! ## The start decision (R190) -/

/-- Whether all three poles read CLOSED. -/
def allClosed (s : State) : Bool := s.poles.pole.toList.all fun r => decide (r.position = .closed)

/-- R190, R45: the start decision, made once, when the third pole has been discovered. It changes the initial LOCKOUT
alone (log 17): with cause START and three poles CLOSED to RESET, else to a LOCKOUT with the lamp lit and raised. -/
def startDecision (s : State) : State :=
  let q := { s.seq with decided := true }
  if q.state ≠ .lockout ∨ q.initial = false then s.withSeq q
  else if q.cause = .start ∧ allClosed s = true then s.withSeq q.toReset
  else raise .lockout (lockoutBody q.cause 0) (s.withSeq { q with lamp := true })

/-- R69, R190: the decision where it falls due. -/
def decideIfDiscovered (s : State) : State :=
  if s.seq.decided = false ∧ s.poles.pole.toList.all (·.discovered) = true then startDecision s else s

end Sys2Proof.Machine
end

