-- ==== Sys2Proof/Machine/HoldOps.lean ====
section
/-! DEFINITION. The Hold Unit: finding, placing and removing a hold (R89 to R95), and its part in the operator close
(R100, R101). -/

namespace Sys2Proof.Machine

/-- The hold in a slot (R89): 0 is the lever's, 1 to 7 the others. -/
def HoldUnit.slot (h : HoldUnit) : Nat → Option Hold
  | 0 => h.lever
  | k + 1 => (h.slots[k]?).getD none

/-- One slot replaced. -/
def HoldUnit.setSlot (h : HoldUnit) (slot : Nat) (x : Option Hold) : HoldUnit :=
  match slot with
  | 0 => { h with lever := x }
  | k + 1 => { h with slots := h.slots.setIfInBounds k x }

/-- The slot of the hold of an origin and tag, among 1 to 7 (R91, R92). -/
def HoldUnit.find (h : HoldUnit) (o : HoldOrigin) (tag : Half) : Option Nat :=
  (h.slots.toList.findIdx? fun x => x.any fun hold => decide (hold.origin = o) && decide (hold.tag = tag)).map (· + 1)

/-- R91: the lowest-numbered empty slot from 1 upward. -/
def HoldUnit.firstEmpty (h : HoldUnit) : Option Nat := (h.slots.toList.findIdx? Option.isNone).map (· + 1)

/-- A slot changed in the state. -/
def State.withSlot (s : State) (slot : Nat) (x : Option Hold) : State :=
  { s with holds := s.holds.setSlot slot x }

/-- R94: a command that waits for the write of its change. -/
def addWaiter (cmd : Option CmdRef) (slot : Nat) (s : State) : State :=
  match cmd with
  | some r =>
    { s with holds := { s.holds with waiters := s.holds.waiters ++ [{ cmd := r, slot := slot, covered := false }] } }
  | none => s

/-- R93 step 6: the hold-image write requested, unless the hold is the lever's. -/
def writeHolds (cmd : Option CmdRef) (slot : Nat) (s : State) : State :=
  if slot = 0 then s else requestWrite .hold (addWaiter cmd slot s)

/-- R93 step 3, R102, R105: the operator close record consulted at a placement. -/
def consultClose (slot : Nat) (h : Hold) (s : State) : State :=
  s.onlyClose <|
    match s.holds.close with
    | some r =>
      match r.phase with
      | .warning => if (h.scope.inter r.mask).isEmpty then s else cancelWarning .hold s
      | .pulsing => raise .holdDuringClose (holdDuringCloseBody slot h.scope (some r.cmd.port) r.mask) s
    | none => s

/-- R93: a placement. -/
def placeHold (cmd : Option CmdRef) (slot : Nat) (h : Hold) (s : State) : State :=
  let s1 := raise .holdSet (holdBody slot h) (s.withSlot slot (some h))
  writeHolds cmd slot (sequenceTakesHold slot h.scope (consultClose slot h s1)).askAlarm

/-- R93: a removal: nothing for the Sequence Controller, no warning cancelled. -/
def removeHold (cmd : Option CmdRef) (slot : Nat) (h : Hold) (s : State) : State :=
  writeHolds cmd slot (raise .holdCleared (holdBody slot h) (s.withSlot slot none)).askAlarm

/-- R95: the lever hold. -/
def leverHold (tag : Word) : Hold :=
  { origin := .lever, tag := 0, scope := .full, profile := true, setTag := tag }

/-- R95: the Hold Unit takes an accepted change of HOLD_LEVER. -/
def holdUnitTakesLever (active : Bool) (s : State) : State :=
  let s1 := { s with holds := { s.holds with leverAccepted := true } }
  if active then placeHold none 0 (leverHold s.time.timeTag) s1
  else
    match s.holds.lever with
    | some h => removeHold none 0 h s1
    | none => s1

/-- R101: the warning has ended: the gate is asked for the record's mask. -/
def warningEnds (s : State) : State :=
  s.onlySequence <|
    match s.holds.close with
    | some r =>
      if r.phase = .warning then
        let asked := closeRequest r.mask { s with holds := { s.holds with close := some { r with timer := none } } }
        match asked.2 with
        | some g => closeRefused g.reason r asked.1
        | none =>
          closeAdmitted r.mask
            { asked.1 with holds := { asked.1.holds with close := some { r with timer := none, phase := .pulsing } } }
      else s
    | none => s

/-- R100 steps 1 to 4: the reason that refuses a CLOSE; none when it is taken. -/
def closeBar (mask : PoleMask) (s : State) : Option Reason :=
  if s.holds.leverAccepted = false then some .hold
  else if s.holds.close.isSome then some .closeInProgress
  else if s.seq.state ≠ .reset ∧ s.seq.state ≠ .lockout then some .sequenceActive
  else (gateQuery mask s).map GateReason.reason

/-- R100 steps 5 to 8: a CLOSE taken: the close-taken notice, the record, the WARNING tone, OPERATOR_CLOSE. A delay
of 0 expires at once after them (log 22). -/
def closeTaken (r : CmdRef) (number : Half) (mask : PoleMask) (s : State) : State :=
  let delay := s.store.active.warningDelay r.port
  let told := abortTest .close s
  let record : CloseRecord :=
    { cmd := r, number := number, mask := mask, phase := .warning, warningEnd := s.now + delay,
      timer := some (s.now + delay) }
  let made := { told with holds := { told.holds with close := some record } }
  let toned := if delay = 0 then made else { made with line := { made.line with warningEnd := some (s.now + delay) } }
  let raised := raise .operatorClose (operatorCloseBody r.port mask delay) toned
  if delay = 0 then warningEnds raised else raised

end Sys2Proof.Machine
end

