-- ==== Sys2Proof/Machine/RadioOps.lean ====
section
/-! DEFINITION. The radio's transmitter (R140 to R148), the ends of transmission (R155, R157, R161), and RADIO_READY
(R144, R160). -/

namespace Sys2Proof.Machine

/-- R142, R144: every entry's resume channel PRIMARY with a fresh allowance. -/
def ReportUnit.resumeAll (r : ReportUnit) (b : Bank) : ReportUnit :=
  { r with queue := r.queue.map fun e => { e with resume := .primary, allowance := freshAllowance b } }

/-- The entry IN_FLIGHT, if any (R132: at most one). -/
def ReportUnit.inFlight (r : ReportUnit) : Option ReportEntry := r.queue.find? (·.inFlight)

/-- R141: the IN_FLIGHT entry back to QUEUED in its place. -/
def ReportUnit.requeue (r : ReportUnit) : ReportUnit :=
  { r with queue := r.queue.map fun e => { e with inFlight := false } }

/-- R140: a handed frame not yet begun is withdrawn; one whose transmission has begun stays the handed frame until it
ends. -/
def withdrawHanded (s : State) : State :=
  if s.port.handedReport.isSome then
    { s with port := s.port.withdrawReport, rep := { s.rep with handed := none } }
  else s

/-- The transmitter enters IDLE, with a selection pass (R138). -/
def enterIdle (s : State) : State := selectionPass { s with rep := { s.rep with tx := .idle } }

/-- R142: HOLDOFF entered. -/
def enterHoldoff (s : State) : State :=
  let r := s.rep.resumeAll s.store.active
  { s with rep := { r with tx := .holdoff, holdoffTimer := some (s.now + s.store.active.holdoff) } }

/-- R141: a resend at once, or a selection pass as from IDLE. -/
def resend (e : ReportEntry) (s : State) : State :=
  if e.eligible s.batt.level = true ∧ e.cost ≤ s.rep.budget then sendEntry e s else enterIdle s

/-- R141: the entry that went unanswered, by its resume channel and allowance. -/
def unanswered (e : ReportEntry) (s : State) : State :=
  if 0 < e.allowance then resend e s
  else
    match e.resume with
    | .primary =>
      let e' := { e with resume := .alternate, allowance := freshAllowance s.store.active }
      resend e' { s with rep := s.rep.update e.number fun _ => e' }
    | .alternate => enterHoldoff s

/-- R141: the ack timer has expired. -/
def ackExpires (s : State) : State :=
  s.onlyReport <|
    if s.rep.tx = .awaitAck then
      match s.rep.inFlight with
      | some e => unanswered { e with inFlight := false } { s with rep := { s.rep.requeue with ackTimer := none } }
      | none => { s with rep := { s.rep with ackTimer := none } }
    else { s with rep := { s.rep with ackTimer := none } }

/-- R142: the holdoff timer has expired. -/
def holdoffExpires (s : State) : State :=
  s.onlyReport (enterIdle { s with rep := { s.rep with holdoffTimer := none } })

/-- R143: the entry that an acknowledgement matches. -/
def acknowledged (r : ReportUnit) (n : Half) : Option ReportEntry :=
  r.queue.find? fun e => decide (e.number = n) && decide (1 ≤ e.attempts)

/-- R143, R134, R135: an acknowledged entry removed. -/
def ReportUnit.remove (r : ReportUnit) (e : ReportEntry) : ReportUnit :=
  let q := r.queue.filter fun x => x.number ≠ e.number
  { r with queue := q, overrun := r.overrun && !e.overrunCarried, backlog := r.backlog && decide (q.length ≠ 16) }

/-- R143: the transmitter after the removal, by its state. -/
def afterRemoval (e : ReportEntry) (s : State) : State :=
  match s.rep.tx with
  | .awaitAck => if e.inFlight then enterIdle { s with rep := { s.rep with ackTimer := none } } else s
  | .holdoff => enterIdle { s with rep := { s.rep with holdoffTimer := none } }
  | .waitBudget => selectionPass s
  | .idle => s
  | .disabled => s

/-- R140, R143: the handed frame withdrawn if it carried the removed entry. -/
def withdrawOf (e : ReportEntry) (s : State) : State :=
  if s.rep.handed.any (fun h => h.number = e.number) then withdrawHanded s else s

/-- R143, R148: a REPORT_ACK taken; the shutdown-acknowledged notice is handed over with the removal. -/
def reportAcked (n : Half) (s : State) : State :=
  match acknowledged s.rep n with
  | none => s
  | some e =>
    let removed := withdrawOf e { s with rep := s.rep.remove e }
    let told := if e.kind = .shutdown then assertShutdown removed else removed
    s.onlyBattery (afterRemoval e told)

/-- R144: the Report Unit takes an accepted change of RADIO_READY. -/
def reportTakesReady (active : Bool) (s : State) : State :=
  s.onlyReport <|
    let s1 := { s with rep := { s.rep with radioReady := if active then .active else .inactive } }
    if active then
      if s.rep.tx = .disabled then enterIdle s1 else s1
    else if s.rep.tx = .disabled then s1
    else
      let down := withdrawHanded { s1 with rep := s1.rep.requeue.resumeAll s.store.active }
      { down with rep := { down.rep with ackTimer := none, holdoffTimer := none, tx := .disabled } }

/-- R149, R157, R160: the Port Unit takes an accepted change of RADIO_READY. -/
def PortUnit.takeReady (p : PortUnit) (active : Bool) : PortUnit :=
  { p with radioReady := if active then .active else .inactive }.radioBegin

/-- R146: the share of the refill that a level and an AC level give. -/
def refillShare (b : Bank) (level : SupplyLevel) (ac : InputLevel) : Nat :=
  match level with
  | .normal => if ac = .active then b.refill else b.refill / 2
  | .low => b.refill / 4
  | .critical => 0
  | .shutdownPending => 0

/-- R146: the refill timer has expired: it restarts, and the budget rises, up to its ceiling. -/
def refill (s : State) : State :=
  s.onlyReport <|
    let b := s.store.active
    let sum := s.rep.budget + refillShare b s.batt.level s.batt.ac
    selectionIfOpen
      { s with rep := { s.rep with budget := min sum b.budgetCeiling, refillTimer := some (s.now + 60000) } }

/-- A timer of a period, stopped for a period of 0 (R147). -/
def periodTimer (now period : Nat) : Timer := if period = 0 then none else some (now + period)

/-- R147: the periodic timer has expired: it restarts, and MEASURE is raised unless BACKLOG is set. -/
def periodicExpires (s : State) : State :=
  s.onlyReport <|
    let s1 := { s with rep := { s.rep with periodicTimer := periodTimer s.now s.store.active.periodicPeriod } }
    if s.rep.backlog then s1 else raise .measure (measureBody s) s1

/-! ## Ends of transmission -/

/-- R140: the end of a REPORT frame's transmission: the handed frame becomes none, and its ack timer starts if its
entry is awaited. An end of an earlier frame is a report of that frame only (log 11). -/
def reportTransmitted (id : Nat) (s : State) : State :=
  match s.rep.handed with
  | some h =>
    if h.id ≠ id then s
    else
      let awaited := decide (s.rep.tx = .awaitAck) && s.rep.queue.any (fun e => e.inFlight && decide (e.number = h.number))
      let timer := if awaited then some (s.now + s.store.active.ackTimeout) else s.rep.ackTimer
      { s with rep := { s.rep with handed := none, ackTimer := timer } }
  | none => s

/-- R158, R159, R161: the end or the drop of a frame told to the unit that handed it over. -/
def frameEnded (t : FrameTag) (s : State) : State :=
  match t with
  | .result (some r) => frameReported r s
  | .result none => s
  | .report id => reportTransmitted id s
  | .notice => s
  | .reply => s

/-- R155: the end of a tank transmission: the oldest frame leaves the queue and the next begins. -/
def PortUnit.tankEnd (p : PortUnit) : PortUnit :=
  if p.tankBusy then { p with tankBusy := false, tankQueue := p.tankQueue.drop 1 }.tankBegin else p

/-- R157 to R159: the end of a radio transmission: it is reported, the line is free, the next begins. -/
def radioTxEnds (s : State) : State :=
  match s.port.radioLine with
  | some f =>
    let told := frameEnded f.tag s
    { told with port := { told.port with radioLine := none }.radioBegin }
  | none => s

/-- R161: the end of a crew transmission: it is reported, then the line is free and the next begins (the order of these
is the model's choice, log 37). -/
def crewTxEnds (s : State) : State :=
  match s.port.crewLine with
  | some f =>
    let told := frameEnded f.tag s
    { told with port := { told.port with crewLine := none }.crewBegin }
  | none => s

end Sys2Proof.Machine
end

