-- ==== Sys2Proof/Machine/LineOps.lean ====
section
/-! DEFINITION. The Line Unit: filters (R181), live masks, event flags and their events (R183, R184), the handing on of
accepted changes (R182), and what the crew's coming and going does (R152, R173, R174). -/

namespace Sys2Proof.Machine

/-- A level as an accepted level. -/
def InputLevel.of (active : Bool) : InputLevel := if active then .active else .inactive

/-- An accepted change: its level, and whether it is the filter's first acceptance (R181). -/
structure Accepted where
  level : Bool
  first : Bool
deriving DecidableEq, Repr

/-- A filter that accepts a level. -/
def Filter.accept (f : Filter) (level : Bool) : Filter × Option Accepted :=
  ({ f with accepted := .of level, candidate := none, run := 0 },
    some { level := level, first := decide (f.accepted = .notYet) })

/-- R181: a filter takes its reading at a sample. -/
def Filter.sample (count : Nat) (f : Filter) (reading : Bool) : Filter × Option Accepted :=
  if f.accepted = .of reading then ({ f with candidate := none, run := 0 }, none)
  else
    let running :=
      if f.candidate = some reading then { f with run := f.run + 1 }
      else { f with candidate := some reading, run := 1, target := count }
    if running.target ≤ running.run then running.accept reading else (running, none)

/-- A change row: the filter accepts the level it names; the level it already has is no change (log 9). -/
def Filter.change (f : Filter) (level : Bool) : Filter × Option Accepted :=
  if f.accepted = .of level then (f, none) else f.accept level

/-! ## Flags and events (R183, R184) -/

/-- The event of a maskable input's level raised, if it has one. -/
def raiseLineEvent (i : MaskInput) (active : Bool) (s : State) : State :=
  match i.event active with
  | some k => raise k [] s
  | none => s

/-- R183: flags and event of a level taken under an enabled mask. -/
def lineEffect (i : MaskInput) (active : Bool) (s : State) : State :=
  raiseLineEvent i active (if active then { s with line := s.line.setFlags i } else s)

/-- R183: an accepted change of a maskable input, other than a first acceptance. -/
def lineTakes (i : MaskInput) (x : Accepted) (s : State) : State :=
  if x.first = false ∧ i.get s.line.masks = true then lineEffect i x.level s else s

/-- R184: one live mask set; if it is enabled by this while its input is accepted active, flags and event follow. -/
def setMask (i : MaskInput) (on : Bool) (s : State) : State :=
  let s1 := { s with line := { s.line with masks := i.set s.line.masks on } }
  if i.get s.line.masks = false ∧ on = true ∧ (i.get s.line.filters.cabinet).accepted = .active then
    lineEffect i true s1
  else s1

/-- R184: the six live masks set, in input order. -/
def setMasks (m : PerMask Bool) (s : State) : State :=
  setMask .radioReady m.radioReady <| setMask .crewPresent m.crewPresent <| setMask .acPresent m.acPresent <|
    setMask .door m.door <| setMask .manualTrip m.manualTrip <| setMask .holdLever m.holdLever s

/-! ## The receivers (R182) -/

/-- R69: a pole's contacts: the position decoded from both accepted levels, at discovery and after; then the start
decision where it falls due (R190). -/
def takeContacts (p : Pole) (s : State) : State :=
  let c := s.line.filters.aux.get p
  if c.a.accepted = .notYet ∨ c.b.accepted = .notYet then s
  else
    let pos := decodePosition ⟨decide (c.a.accepted = .active), decide (c.b.accepted = .active)⟩
    decideIfDiscovered (poleEvent (takePosition p pos) s)

/-- R95: HOLD_LEVER. -/
def takeLever (x : Accepted) (s : State) : State := lineTakes .holdLever x (holdUnitTakesLever x.level s)

/-- R88, R60: MANUAL_TRIP: the Pole Drive's level, then an operator trip of all three poles at a change to active. -/
def takeManualTrip (x : Accepted) (s : State) : State :=
  let s1 := { s with poles := { s.poles with handle := .of x.level } }
  lineTakes .manualTrip x (if x.level then operatorTrip none none .full s1 else s1)

/-- R183: DOOR. -/
def takeDoor (x : Accepted) (s : State) : State := lineTakes .door x s

/-- R110: AC_PRESENT: the Battery Unit, then the Line Unit's flags and event. -/
def takeAcPresent (x : Accepted) (s : State) : State := lineTakes .acPresent x (batteryTakesAc x.level s)

/-- R144, R157: RADIO_READY: the Report Unit, then the Port Unit. -/
def takeRadioReady (x : Accepted) (s : State) : State :=
  let told := reportTakesReady x.level s
  lineTakes .radioReady x { told with port := told.port.takeReady x.level }

/-! ## The crew's detach (R173, R152) -/

/-- R173: a crew command that runs on, its result to be discarded. -/
def markDiscard (s : State) : State :=
  { s with cmd := { s.cmd with crew := { s.cmd.crew with discard := true } } }

/-- R173: a crew CLOSE at the detach: cancelled in WARNING, left to run in PULSING. -/
def detachClose (s : State) : State :=
  match s.holds.close with
  | some r =>
    if r.phase = .warning ∧ r.cmd.port = .crew then (abortWarning s).idleCtx .crew else markDiscard s
  | none => markDiscard s

/-- R173: the crew command under way at the detach, by its kind. -/
def detachCommand (s : State) : State :=
  match s.cmd.crew.executing with
  | none => s
  | some e =>
    match e.code with
    | .tableRead => s.idleCtx .crew
    | .batteryTest => (abortTest .abort s).idleCtx .crew
    | .close => detachClose s
    | .faultRead => s.idleCtx .crew
    | .holdList => s.idleCtx .crew
    | _ => markDiscard s

/-- R165, R173: the Command Unit takes an accepted change of CREW_PRESENT. -/
def commandTakesCrew (active : Bool) (s : State) : State :=
  let s1 := { s with cmd := { s.cmd with crewPresent := .of active } }
  if active then s1 else detachCommand s1

/-- R152, R161: the dropped frames reported. -/
def reportDropped : List OutFrame → State → State
  | [], s => s
  | f :: rest, s => reportDropped rest (frameEnded f.tag s)

/-- R152: the Port Unit takes an accepted change of CREW_PRESENT; at a change to inactive the line is cut off and the
list emptied, each dropped RESULT reported. -/
def portTakesCrew (active : Bool) (s : State) : State :=
  if active then { s with port := { s.port with crewPresent := .active } }
  else
    let dropped := s.port.crewLine.toList ++ s.port.crewList
    reportDropped dropped { s with port := { s.port with crewPresent := .inactive, crewLine := none, crewList := [] } }

/-- R136, R165, R152, R183: CREW_PRESENT: the Command Unit, the Port Unit, then the Report Unit's level and the event
(log 10). -/
def takeCrewPresent (x : Accepted) (s : State) : State :=
  let told := portTakesCrew x.level (commandTakesCrew x.level s)
  lineTakes .crewPresent x { told with rep := { told.rep with crewPresent := .of x.level } }

/-! ## Accepted changes handed on -/

/-- The accepted changes of one sample, or of one change row. -/
abbrev Changes := Inputs (Option Accepted)

/-- A change handed on, if there is one. -/
def onChange (take : Accepted → State → State) (x : Option Accepted) (s : State) : State :=
  match x with
  | some c => take c s
  | none => s

/-- R182: a pole's contact pair handed on as one change. -/
def onContacts (p : Pole) (c : Contacts (Option Accepted)) (s : State) : State :=
  if c.a.isSome ∨ c.b.isSome then takeContacts p s else s

/-- R182: the accepted changes of one sample handed on, each separately. The order among different inputs is the model's
choice (log 35): poles A, B and C, then lever, handle, door, AC, crew and radio. -/
def handOn (c : Changes) (s : State) : State :=
  let aux := onContacts .c c.aux.c (onContacts .b c.aux.b (onContacts .a c.aux.a s))
  let m := c.cabinet
  onChange takeRadioReady m.radioReady <| onChange takeCrewPresent m.crewPresent <|
    onChange takeAcPresent m.acPresent <| onChange takeDoor m.door <| onChange takeManualTrip m.manualTrip <|
    onChange takeLever m.holdLever aux

/-- The filters replaced. -/
def State.withFilters (s : State) (f : Inputs Filter) : State := { s with line := { s.line with filters := f } }

/-- R181: the twelve inputs sampled together. -/
def sampleLines (levels : Inputs Bool) (s : State) : State :=
  let stepped := (s.store.active.filterCounts.zip (fun count f => (count, f)) s.line.filters).zip
    (fun x reading => x.2.sample x.1 reading) levels
  handOn (stepped.map (·.2)) (s.withFilters (stepped.map (·.1)))

/-- A change row of a cabinet input: its filter accepts the level, and the change is handed on (log 9). -/
def changeCabinet (i : MaskInput) (take : Accepted → State → State) (level : Bool) (s : State) : State :=
  let r := (i.get s.line.filters.cabinet).change level
  onChange take r.2 (s.withFilters { s.line.filters with cabinet := i.set s.line.filters.cabinet r.1 })

/-- One contact of a change row; a contact that did not change stays. -/
def Filter.changeIf (f : Filter) (level : Option Bool) : Filter × Option Accepted :=
  match level with
  | some l => f.change l
  | none => (f, none)

/-- AUX_CHANGE: the pole's filters accept the levels named, handed on as one change of the pair (R69, log 9). -/
def changeContacts (p : Pole) (levels : Contacts (Option Bool)) (s : State) : State :=
  let c := s.line.filters.aux.get p
  let a := c.a.changeIf levels.a
  let b := c.b.changeIf levels.b
  let f := { s.line.filters with aux := s.line.filters.aux.set p ⟨a.1, b.1⟩ }
  onContacts p ⟨a.2, b.2⟩ (s.withFilters f)

end Sys2Proof.Machine
end

