-- ==== Sys2Proof/Machine/BankOps.lean ====
section
/-! DEFINITION. What a new active bank does in each block (R20), and the exchange (R18, R19). -/

namespace Sys2Proof.Machine

/-- R20: the Report Unit takes a new bank: the budget lowered to a lower ceiling, the periodic timer restarted or
stopped if its period changed, and a selection pass (R138). -/
def reportTakesBank (old : Bank) (s : State) : State :=
  s.onlyReport <|
    let b := s.store.active
    let periodic :=
      if old.periodicPeriod = b.periodicPeriod then s.rep.periodicTimer else periodTimer s.now b.periodicPeriod
    selectionIfOpen
      { s with rep := { s.rep with budget := min s.rep.budget b.budgetCeiling, periodicTimer := periodic } }

/-- R20, R113: the coulomb count rescaled to the same state of charge when the capacity changed, ESTIMATED set. -/
def Battery.rescale (old new : Bank) (b : Battery) : Battery :=
  if old.capacity = new.capacity then b
  else { b with coulomb := b.coulomb * new.fullCount / old.fullCount, estimated := true }

/-- R20, R116: the next test due time set anew when the interval changed. -/
def Battery.reschedule (old new : Bank) (now : Nat) (b : Battery) : Battery :=
  if old.testInterval = new.testInterval then b else { b with nextDue := dueAfter new now }

/-- R20: a new active bank takes effect; the bank before it is given. -/
def takeBank (old : Bank) (s : State) : State :=
  let told := reportTakesBank old s
  { told with batt := (told.batt.rescale old s.store.active).reschedule old s.store.active s.now }

/-- R18: the conditions that refuse an exchange, in order, each with its answer. -/
def swapConditions (port : PortId) (s : State) : List (Bool × Reason) :=
  [(s.store.ownedByOther port, .shadowOwned),
   (decide (s.seq.state ≠ .reset ∧ s.seq.state ≠ .lockout), .sequenceActive),
   (s.poles.pole.toList.any (fun r => !r.atRest), .poleBusy),
   (s.holds.close.isSome, .closeInProgress),
   (!allIdle s.prot.elements, .elementActive),
   (s.batt.test.isSome, .testActive),
   (decide (s.store.inFlight.map ImageWrite.image = some .settings ∨ ImageId.settings ∈ s.store.waiting), .storeBusy)]

/-- R18: the answer that refuses a BANK_SWAP; none when the exchange is carried out. -/
def swapBar (port : PortId) (s : State) : Option Answer :=
  match (swapConditions port s).find? (·.1) with
  | some c => some (.refused c.2)
  | none =>
    match validate s.store.shadow with
    | some (t, r, f) => some (.refused .shadowInvalid (u8 t ++ u8 r ++ u8 f))
    | none => none

/-- R19 steps 1 and 2: the banks exchange and ownership is released. -/
def SettingStore.exchange (st : SettingStore) : SettingStore :=
  { st.release with active := st.shadow, shadow := st.active }

/-- R19: the exchange carried out; the command waits for the settings-image write. -/
def swapBanks (r : CmdRef) (s : State) : State :=
  let adopted := takeBank s.store.active { s with store := s.store.exchange }
  let masked := setMasks adopted.store.active.lineMasks adopted
  let waiting := { masked with store := { masked.store with swapWaiter := some r } }
  raise .bankSwapped [PortId.code r.port] (requestWrite .settings waiting)

end Sys2Proof.Machine
end

