-- ==== Sys2Proof/Machine/StartOps.lean ====
section
/-! DEFINITION. Power-on (R187, R188), the loss of power (R21), and the warm restart (R191, R192). -/

namespace Sys2Proof.Machine

/-- R187 steps 1 to 4: every block at its power-on state, with what depends on the bank set from the restored bank.
The nonvolatile store, the queue of commands and the model's counter are what a supply does not clear. -/
def coldState (s : State) (powered : Bool) : State :=
  let b := (restoredBank s.store.nv).1
  { powered := powered
    time := .initial
    store := .initial b s.store.nv
    prot := .initial
    seq := .start
    poles := .initial
    holds := .initial
    batt := .initial b.fullCount (dueAfter b 0)
    rep := .initial b.budgetCeiling (periodTimer 0 b.periodicPeriod)
    port := .initial
    cmd := .initial
    line := .initial b.lineMasks
    paced := .fresh
    freeCount := s.freeCount
    pending := s.pending }

/-- R97: the STORE hold. -/
def storeHold : Hold := { origin := .store, tag := 0, scope := .full, profile := true, setTag := 0 }

/-- R97: the hold table restored, or the STORE hold placed in slot 1. -/
def restoreHolds (s : State) : State :=
  match s.store.nv.hold with
  | some slots => { s with holds := { s.holds with slots := slots } }
  | none =>
    requestWrite .hold
      (raise .storeHold (u8 1 ++ [PoleMask.byte storeHold.scope]) (s.withSlot 1 (some storeHold))).askAlarm

/-- R11, R23: DEFAULTS_IN_USE raised if the default bank was loaded. -/
def raiseDefaults (o : Occasion) (f : Option RestoreFailure) (s : State) : State :=
  match f with
  | some f => raise .defaultsInUse (defaultsBody o f) s
  | none => s

/-- R188: START's body: settings source (IMAGE 0, DEFAULTS 1), hold source (IMAGE 0, STORE_HOLD 1). -/
def startBody (nv : Nonvolatile) : List Byte :=
  [Bool.byte (restoredBank nv).2.isSome, Bool.byte nv.hold.isNone]

/-- R187: the power-on. -/
def powerUp (s : State) : State :=
  let nv := s.store.nv
  raise .start (startBody nv) (restoreHolds (raiseDefaults .powerOn (restoredBank nv).2 (coldState s true)))

/-- R21: the loss of power: a write in flight leaves its image failing, as it has since it started; the other image and
those only pending keep their contents, also a hold image that a command waits for (R21 against R94: the model's choice,
log 47); all else is lost (log 7). -/
def powerDown (s : State) : State := coldState s false

/-! ## The warm restart -/

/-- R191: the conditions that refuse a RESTART, in order. -/
def restartConditions (s : State) : List (Bool × Reason) :=
  [(s.poles.pole.toList.any (fun r => !r.atRest), .poleBusy),
   (s.holds.close.isSome, .closeInProgress),
   (decide (s.seq.state = .tripping ∨ s.seq.state = .closing), .sequenceActive),
   (s.batt.test.isSome, .testActive)]

/-- R191: the reason that refuses a RESTART. -/
def restartBar (s : State) : Option Reason := ((restartConditions s).find? (·.1)).map (·.2)

/-- R23: whether a settings-image write is in flight or pending. -/
def SettingStore.writingSettings (st : SettingStore) : Bool :=
  decide (st.inFlight.map ImageWrite.image = some .settings) || st.waiting.contains .settings

/-- R23, R192 step 2: the bank a warm restart leaves active, and why if it is the default bank. -/
def SettingStore.reloaded (st : SettingStore) : Bank × Option RestoreFailure :=
  if st.writingSettings then (st.active, none) else restoredBank st.nv

/-- R23: the reloaded bank in both places, ownership released. -/
def SettingStore.reload (st : SettingStore) : SettingStore :=
  { st.release with active := st.reloaded.1, shadow := st.reloaded.1 }

/-- R45, R192 step 6: the sequence at a warm restart. -/
def sequenceRestarts (s : State) : State :=
  let q := s.seq
  if allClosed s then s.withSeq (q.closeRecord .reclosedOk none).toReset
  else
    let closed := q.closeRecord .lockout (some .start)
    let was := decide (q.state = .lockout)
    let q' := { closed with state := .lockout, cause := .start, shot := 1, deadTimer := none, reclaimTimer := none,
                            afterClose := false, ctx := closed.ctx.emptied, initial := was && q.initial,
                            lamp := !was || q.lamp }
    if was then s.withSeq q' else raise .lockout (lockoutBody .start q.recordNumber) (s.withSeq q')

/-- R192 step 7, R149: the seven counts cleared. -/
def PortUnit.clearCounts (p : PortUnit) : PortUnit :=
  { p with accepted := ⟨0, 0, 0⟩, discarded := ⟨0, 0, 0⟩, gaps := 0 }

/-- R175, R192 step 1: RESTART's own result, then both contexts IDLE. -/
def contextsRestart (r : CmdRef) (s : State) : State := ((complete r .done s).idleCtx .radio).idleCtx .crew

/-- R192 steps 2 and 3: the bank reloaded and its differences taken. -/
def bankRestarts (s : State) : State :=
  let f := s.store.reloaded.2
  takeBank s.store.active (raiseDefaults .warmRestart f { s with store := s.store.reload })

/-- R192: the warm restart. -/
def warmRestart (r : CmdRef) (s : State) : State :=
  let reloaded := bankRestarts (contextsRestart r s)
  let masked := setMasks reloaded.store.active.lineMasks reloaded
  let cleared := { masked with prot := masked.prot.clearElements }
  let sequenced := sequenceRestarts cleared
  { sequenced with port := sequenced.port.clearCounts }

end Sys2Proof.Machine
end

