-- ==== Sys2Proof/Machine/Changes.lean ====
section
/-! DEFINITION. What reaches the part from the cabinet: the change rows, LINE_SAMPLE, CABINET_READING. -/

namespace Sys2Proof.Machine

/-- AUX_CHANGE (R69). -/
def execAuxChange (pole : Pole) (levels : Contacts (Option Bool)) (s : State) : Host.Outcome State Fault Refusal :=
  run s (changeContacts pole levels)

/-- HOLD_LEVER_CHANGE (R95). -/
def execHoldLeverChange (level : Bool) (s : State) : Host.Outcome State Fault Refusal :=
  run s (changeCabinet .holdLever takeLever level)

/-- MANUAL_TRIP_CHANGE (R88). -/
def execManualTripChange (level : Bool) (s : State) : Host.Outcome State Fault Refusal :=
  run s (changeCabinet .manualTrip takeManualTrip level)

/-- DOOR_OPEN (R183). -/
def execDoorOpen (s : State) : Host.Outcome State Fault Refusal := run s (changeCabinet .door takeDoor true)

/-- AC_PRESENT_CHANGE (R110). -/
def execAcPresentChange (level : Bool) (s : State) : Host.Outcome State Fault Refusal :=
  run s (changeCabinet .acPresent takeAcPresent level)

/-- CREW_PRESENT_CHANGE (R173). -/
def execCrewPresentChange (level : Bool) (s : State) : Host.Outcome State Fault Refusal :=
  run s (changeCabinet .crewPresent takeCrewPresent level)

/-- RADIO_READY_CHANGE (R144). -/
def execRadioReadyChange (level : Bool) (s : State) : Host.Outcome State Fault Refusal :=
  run s (changeCabinet .radioReady takeRadioReady level)

/-- R179: a line sample falls due: at each base count that is a multiple of 2, one (log 5). -/
def State.sampleDue (s : State) : Bool := decide (s.now % 2 = 0) && !s.paced.sampled

/-- R179: a cabinet reading falls due: at each non-zero base count that is a multiple of 100, one (log 5). -/
def State.readingDue (s : State) : Bool := decide (s.now % 100 = 0) && decide (s.now ≠ 0) && !s.paced.read

/-- LINE_SAMPLE (R181), where a sample falls due (R179). -/
def execLineSample (levels : Inputs Bool) (s : State) : Host.Outcome State Fault Refusal :=
  run s fun s =>
    if s.sampleDue then sampleLines levels { s with paced := { s.paced with sampled := true } } else s

/-- SUPPLY_LEVEL's body (R129): old level, new level, voltage. -/
def supplyLevelBody (old new : SupplyLevel) (voltage : Nat) : List Byte :=
  [SupplyLevel.code old, SupplyLevel.code new] ++ u16 voltage

/-- R115: a change of supply level: the notices, SUPPLY_LEVEL, and the shutdown procedure. -/
def levelChanges (new : SupplyLevel) (s : State) : State :=
  let old := s.batt.level
  let told := selectionIfOpen (sequenceTakesLevel { s with batt := { s.batt with level := new } })
  let raised := raise .supplyLevel (supplyLevelBody old new s.batt.voltage) told
  if new = .shutdownPending then beginShutdown raised else raised

/-- R108 step 5, R114: the supply level judged on the latest reading. -/
def levelStep (s : State) : State :=
  let new := judgedLevel s.store.active s.batt.level s.batt.voltage
  if new = s.batt.level then s else levelChanges new s

/-- R108: a cabinet reading taken: the Battery Unit's five steps, the last skipped for a reading under the test load;
then the Pole Drive's part (R81). -/
def readingTaken (voltage current : Int) (store : Half) (temperature : Int) (s : State) : State :=
  let read := batteryTakesReading voltage current temperature s
  poleTakesReading store.toNat (if s.batt.test.isSome then read else levelStep read)

/-- CABINET_READING (R108), where a reading falls due (R179). -/
def execCabinetReading (voltage current : Int) (store : Half) (temperature : Int) (s : State) :
    Host.Outcome State Fault Refusal :=
  run s fun s =>
    if s.readingDue then
      readingTaken voltage current store temperature { s with paced := { s.paced with read := true } }
    else s

end Sys2Proof.Machine
end

