-- ==== Sys2Proof/Machine/LineCommands.lean ====
section
/-! DEFINITION. TRIP, CLOSE, ABORT, the hold commands, FLAGS, FAULT_READ, EXCEPTION_READ, BATTERY_READ, BATTERY_TEST,
MECH_RESET, TIME_SET, INPUT_MASK. -/

namespace Sys2Proof.Machine

/-- R60: TRIP taken. -/
def tripTaken (mask : Byte) (r : CmdRef) (s : State) : State :=
  match poleMaskArg mask with
  | some m => operatorTrip (some r) (some r.port) m s
  | none => complete r .badArgument s

/-- TRIP. -/
def execTrip (port : PortId) (number : Half) (mask : Byte) (s : State) : Host.Outcome State Fault Refusal :=
  run s (command port number .trip (tripTaken mask))

/-- R100: CLOSE taken. -/
def closeCommandTaken (number : Half) (mask : Byte) (r : CmdRef) (s : State) : State :=
  match poleMaskArg mask with
  | some m =>
    match closeBar m s with
    | some reason => complete r (.refused reason) s
    | none => closeTaken r number m s
  | none => complete r .badArgument s

/-- CLOSE. -/
def execClose (port : PortId) (number : Half) (mask : Byte) (s : State) : Host.Outcome State Fault Refusal :=
  run s (command port number .close (closeCommandTaken number mask))

/-- R171: what an abort request makes of the executing command: its ABORTED answer's data and the state, or none
where its owner refuses the request. -/
def abortRequest (e : Executing) (s : State) : Option (State × List Byte) :=
  match e.code with
  | .tableRead => some (s, [])
  | .batteryTest =>
    let ended := abortTest .abort s
    some (ended, (ended.batt.lastTest.map testRecordBytes).getD [])
  | .close =>
    match s.holds.close with
    | some r => if r.phase = .warning then some (abortWarning s, []) else none
    | none => none
  | _ => none

/-- R171: ABORT taken by its port's context, whatever its state. -/
def abortTaken (port : PortId) (number : Half) (s : State) : State :=
  match (s.cmd.ctx port).executing with
  | none => answerAlone port number (CommandCode.code .abort) .done s
  | some e =>
    match abortRequest e s with
    | some (ended, data) =>
      answerAlone port number (CommandCode.code .abort) .done
        (complete { port := port, serial := e.serial } (.aborted data) ended)
    | none => answerAlone port number (CommandCode.code .abort) (.refused .notAbortable) s

/-- ABORT. -/
def execAbort (port : PortId) (number : Half) (s : State) : Host.Outcome State Fault Refusal :=
  run s (arrive port.run 1 (abortTaken port number))

/-- R91: the hold a HOLD_SET places: in the slot of the hold it replaces, with that hold's set time tag, or in the
first empty slot; none when the table is full. -/
def holdPlace (h : HoldUnit) (o : HoldOrigin) (tag : Half) (now : Word) : Option (Nat × Word) :=
  match h.find o tag with
  | some slot => some (slot, ((h.slot slot).map Hold.setTag).getD now)
  | none => h.firstEmpty.map fun slot => (slot, now)

/-- R91, R94: HOLD_SET taken. -/
def holdSetTaken (tag : Half) (scope profile : Byte) (r : CmdRef) (s : State) : State :=
  match poleMaskArg scope, profileArg profile with
  | some m, some p =>
    if tag = 0 then complete r .badArgument s
    else
      match holdPlace s.holds (PortId.holdOrigin r.port) tag s.time.timeTag with
      | some (slot, set) =>
        placeHold (some r) slot
          { origin := PortId.holdOrigin r.port, tag := tag, scope := m, profile := p, setTag := set } s
      | none => complete r (.refused .tableFull) s
  | _, _ => complete r .badArgument s

/-- HOLD_SET. -/
def execHoldSet (port : PortId) (number tag : Half) (scope profile : Byte) (s : State) :
    Host.Outcome State Fault Refusal :=
  run s (command port number .holdSet (holdSetTaken tag scope profile))

/-- R92: the slot of the hold a port may remove under a tag. -/
def removable (h : HoldUnit) (port : PortId) (tag : Half) : Option Nat :=
  match port with
  | .radio => h.find .radio tag
  | .crew => if tag = 0 then h.find .store 0 else h.find .crew tag

/-- R92, R94: HOLD_CLEAR taken. -/
def holdClearTaken (tag : Half) (r : CmdRef) (s : State) : State :=
  match (removable s.holds r.port tag).bind fun slot => (s.holds.slot slot).map fun h => (slot, h) with
  | some (slot, h) => removeHold (some r) slot h s
  | none => complete r (.refused .notHolder) s

/-- HOLD_CLEAR. -/
def execHoldClear (port : PortId) (number tag : Half) (s : State) : Host.Outcome State Fault Refusal :=
  run s (command port number .holdClear (holdClearTaken tag))

/-- R98: HOLD_LIST taken. -/
def holdListTaken (r : CmdRef) (s : State) : State :=
  (completeFrames r (holdListFrames s.freeCount s.now s.holds) s).spend 3

/-- HOLD_LIST. -/
def execHoldList (port : PortId) (number : Half) (s : State) : Host.Outcome State Fault Refusal :=
  run s (command port number .holdList holdListTaken)

/-- R54: FLAGS taken. -/
def flagsTaken (actions : PerFlag Byte) (r : CmdRef) (s : State) : State :=
  match flagActionsArg actions with
  | some a =>
    let f := s.seq.userFlags.zip FlagAction.apply a
    complete r (.done [userFlagByte f]) (s.withSeq { s.seq with userFlags := f })
  | none => complete r .badArgument s

/-- FLAGS. -/
def execFlags (port : PortId) (number : Half) (actions : PerFlag Byte) (s : State) :
    Host.Outcome State Fault Refusal :=
  run s (command port number .flags (flagsTaken actions))

/-- R67: the records a FAULT_READ chooses, oldest first; none for a bad argument. -/
def chosenRecords (faults : List FaultRecord) (mode : Byte) (value : Half) : Option (List FaultRecord) :=
  match mode.toNat with
  | 0 => if value = 0 then none else some (faults.filter fun r => r.number = value)
  | 1 => if value = 0 ∨ 8 < value.toNat then none else some (faults.drop (faults.length - value.toNat))
  | _ => none

/-- R67: one record a frame; a single frame with no record where none was chosen. -/
def recordFrames (l : List FaultRecord) : List (List Byte) := if l.isEmpty then [[]] else l.map faultRecordBytes

/-- R67: FAULT_READ taken. -/
def faultReadTaken (mode : Byte) (value : Half) (r : CmdRef) (s : State) : State :=
  match chosenRecords s.seq.faults mode value with
  | some l => completeFrames r (recordFrames l) s
  | none => complete r .badArgument s

/-- FAULT_READ. -/
def execFaultRead (port : PortId) (number : Half) (mode : Byte) (value : Half) (s : State) :
    Host.Outcome State Fault Refusal :=
  run s (command port number .faultRead (faultReadTaken mode value))

/-- R44: EXCEPTION_READ taken. -/
def exceptionReadTaken (r : CmdRef) (s : State) : State := complete r (.done (exceptionData s.prot)) s

/-- EXCEPTION_READ. -/
def execExceptionRead (port : PortId) (number : Half) (s : State) : Host.Outcome State Fault Refusal :=
  run s (command port number .exceptionRead exceptionReadTaken)

/-- R123: BATTERY_READ taken. -/
def batteryReadTaken (r : CmdRef) (s : State) : State := (completeTwo r (batteryFirst s) (batterySecond s) s).spend 17

/-- BATTERY_READ. -/
def execBatteryRead (port : PortId) (number : Half) (s : State) : Host.Outcome State Fault Refusal :=
  run s (command port number .batteryRead batteryReadTaken)

/-- R122: BATTERY_TEST taken. -/
def batteryTestTaken (number : Half) (r : CmdRef) (s : State) : State :=
  if s.batt.test.isSome then complete r (.refused .testActive) s
  else
    match testBar s with
    | some n => complete r (.refused .testNotAllowed (u8 n)) s
    | none => startTest (.command r number) s

/-- BATTERY_TEST. -/
def execBatteryTest (port : PortId) (number : Half) (s : State) : Host.Outcome State Fault Refusal :=
  run s (command port number .batteryTest (batteryTestTaken number))

/-- R80: a pole carrying out a trip while its failed mark is set. -/
def PoleRecord.failedTrip (r : PoleRecord) : Bool :=
  r.failed && (decide (r.mech = .tripPulse) || decide (r.mech = .tripWait) || decide (r.mech = .tripRetry))

/-- R80: a pole in FAILED cleared and returned to IDLE. -/
def PoleRecord.clearFailed (r : PoleRecord) : PoleRecord :=
  if r.mech = .failed then { r with failed := false, mech := .idle } else r

/-- R80: MECH_RESET taken. -/
def mechResetTaken (r : CmdRef) (s : State) : State :=
  if s.poles.pole.toList.any PoleRecord.failedTrip then complete r (.refused .poleBusy) s
  else complete r .done { s with poles := { s.poles with pole := s.poles.pole.map PoleRecord.clearFailed } }

/-- MECH_RESET. -/
def execMechReset (port : PortId) (number : Half) (s : State) : Host.Outcome State Fault Refusal :=
  run s (command port number .mechReset mechResetTaken)

/-- R180: TIME_SET taken. -/
def timeSetTaken (tag : Word) (r : CmdRef) (s : State) : State :=
  let previous := s.time.timeTag
  complete r .done
    (raise .timeSet (be32 previous ++ be32 tag) { s with time := { s.time with timeTag := tag, timeSet := true } })

/-- TIME_SET. -/
def execTimeSet (port : PortId) (number : Half) (tag : Word) (s : State) : Host.Outcome State Fault Refusal :=
  run s (command port number .timeSet (timeSetTaken tag))

/-- R184: INPUT_MASK taken. -/
def inputMaskTaken (actions : PerMask Byte) (r : CmdRef) (s : State) : State :=
  match maskActionsArg actions with
  | some a => complete r .done (setMasks (s.line.masks.zip MaskAction.apply a) s)
  | none => complete r .badArgument s

/-- INPUT_MASK. -/
def execInputMask (port : PortId) (number : Half) (actions : PerMask Byte) (s : State) :
    Host.Outcome State Fault Refusal :=
  run s (command port number .inputMask (inputMaskTaken actions))

end Sys2Proof.Machine
end

