-- ==== Sys2Proof/Machine/Measure.lean ====
section
/-! DEFINITION. MEASURE, RELAY, RELAY_REPLY, REPORT_ACK. -/

namespace Sys2Proof.Machine

/-! ## MEASURE (R24 to R43) -/

/-- R27, R28: an accepted frame starts the link timer afresh, and restores a lost link. -/
def restoreLink (number : Half) (s : State) : State :=
  let timer : Timer := some (s.now + s.store.active.linkTimeout)
  let up := { s with prot := { s.prot with linkUp := true, linkTimer := timer } }
  if s.prot.linkUp then up else raise .linkRestored (be16 number) up

/-- R26: the gap counted and the number kept. -/
def keepNumber (number : Half) (s : State) : State :=
  let gaps := if isGap s.prot.keptNumber number then satInc s.port.gaps else s.port.gaps
  { s with port := { s.port with gaps := gaps }, prot := { s.prot with keptNumber := some number } }

/-- R37, R38: what a frame in which elements left IDLE hands on: the pickup notice, then PICKUP if it opened the
episode. -/
def handPickup (number : Half) (r : FrameResult) (s : State) : State :=
  if r.left.toList.any id then
    let told := abortTest .element s
    if r.opened then raise .pickup (pickupBody r.left number r.amounts) told else told
  else s

/-- R43: SAMPLE_EXCEPTION at the frame in which LATEST rises. -/
def handException (r : FrameResult) (s : State) : State :=
  match r.prot.exception with
  | some e => if r.exceptionRose then raise .sampleException (exceptionBody e) s else s
  | none => s

/-- R39: the operation signal, if any element became OPERATED. -/
def handSignal (r : FrameResult) (s : State) : State :=
  if r.operated.isEmpty then s else operationSignal r.operated s

/-- R31: the frame taken by the elements, under the shot counter and hold profile as they stand (R32). -/
def frameOf (number : Half) (currents : PerChannel Sample) (voltages : PerPole Sample) (s : State) : FrameResult :=
  s.prot.frame s.store.active s.seq.shot s.holds.profileInForce s.now s.time.timeTag number currents voltages

/-- An accepted MEASURE frame taken: link, gap, elements, then what it hands on (log 15). -/
def measureTaken (number : Half) (currents : PerChannel Sample) (voltages : PerPole Sample) (s : State) : State :=
  let linked := keepNumber number (restoreLink number s)
  let r := frameOf number currents voltages linked
  handSignal r (handException r (handPickup number r { linked with prot := r.prot }))

/-- MEASURE. -/
def execMeasure (number : Half) (currents : PerChannel Sample) (voltages : PerPole Sample) (s : State) :
    Host.Outcome State Fault Refusal :=
  run s (arrive .tank 16 (measureTaken number currents voltages))

/-! ## Relay (R153 to R156) -/

/-- R153: the answer to a RELAY that is not admitted, with command code 0. -/
def relayAnswer (port : PortId) (number : Half) (a : Answer) (s : State) : State := answerAlone port number 0 a s

/-- R154 step 4: the frame admitted to the tank transmit queue. -/
def relayFrame (port : PortId) (number : Half) (payload : List Byte) : Frame :=
  { destination := .tankHead, kind := .relay, number := number, flags := { FrameFlags.none with origin := port },
    payload := payload }

/-- R154 step 4, R155. -/
def admitRelay (f : Frame) (s : State) : State :=
  { s with port := { s.port with tankQueue := s.port.tankQueue ++ [f] }.tankBegin }

/-- R154: a RELAY taken. -/
def relayTaken (port : PortId) (number : Half) (payload : List Byte) (s : State) : State :=
  match payload with
  | [] => relayAnswer port number .badArgument s
  | service :: _ =>
    if 15 < service.toNat then relayAnswer port number .badArgument s
    else if s.store.active.relayAllowed port service.toNat = false then
      relayAnswer port number (.plain .notPermitted) s
    else if 4 ≤ s.port.tankQueue.length then relayAnswer port number (.refused .relayFull) s
    else admitRelay (relayFrame port number payload) s

/-- RELAY. -/
def execRelay (port : PortId) (number : Half) (payload : List Byte) (s : State) :
    Host.Outcome State Fault Refusal :=
  run s (arrive port.run payload.length (relayTaken port number payload))

/-- R156: the port a reply names; none for a malformed reply (R150). -/
def returnPort (payload : List Byte) : Option PortId :=
  match payload with
  | [] => none
  | b :: _ =>
    match b.toNat with
    | 0 => some .radio
    | 1 => some .crew
    | _ => none

/-- R156, R162: the forwarded frame. -/
def replyFrame (port : PortId) (number : Half) (payload : List Byte) : Frame :=
  { destination := PortId.destination port, kind := .relayReply, number := number, flags := FrameFlags.none,
    payload := payload }

/-- R156: a RELAY_REPLY forwarded. -/
def replyTaken (port : PortId) (number : Half) (payload : List Byte) (s : State) : State :=
  { s with port := (s.port.hand port { frame := replyFrame port number payload, tag := .reply }).1 }

/-- RELAY_REPLY; a malformed one is a discarded run (R150). -/
def execRelayReply (number : Half) (payload : List Byte) (s : State) : Host.Outcome State Fault Refusal :=
  run s fun s =>
    match returnPort payload with
    | some port => arrive .tank payload.length (replyTaken port number payload) s
    | none => s.countDiscarded .tank

/-! ## REPORT_ACK (R143) -/

/-- REPORT_ACK. -/
def execReportAck (number : Half) (s : State) : Host.Outcome State Fault Refusal :=
  run s (arrive .radio 0 (reportAcked number))

end Sys2Proof.Machine
end

