-- ==== Sys2Proof/Machine/SettingCommands.lean ====
section
/-! DEFINITION. STATUS, EVENTS_READ and the table and bank commands (R14 to R19, R176, R178). -/

namespace Sys2Proof.Machine

/-- R176: STATUS. -/
def statusTaken (r : CmdRef) (s : State) : State := completeTwo r (statusFirst s) (statusSecond s) s

/-- STATUS. -/
def execStatus (port : PortId) (number : Half) (s : State) : Host.Outcome State Fault Refusal :=
  run s (command port number .status statusTaken)

/-- R178: EVENTS_READ: the port's set as read, and cleared. -/
def eventsReadTaken (r : CmdRef) (s : State) : State :=
  complete r (.done [eventFlagByte (s.line.flags r.port)]) { s with line := s.line.clearFlags r.port }

/-- EVENTS_READ. -/
def execEventsRead (port : PortId) (number : Half) (s : State) : Host.Outcome State Fault Refusal :=
  run s (command port number .eventsRead eventsReadTaken)

/-- R14 step 3: the pairs written in the order carried. -/
def writePairs (b : Bank) (table record : Nat) (pairs : List FieldPair) : Bank :=
  pairs.foldl (fun b p => b.set table record p.field.toNat p.value) b

/-- R14: TABLE_LOAD taken. -/
def tableLoadTaken (table record : Byte) (pairs : List FieldPair) (r : CmdRef) (s : State) : State :=
  if s.store.ownedByOther r.port then complete r (.refused .shadowOwned) s
  else if pairs.all (fun p => fieldExists table.toNat record.toNat p.field.toNat) then
    let shadow := writePairs s.store.shadow table.toNat record.toNat pairs
    complete r .done { s with store := { s.store.claim r.port s.now with shadow := shadow } }
  else complete r .badArgument { s with store := s.store.touch r.port s.now }

/-- TABLE_LOAD; one with no pair is a bad command by its length (R166), one with more than 9 is no frame (R150). -/
def execTableLoad (port : PortId) (number : Half) (table record : Byte) (pairs : List FieldPair) (s : State) :
    Host.Outcome State Fault Refusal :=
  run s <| arrive port.run (3 + 5 * pairs.length) <|
    if pairs.isEmpty then answerAlone port number (CommandCode.code .tableLoad) (.plain .badCommand)
    else dispatch port number .tableLoad (tableLoadTaken table record pairs)

/-- R15: the fields of a TABLE_READ exist, and the first is not above the last. -/
def readArguments (bank table record first last : Byte) : Bool :=
  decide (bank.toNat ≤ 1) && fieldExists table.toNat record.toNat first.toNat &&
    fieldExists table.toNat record.toNat last.toNat && decide (first.toNat ≤ last.toNat)

/-- R15: the copy of the named fields. -/
def readPairs (b : Bank) (table record first last : Nat) : List FieldPair :=
  (List.range' first (last + 1 - first)).map fun f => { field := BitVec.ofNat 8 f, value := b.field table record f }

/-- R15: the frames of a TABLE_READ's answer, up to 8 pairs each. -/
def readFrames (st : SettingStore) (bank table record first last : Byte) : List (List Byte) :=
  let b := if bank.toNat = 0 then st.active else st.shadow
  (groups 7 6 (readPairs b table.toNat record.toNat first.toNat last.toNat)).map (tableReadFrame bank table record)

/-- R15, R13: TABLE_READ taken. -/
def tableReadTaken (bank table record first last : Byte) (r : CmdRef) (s : State) : State :=
  let touched := if bank.toNat = 1 then { s with store := s.store.touch r.port s.now } else s
  if readArguments bank table record first last then
    completeFrames r (readFrames s.store bank table record first last) touched
  else complete r .badArgument touched

/-- TABLE_READ. -/
def execTableRead (port : PortId) (number : Half) (bank table record first last : Byte) (s : State) :
    Host.Outcome State Fault Refusal :=
  run s (command port number .tableRead (tableReadTaken bank table record first last))

/-- R16: BANK_COPY taken. -/
def bankCopyTaken (r : CmdRef) (s : State) : State :=
  if s.store.ownedByOther r.port then complete r (.refused .shadowOwned) s
  else complete r .done { s with store := { s.store.claim r.port s.now with shadow := s.store.active } }

/-- BANK_COPY. -/
def execBankCopy (port : PortId) (number : Half) (s : State) : Host.Outcome State Fault Refusal :=
  run s (command port number .bankCopy bankCopyTaken)

/-- R18, R19: BANK_SWAP taken; a refusal restarts the owner's timer (R13). -/
def bankSwapTaken (r : CmdRef) (s : State) : State :=
  match swapBar r.port s with
  | some a => complete r a { s with store := s.store.touch r.port s.now }
  | none => swapBanks r s

/-- BANK_SWAP. -/
def execBankSwap (port : PortId) (number : Half) (s : State) : Host.Outcome State Fault Refusal :=
  run s (command port number .bankSwap bankSwapTaken)

/-- R17: BANK_RELEASE taken. -/
def bankReleaseTaken (r : CmdRef) (s : State) : State :=
  if s.store.ownedByOther r.port then complete r (.refused .shadowOwned) s
  else complete r .done { s with store := s.store.release }

/-- BANK_RELEASE. -/
def execBankRelease (port : PortId) (number : Half) (s : State) : Host.Outcome State Fault Refusal :=
  run s (command port number .bankRelease bankReleaseTaken)

end Sys2Proof.Machine
end

