-- ==== Sys2Proof/Machine/Supply.lean ====
section
/-! DEFINITION. POWER_ON, POWER_LOSS, RESTART. -/

namespace Sys2Proof.Machine

/-- POWER_ON (R187). On a part whose supply is applied already, the supply was lost and applied again (log 7). -/
def execPowerOn (s : State) : Host.Outcome State Fault Refusal := .next (powerUp s)

/-- POWER_LOSS (R21). -/
def execPowerLoss (s : State) : Host.Outcome State Fault Refusal := run s powerDown

/-- R191, R192: RESTART taken by its context. -/
def restartTaken (r : CmdRef) (s : State) : State :=
  match restartBar s with
  | some reason => complete r (.refused reason) s
  | none => warmRestart r s

/-- RESTART. -/
def execRestart (port : PortId) (number : Half) (s : State) : Host.Outcome State Fault Refusal :=
  run s (command port number .restart restartTaken)

end Sys2Proof.Machine
end

