-- ==== Sys2Proof/Machine/Inbound.lean ====
section
/-! DEFINITION. BAD_COMMAND and RUN_DISCARDED: what arrives and spells no command, or is no frame (R150, R166). A
payload or run of good form stands for the command it spells (log 8). -/

namespace Sys2Proof.Machine

/-- The command of a COMMAND frame of good form; for anything else, `other`. -/
def inboundCommand (i : Instr) (other : Host.Outcome State Fault Refusal) (s : State) :
    Host.Outcome State Fault Refusal :=
  match i with
  | .status p n => execStatus p n s
  | .eventsRead p n => execEventsRead p n s
  | .tableLoad p n t r pairs => execTableLoad p n t r pairs s
  | .tableRead p n b t r f l => execTableRead p n b t r f l s
  | .bankCopy p n => execBankCopy p n s
  | .bankSwap p n => execBankSwap p n s
  | .bankRelease p n => execBankRelease p n s
  | .trip p n m => execTrip p n m s
  | .close p n m => execClose p n m s
  | .abort p n => execAbort p n s
  | .holdSet p n t sc f => execHoldSet p n t sc f s
  | .holdClear p n t => execHoldClear p n t s
  | .holdList p n => execHoldList p n s
  | .flags p n a => execFlags p n a s
  | .faultRead p n m v => execFaultRead p n m v s
  | .exceptionRead p n => execExceptionRead p n s
  | .batteryRead p n => execBatteryRead p n s
  | .batteryTest p n => execBatteryTest p n s
  | .mechReset p n => execMechReset p n s
  | .timeSet p n t => execTimeSet p n t s
  | .inputMask p n a => execInputMask p n a s
  | .restart p n => execRestart p n s
  | _ => other

/-- R166: the command code a BAD_COMMAND answer carries: the first payload byte, or 0. -/
def receivedCode (payload : List Byte) : Byte := payload.headD 0

/-- R166: the BAD_COMMAND answer. -/
def badCommandTaken (port : PortId) (number : Half) (payload : List Byte) (s : State) : State :=
  answerAlone port number (receivedCode payload) (.plain .badCommand) s

/-- BAD_COMMAND. -/
def execBadCommand (port : PortId) (number : Half) (payload : List Byte) (s : State) :
    Host.Outcome State Fault Refusal :=
  let bad := run s (arrive port.run payload.length (badCommandTaken port number payload))
  match parseCommand port number payload with
  | some i => inboundCommand i bad s
  | none => bad

/-- RUN_DISCARDED (R150): the run is judged whole; discarded, it is counted and no block sees it. -/
def execRunDiscarded (port : RunPort) (bytes : List Byte) (s : State) : Host.Outcome State Fault Refusal :=
  let discarded := run s (State.countDiscarded · port)
  match decodeRun port bytes with
  | none => discarded
  | some (.measure n cur vol) => execMeasure n cur vol s
  | some (.relayReply n payload) => execRelayReply n payload s
  | some (.relay p n payload) => execRelay p n payload s
  | some (.reportAck n) => execReportAck n s
  | some (.badCommand p n payload) => execBadCommand p n payload s
  | some i => inboundCommand i discarded s

end Sys2Proof.Machine
end

