-- ==== Sys2Proof/Machine/Timers.lean ====
section
/-! DEFINITION. The expiries of the part's own timers and instants. Each is taken when its timer is due (log 4). -/

namespace Sys2Proof.Machine

/-- DEAD_TIMER_EXPIRY (R57). -/
def execDeadTimerExpiry (s : State) : Host.Outcome State Fault Refusal :=
  run s (onExpiry (·.seq.deadTimer) deadTimeEnds)

/-- RECLAIM_TIMER_EXPIRY (R59). -/
def execReclaimTimerExpiry (s : State) : Host.Outcome State Fault Refusal :=
  run s (onExpiry (·.seq.reclaimTimer) reclaimEnds)

/-- The warning timer of the operator close record (R99). -/
def State.warningTimer (s : State) : Timer := s.holds.close.bind (·.timer)

/-- WARNING_TIMER_EXPIRY (R101). -/
def execWarningTimerExpiry (s : State) : Host.Outcome State Fault Refusal :=
  run s (onExpiry State.warningTimer warningEnds)

/-- R27: the link is lost, and LINK_LOST raised with the number of the last accepted frame. -/
def linkLost (s : State) : State :=
  raise .linkLost (be16 s.prot.latest.number) { s with prot := s.prot.loseLink }

/-- LINK_TIMER_EXPIRY (R27). -/
def execLinkTimerExpiry (s : State) : Host.Outcome State Fault Refusal :=
  run s (onExpiry (·.prot.linkTimer) linkLost)

/-- OWNERSHIP_TIMER_EXPIRY (R13). -/
def execOwnershipTimerExpiry (s : State) : Host.Outcome State Fault Refusal :=
  run s (onExpiry (·.store.ownerTimer) fun s => { s with store := s.store.release })

/-- TRIP_PULSE_END (R73, R74). -/
def execTripPulseEnd (pole : Pole) (s : State) : Host.Outcome State Fault Refusal :=
  run s (onExpiry (fun s => (s.poleRec pole).pulse) (poleEvent (tripPulseEnds pole)))

/-- TRIP_WINDOW_EXPIRY (R73, R74). -/
def execTripWindowExpiry (pole : Pole) (s : State) : Host.Outcome State Fault Refusal :=
  run s (onExpiry (fun s => (s.poleRec pole).window) (poleEvent (tripWindowExpires pole)))

/-- GAP_TIMER_EXPIRY (R74). -/
def execGapTimerExpiry (pole : Pole) (s : State) : Host.Outcome State Fault Refusal :=
  run s (onExpiry (fun s => (s.poleRec pole).gap) (gapEnds pole))

/-- CLOSE_PULSE_END (R77). -/
def execClosePulseEnd (pole : Pole) (s : State) : Host.Outcome State Fault Refusal :=
  run s (onExpiry (fun s => (s.poleRec pole).pulse) (poleEvent (closePulseEnds pole)))

/-- CLOSE_WINDOW_EXPIRY (R77). -/
def execCloseWindowExpiry (pole : Pole) (s : State) : Host.Outcome State Fault Refusal :=
  run s (onExpiry (fun s => (s.poleRec pole).window) (poleEvent (closeWindowExpires pole)))

/-- ACK_TIMER_EXPIRY (R141). -/
def execAckTimerExpiry (s : State) : Host.Outcome State Fault Refusal :=
  run s (onExpiry (·.rep.ackTimer) ackExpires)

/-- HOLDOFF_TIMER_EXPIRY (R142). -/
def execHoldoffTimerExpiry (s : State) : Host.Outcome State Fault Refusal :=
  run s (onExpiry (·.rep.holdoffTimer) holdoffExpires)

/-- REFILL_TIMER_EXPIRY (R146). -/
def execRefillTimerExpiry (s : State) : Host.Outcome State Fault Refusal :=
  run s (onExpiry (·.rep.refillTimer) refill)

/-- PERIODIC_TIMER_EXPIRY (R147). -/
def execPeriodicTimerExpiry (s : State) : Host.Outcome State Fault Refusal :=
  run s (onExpiry (·.rep.periodicTimer) periodicExpires)

/-- The duration timer of the running test (R118). -/
def State.durationTimer (s : State) : Timer := s.batt.test.bind (·.timer)

/-- DURATION_TIMER_EXPIRY (R119). -/
def execDurationTimerExpiry (s : State) : Host.Outcome State Fault Refusal :=
  run s (onExpiry State.durationTimer gradeTest)

/-- NEXT_TEST_DUE (R116). -/
def execNextTestDue (s : State) : Host.Outcome State Fault Refusal :=
  run s (onExpiry (·.batt.nextDue) dueTimeReached)

/-- R116: the retry wait has ended: the test is due. -/
def retryWaitEnds (s : State) : State := testDue { s with batt := { s.batt with retryWait := none } }

/-- RETRY_WAIT_EXPIRY (R116). -/
def execRetryWaitExpiry (s : State) : Host.Outcome State Fault Refusal :=
  run s (onExpiry (·.batt.retryWait) retryWaitEnds)

/-- R112: the fault-clear timer has expired: the charger leaves FAULT by the entry rule. -/
def faultClears (s : State) : State :=
  { s with batt := { s.batt with faultClear := none }.entry s.store.active }

/-- FAULT_CLEAR_TIMER_EXPIRY (R112). -/
def execFaultClearTimerExpiry (s : State) : Host.Outcome State Fault Refusal :=
  run s (onExpiry (·.batt.faultClear) faultClears)

/-- SHUTDOWN_TIMER_EXPIRY (R125). -/
def execShutdownTimerExpiry (s : State) : Host.Outcome State Fault Refusal :=
  run s (onExpiry (·.batt.shutdownTimer) assertShutdown)

/-- ALARM_END (R186). -/
def execAlarmEnd (s : State) : Host.Outcome State Fault Refusal :=
  run s (onExpiry (·.line.alarmEnd) fun s => { s with line := { s.line with alarmEnd := none } })

/-- WARNING_REQUEST_END (R186). -/
def execWarningRequestEnd (s : State) : Host.Outcome State Fault Refusal :=
  run s (onExpiry (·.line.warningEnd) State.withdrawWarning)

end Sys2Proof.Machine
end

