-- ==== Sys2Proof/Machine/Transmit.lean ====
section
/-! DEFINITION. The ends of transmission and of a store write: what the lines and the nonvolatile memory finish
(log 31). With nothing under way there is nothing to end. -/

namespace Sys2Proof.Machine

/-- STORE_WRITE_COMPLETE (R22). -/
def execStoreWriteComplete (s : State) : Host.Outcome State Fault Refusal := run s writeComplete

/-- TANK_TX_END (R155). -/
def execTankTxEnd (s : State) : Host.Outcome State Fault Refusal :=
  run s fun s => { s with port := s.port.tankEnd }

/-- RADIO_TX_END (R157). -/
def execRadioTxEnd (s : State) : Host.Outcome State Fault Refusal := run s radioTxEnds

/-- CREW_TX_END (R161). -/
def execCrewTxEnd (s : State) : Host.Outcome State Fault Refusal := run s crewTxEnds

end Sys2Proof.Machine
end

