-- ==== Sys2Proof/Machine/Dispatch.lean ====
section
/-! DEFINITION. One arm per command of spec/opcode_table.json. -/

namespace Sys2Proof.Machine

def exec (i : Instr) (s : State) : Host.Outcome State Fault Refusal :=
  match i with
  | .powerOn => Sys2Proof.Machine.execPowerOn s
  | .measure number currents voltages => Sys2Proof.Machine.execMeasure number currents voltages s
  | .relayReply number payload => Sys2Proof.Machine.execRelayReply number payload s
  | .relay port number payload => Sys2Proof.Machine.execRelay port number payload s
  | .reportAck number => Sys2Proof.Machine.execReportAck number s
  | .runDiscarded port run => Sys2Proof.Machine.execRunDiscarded port run s
  | .badCommand port number payload => Sys2Proof.Machine.execBadCommand port number payload s
  | .status port number => Sys2Proof.Machine.execStatus port number s
  | .eventsRead port number => Sys2Proof.Machine.execEventsRead port number s
  | .tableLoad port number table record pairs => Sys2Proof.Machine.execTableLoad port number table record pairs s
  | .tableRead port number bank table record first last => Sys2Proof.Machine.execTableRead port number bank table record first last s
  | .bankCopy port number => Sys2Proof.Machine.execBankCopy port number s
  | .bankSwap port number => Sys2Proof.Machine.execBankSwap port number s
  | .bankRelease port number => Sys2Proof.Machine.execBankRelease port number s
  | .trip port number mask => Sys2Proof.Machine.execTrip port number mask s
  | .close port number mask => Sys2Proof.Machine.execClose port number mask s
  | .abort port number => Sys2Proof.Machine.execAbort port number s
  | .holdSet port number tag scope profile => Sys2Proof.Machine.execHoldSet port number tag scope profile s
  | .holdClear port number tag => Sys2Proof.Machine.execHoldClear port number tag s
  | .holdList port number => Sys2Proof.Machine.execHoldList port number s
  | .flags port number actions => Sys2Proof.Machine.execFlags port number actions s
  | .faultRead port number mode value => Sys2Proof.Machine.execFaultRead port number mode value s
  | .exceptionRead port number => Sys2Proof.Machine.execExceptionRead port number s
  | .batteryRead port number => Sys2Proof.Machine.execBatteryRead port number s
  | .batteryTest port number => Sys2Proof.Machine.execBatteryTest port number s
  | .mechReset port number => Sys2Proof.Machine.execMechReset port number s
  | .timeSet port number tag => Sys2Proof.Machine.execTimeSet port number tag s
  | .inputMask port number actions => Sys2Proof.Machine.execInputMask port number actions s
  | .restart port number => Sys2Proof.Machine.execRestart port number s
  | .auxChange pole levels => Sys2Proof.Machine.execAuxChange pole levels s
  | .holdLeverChange level => Sys2Proof.Machine.execHoldLeverChange level s
  | .manualTripChange level => Sys2Proof.Machine.execManualTripChange level s
  | .doorOpen => Sys2Proof.Machine.execDoorOpen s
  | .acPresentChange level => Sys2Proof.Machine.execAcPresentChange level s
  | .crewPresentChange level => Sys2Proof.Machine.execCrewPresentChange level s
  | .radioReadyChange level => Sys2Proof.Machine.execRadioReadyChange level s
  | .cabinetReading voltage current store temperature => Sys2Proof.Machine.execCabinetReading voltage current store temperature s
  | .deadTimerExpiry => Sys2Proof.Machine.execDeadTimerExpiry s
  | .reclaimTimerExpiry => Sys2Proof.Machine.execReclaimTimerExpiry s
  | .warningTimerExpiry => Sys2Proof.Machine.execWarningTimerExpiry s
  | .linkTimerExpiry => Sys2Proof.Machine.execLinkTimerExpiry s
  | .ownershipTimerExpiry => Sys2Proof.Machine.execOwnershipTimerExpiry s
  | .tripPulseEnd pole => Sys2Proof.Machine.execTripPulseEnd pole s
  | .tripWindowExpiry pole => Sys2Proof.Machine.execTripWindowExpiry pole s
  | .gapTimerExpiry pole => Sys2Proof.Machine.execGapTimerExpiry pole s
  | .closePulseEnd pole => Sys2Proof.Machine.execClosePulseEnd pole s
  | .closeWindowExpiry pole => Sys2Proof.Machine.execCloseWindowExpiry pole s
  | .storeWriteComplete => Sys2Proof.Machine.execStoreWriteComplete s
  | .ackTimerExpiry => Sys2Proof.Machine.execAckTimerExpiry s
  | .holdoffTimerExpiry => Sys2Proof.Machine.execHoldoffTimerExpiry s
  | .refillTimerExpiry => Sys2Proof.Machine.execRefillTimerExpiry s
  | .periodicTimerExpiry => Sys2Proof.Machine.execPeriodicTimerExpiry s
  | .durationTimerExpiry => Sys2Proof.Machine.execDurationTimerExpiry s
  | .nextTestDue => Sys2Proof.Machine.execNextTestDue s
  | .retryWaitExpiry => Sys2Proof.Machine.execRetryWaitExpiry s
  | .faultClearTimerExpiry => Sys2Proof.Machine.execFaultClearTimerExpiry s
  | .shutdownTimerExpiry => Sys2Proof.Machine.execShutdownTimerExpiry s
  | .alarmEnd => Sys2Proof.Machine.execAlarmEnd s
  | .warningRequestEnd => Sys2Proof.Machine.execWarningRequestEnd s
  | .tankTxEnd => Sys2Proof.Machine.execTankTxEnd s
  | .radioTxEnd => Sys2Proof.Machine.execRadioTxEnd s
  | .crewTxEnd => Sys2Proof.Machine.execCrewTxEnd s
  | .lineSample levels => Sys2Proof.Machine.execLineSample levels s
  | .powerLoss => Sys2Proof.Machine.execPowerLoss s

end Sys2Proof.Machine
end

