-- ==== Sys2Proof/Machine/Tick.lean ====
section
/-! DEFINITION. One millisecond of the time base (R179): what step does on an empty queue (log 2). -/

namespace Sys2Proof.Machine

/-- The timers of one pole's operation, each with its expiry. A pulse timer belongs to the coil that is energised. -/
def poleTimers (p : Pole) (r : PoleRecord) : List (Timer × Instr) :=
  let close := r.closing
  [(r.pulse, if close then .closePulseEnd p else .tripPulseEnd p),
   (r.window, if close then .closeWindowExpiry p else .tripWindowExpiry p),
   (r.gap, .gapTimerExpiry p)]

/-- Every timer and instant of the part (R179, R186), with its expiry. -/
def timers (s : State) : List (Timer × Instr) :=
  [(s.seq.deadTimer, .deadTimerExpiry), (s.seq.reclaimTimer, .reclaimTimerExpiry),
   (s.warningTimer, .warningTimerExpiry), (s.prot.linkTimer, .linkTimerExpiry),
   (s.store.ownerTimer, .ownershipTimerExpiry)] ++
  poleTimers .a s.poles.pole.a ++ poleTimers .b s.poles.pole.b ++ poleTimers .c s.poles.pole.c ++
  [(s.rep.ackTimer, .ackTimerExpiry), (s.rep.holdoffTimer, .holdoffTimerExpiry),
   (s.rep.refillTimer, .refillTimerExpiry), (s.rep.periodicTimer, .periodicTimerExpiry),
   (s.durationTimer, .durationTimerExpiry), (s.batt.nextDue, .nextTestDue), (s.batt.retryWait, .retryWaitExpiry),
   (s.batt.faultClear, .faultClearTimerExpiry), (s.batt.shutdownTimer, .shutdownTimerExpiry),
   (s.line.alarmEnd, .alarmEnd), (s.line.warningEnd, .warningRequestEnd)]

/-- The expiries that are due. -/
def dueCommands (s : State) : List Instr := ((timers s).filter fun x => x.1.due s.now).map (·.2)

/-- A list put in the order that a run of picks gives: each pick, taken modulo what is left, names the next. -/
def ordered (pick : Nat → Nat) : Nat → Nat → List Instr → List Instr
  | 0, _, l => l
  | fuel + 1, k, l =>
    match l[pick k % l.length]? with
    | some i => i :: ordered pick fuel (k + 1) (l.eraseIdx (pick k % l.length))
    | none => l

/-- R179: the base count one millisecond on; past its largest value it is a free value (log 6). -/
def advancedBase (s : State) : State :=
  if s.time.baseCount + 1 < 281474976710656 then
    { s with time := { s.time with baseCount := s.time.baseCount + 1, timeTag := s.time.timeTag + 1 } }
  else
    { s with time := { s.time with baseCount := (Config.baseCountPastEnd s.freeCount).toNat,
                                   timeTag := s.time.timeTag + 1 },
             freeCount := s.freeCount + 1 }

/-- The due expiries put in the queue: expiries of one millisecond come in an order the manual leaves open (log 3). -/
def queueDue (s : State) : State :=
  let due := dueCommands s
  if due.length ≤ 1 then { s with pending := s.pending ++ due }
  else { s with pending := s.pending ++ ordered Config.dueOrder due.length s.freeCount due,
                freeCount := s.freeCount + due.length }

/-- R179: one millisecond passes: at the new count no sample and no reading has been taken. A part without supply keeps
no time. -/
def tick (s : State) : State := if s.powered then queueDue { advancedBase s with paced := .fresh } else s

end Sys2Proof.Machine
end

