-- ==== Sys2Proof/WellFormed.lean ====
section
/-! DEFINITION. The checks a command passes before it is sent: what a frame can carry (08), and what its row stands
for. A command that fails them still has its effect in the model (log 29); only the statements about encodings ask
them. -/

namespace Sys2Proof

/-- The form test of a command (08, frame layouts; R150, R166):
a relayed payload has 1 to 48 bytes and a reply names port 0 or 1; a TABLE_LOAD has 1 to 9 pairs; a RUN_DISCARDED is a
run that R150 discards on its port, or arrived on the crew port; a BAD_COMMAND spells no command and fits a frame; an
AUX_CHANGE changes a contact; a timer or line event is always of its form. -/
def Instr.wf : Instr → Bool
  | .relayReply _ payload =>
    match payload with
    | [] => false
    | ret :: _ => decide (ret.toNat ≤ 1) && decide (payload.length ≤ 48)
  | .relay _ _ payload => decide (payload.length ≤ 48)
  | .runDiscarded port run => port = .crew || (decodeRun port run).isNone
  | .badCommand port number payload =>
    (parseCommand port number payload).isNone && decide (payload.length ≤ 48)
  | .tableLoad _ _ _ _ pairs => decide (1 ≤ pairs.length) && decide (pairs.length ≤ 9)
  | .auxChange _ levels => levels.a.isSome || levels.b.isSome
  | _ => true

end Sys2Proof
end

