-- ==== Sys2Proof/Safety.lean ====
section
/-! DEFINITION. The words the statements are written in: when a command is taken in, what taking and answering it leave,
and the invariants that every step keeps. -/

namespace Sys2Proof.Machine

/-! ## Taking a command -/

/-- A frame of good form that arrives on a port is accepted: the supply is applied, and on the crew port the
crew-present level is active (R150, R152; log 7). -/
def State.takesIn (s : State) (p : RunPort) : Prop :=
  s.powered = true ∧ (p = .crew → s.port.crewPresent = .active)

/-- A port's command is taken by its context: its frames are accepted and its context is IDLE (R166). -/
def State.ready (s : State) (p : PortId) : Prop := s.takesIn p.run ∧ (s.cmd.ctx p).executing = none

/-- The context of a command that has just been taken (R165, R166 step 5). -/
def takenContext (number : Half) (code : CommandCode) (serial : Nat) : Context :=
  { executing := some { code := code, number := number, serial := serial, rest := [] }, discard := false,
    frameOut := false }

/-- What taking a command leaves before its owner acts: the frame counted as accepted, the context EXECUTING it. -/
def State.admitted (s : State) (p : PortId) (number : Half) (code : CommandCode) : State :=
  { s with
    port := { s.port with accepted := s.port.accepted.set p.run (satInc (s.port.accepted.get p.run)) },
    cmd := { s.cmd.setCtx p (takenContext number code s.cmd.nextSerial) with nextSerial := s.cmd.nextSerial + 1 } }

/-- The reference of the next command a port's context takes (R169, log 11). -/
def State.nextRef (s : State) (p : PortId) : CmdRef := { port := p, serial := s.cmd.nextSerial }

/-- What an answer leaves: its one RESULT frame handed to the port's output, the context IDLE (R169). -/
def State.finished (s : State) (r : CmdRef) (number : Half) (code : CommandCode) (a : Answer) : State :=
  { s with
    port := (s.port.hand r.port
      { frame := resultFrame r.port number (CommandCode.code code) false a, tag := .result (some r) }).1,
    cmd := s.cmd.setCtx r.port .idle }

/-- What a command answered at once leaves, with no other effect than `f`'s. -/
def State.answered (s : State) (p : PortId) (number : Half) (code : CommandCode) (a : Answer)
    (f : State → State := id) : State :=
  (f (s.admitted p number code)).finished (s.nextRef p) number code a

/-- What an answer of two frames handed over in one step leaves (R163). -/
def State.answeredTwice (s : State) (p : PortId) (number : Half) (code : CommandCode) (first second : List Byte) :
    State :=
  let t := s.admitted p number code
  let frame := fun (more : Bool) (data : List Byte) =>
    ({ frame := resultFrame p number (CommandCode.code code) more (.done data),
       tag := .result (some (s.nextRef p)) } : OutFrame)
  { t with port := ((t.port.hand p (frame true first)).1.hand p (frame false second)).1,
           cmd := t.cmd.setCtx p .idle }

/-- What a multi-frame answer leaves after its first frame has been handed over and not dropped: the context still
EXECUTING, the other frames to come (R170). -/
def State.answering (s : State) (p : PortId) (number : Half) (code : CommandCode) (first : List Byte)
    (rest : List (List Byte)) (f : State → State := id) : State :=
  let t := f (s.admitted p number code)
  { t with
    port := (t.port.hand p { frame := resultFrame p number (CommandCode.code code) true (.done first),
                             tag := .result (some (s.nextRef p)) }).1,
    cmd := t.cmd.setCtx p
      { executing := some { code := code, number := number, serial := s.cmd.nextSerial, rest := rest },
        discard := false, frameOut := true } }

/-- Whether a port's output drops the next frame handed to it (R158, R161). -/
def PortUnit.drops (q : PortUnit) : PortId → Prop
  | .radio => 4 ≤ q.radioPending.length
  | .crew => q.crewPresent ≠ .active ∨ 8 ≤ q.crewList.length

/-! ## Timers -/

/-- The timer that a timer command is the expiry of (R179); none for a command that is no expiry. -/
def expiryTimer : Instr → Option (State → Timer)
  | .deadTimerExpiry => some (·.seq.deadTimer)
  | .reclaimTimerExpiry => some (·.seq.reclaimTimer)
  | .warningTimerExpiry => some State.warningTimer
  | .linkTimerExpiry => some (·.prot.linkTimer)
  | .ownershipTimerExpiry => some (·.store.ownerTimer)
  | .tripPulseEnd p => some fun s => (s.poleRec p).pulse
  | .tripWindowExpiry p => some fun s => (s.poleRec p).window
  | .gapTimerExpiry p => some fun s => (s.poleRec p).gap
  | .closePulseEnd p => some fun s => (s.poleRec p).pulse
  | .closeWindowExpiry p => some fun s => (s.poleRec p).window
  | .ackTimerExpiry => some (·.rep.ackTimer)
  | .holdoffTimerExpiry => some (·.rep.holdoffTimer)
  | .refillTimerExpiry => some (·.rep.refillTimer)
  | .periodicTimerExpiry => some (·.rep.periodicTimer)
  | .durationTimerExpiry => some State.durationTimer
  | .nextTestDue => some (·.batt.nextDue)
  | .retryWaitExpiry => some (·.batt.retryWait)
  | .faultClearTimerExpiry => some (·.batt.faultClear)
  | .shutdownTimerExpiry => some (·.batt.shutdownTimer)
  | .alarmEnd => some (·.line.alarmEnd)
  | .warningRequestEnd => some (·.line.warningEnd)
  | _ => none

/-- The timer of an expiry runs and has been reached, on a part with its supply. -/
def State.expires (s : State) (t : Timer) : Prop := s.powered = true ∧ ∃ e, t = some e ∧ e ≤ s.now

/-! ## Poles -/

/-- A trip is in flight on a pole (R68). -/
def PoleRecord.tripping (r : PoleRecord) : Prop := r.mech = .tripPulse ∨ r.mech = .tripWait ∨ r.mech = .tripRetry

/-- A coil of a pole is energised (R71). -/
def PoleRecord.energised (r : PoleRecord) : Prop := r.mech = .tripPulse ∨ r.mech = .closePulse

/-- A pole at rest that reads OPEN: a trip ordered there completes SUCCESS at once (R72). -/
def PoleRecord.openAtRest (r : PoleRecord) : Prop := r.position = .opened ∧ (r.mech = .idle ∨ r.mech = .failed)

/-- A pole's record at the end of an operation: its resting state by the failed mark, the outcome, every timer stopped
(R68, R73, R77). -/
def PoleRecord.ended (r : PoleRecord) (o : OpOutcome) : PoleRecord :=
  { r with mech := if r.failed then .failed else .idle, last := some o, pulse := none, window := none, gap := none,
           heldOpen := false, windowHeld := false }

/-- A pole's record as a trip begins: the first pulse with both timers fresh, one more operation (R72, R76). -/
def PoleRecord.tripBegun (r : PoleRecord) (b : Bank) (now : Nat) : PoleRecord :=
  { r with mech := .tripPulse, attempt := 1, pulse := some (now + b.openPulse), window := some (now + b.openWindow),
           gap := none, ops := r.ops + 1, heldOpen := false, windowHeld := false }

/-- TRIPPING with a failed pole: its end may order follow-on trips (R52 step 1). -/
def State.mayFollowOn (s : State) : Prop := s.seq.state = .tripping ∧ ∃ p, s.seq.ctx.failed.get p = true

/-! ## The end of TRIPPING and of CLOSING -/

/-- R51 to R53, R63, R66, R40: what the completion of the last order outstanding in TRIPPING leaves: an order of kind `k`
on pole `p`, failed or not. The OPERATED elements are released. With a failed pole, every pole that does not read OPEN
and has not failed is ordered to trip, and TRIPPING stays (R52 step 1). Otherwise the open fault record is updated, and
the sequence is in LOCKOUT with the first cause that holds, the record closed, or in DEAD_TIME. -/
def State.lastTripDone (s : State) (p : Pole) (k : TripKind) (failed : Bool) (t : State) : Prop :=
  let q := s.seq
  let c := q.ctx
  let b := s.store.active
  let failedPoles : PoleMask := if failed then c.failed.set p true else c.failed
  let follows : Pole → Prop := fun y => y ≠ p ∧ (s.poleRec y).position ≠ .opened ∧ failedPoles.get y = false
  let raised : FaultRecord → FaultRecord := fun x =>
    if k = .fault then { x with maxima := (t.prot.episode.map fun ep => x.maxima.zip max ep.maxima).getD x.maxima }
    else x
  let ended : FaultRecord → FaultRecord := fun x => if c.ordered.isEmpty then x else
    { x with lastMask := c.ordered, shots := q.shot, elements := x.elements.union c.elements,
             clearing := (c.pickup.map fun i => s.now - i).getD x.clearing }
  let work : (FaultRecord → FaultRecord) → List FaultRecord → List FaultRecord := fun f l =>
    l.map fun x => if q.openRecord = some x.number then f x else x
  let flag : Nat → Bool := fun i => if i = 7 then q.userFlags.f0 else if i = 8 then q.userFlags.f1
    else if i = 9 then q.userFlags.f2 else q.userFlags.f3
  let phase : PoleMask := ⟨c.elements.time.a || c.elements.highSet.a, c.elements.time.b || c.elements.highSet.b,
    c.elements.time.c || c.elements.highSet.c⟩
  let code := b.gateCondition q.shot
  let condition : Prop :=
    code = 0 ∨
    (code = 1 ∧ ∃ x ∈ work raised q.faults, q.openRecord = some x.number ∧
      ∃ y, 2 * b.highCurrentLockout ≤ x.maxima.get y) ∨
    (code = 2 ∧ c.elements.time.g = true) ∨
    (code = 3 ∧ ∃ y z, y ≠ z ∧ phase.get y = true ∧ phase.get z = true) ∨
    (code = 4 ∧ ∃ y, c.elements.highSet.get y = true) ∨
    (code = 5 ∧ ∃ y, (s.prot.latest.voltages.get y).mark ≠ .invalid ∧
      (s.prot.latest.voltages.get y).value < b.liveVoltage) ∨
    (code = 6 ∧ s.batt.level ≠ .normal) ∨
    (7 ≤ code ∧ code ≤ 10 ∧ flag code = true)
  let fires : Prop := condition ↔ b.gateSense q.shot = true
  let outcome : LockoutCause → FaultOutcome → Prop := fun cause o =>
    t.seq.state = .lockout ∧ t.seq.cause = cause ∧ t.seq.shot = 1 ∧ t.seq.deadTimer = none ∧
    t.seq.reclaimTimer = none ∧ t.seq.afterClose = false ∧ t.seq.lamp = true ∧ t.seq.openRecord = none ∧
    t.seq.ctx.ordered = ⟨false, false, false⟩ ∧
    t.seq.faults = work (fun x => { ended (raised x) with outcome := some o, cause := some cause }) q.faults
  let toDead : Prop :=
    t.seq.state = .deadTime ∧ t.seq.deadTimer = some (s.now + b.deadTime q.shot) ∧ t.seq.shot = q.shot ∧
    t.seq.openRecord = q.openRecord ∧ t.seq.faults = work (fun x => ended (raised x)) q.faults ∧
    t.seq.ctx.reclose = (if k = .fault then c.reclose.set p true else c.reclose) ∧
    t.seq.cause = q.cause ∧ t.seq.lamp = q.lamp
  let goesOn : Prop :=
    t.seq.state = .tripping ∧ t.seq.shot = q.shot ∧ t.seq.openRecord = q.openRecord ∧
    t.seq.faults = work raised q.faults ∧ t.seq.cause = q.cause ∧ t.seq.lamp = q.lamp ∧
    t.seq.ctx.endCause = c.endCause ∧ t.seq.ctx.failed = failedPoles ∧ t.batt.test = none ∧
    (∀ y, (follows y → t.seq.ctx.tripsOut.get y = some .fault ∧ t.seq.ctx.ordered.get y = true) ∧
      (¬ follows y → t.seq.ctx.tripsOut.get y = none ∧ t.seq.ctx.ordered.get y = c.ordered.get y)) ∧
    (∀ y, follows y → ((s.poleRec y).mech = .idle ∨ (s.poleRec y).mech = .failed) →
      t.poleRec y = (s.poleRec y).tripBegun b s.now) ∧
    (∀ y, y ≠ p → ¬ follows y → t.poleRec y = s.poleRec y)
  (∀ x, t.prot.elements.get x = if (s.prot.elements.get x).state = .operated then
      { state := .idle, acc := 0, byTime := false, byHighSet := false } else s.prot.elements.get x) ∧
  ((∀ x, (t.prot.elements.get x).state = .idle) → t.prot.episode = none) ∧
  ((∃ x, (t.prot.elements.get x).state ≠ .idle) → t.prot.episode = s.prot.episode) ∧
  (if failedPoles.isEmpty = false then
    ((∃ y, follows y) → goesOn) ∧
    ((∀ y, ¬ follows y) → outcome .mechFail .tripFailed ∧ ∀ y, y ≠ p → t.poleRec y = s.poleRec y)
  else (∀ y, y ≠ p → t.poleRec y = s.poleRec y) ∧
    (if c.closeFailed = true then outcome .mechFail .lockout
    else if c.endCause = some .operator then outcome .operator .lockout
    else if c.endCause = some .evolving then outcome .evolving .lockout
    else if c.endCause = some .closeOntoFault then outcome .closeOntoFault .lockout
    else if s.holds.table ≠ [] then outcome .hold .lockout
    else if q.shot = b.shotCount then outcome .lastShot .lockout
    else (fires → outcome .gate .lockout) ∧ (¬ fires →
      if s.batt.level = .shutdownPending then outcome .supply .lockout else toDead)))

/-- In TRIPPING, the trip order on pole `p`, of kind `k`, is the last order outstanding. -/
def State.lastTrip (s : State) (p : Pole) (k : TripKind) : Prop :=
  s.seq.state = .tripping ∧ s.seq.ctx.tripsOut.get p = some k ∧
  (∀ q, q ≠ p → s.seq.ctx.tripsOut.get q = none) ∧ ∀ q, s.seq.ctx.closesOut.get q = false

/-- In CLOSING, the close order on pole `p` is the last outstanding. -/
def State.lastClose (s : State) (p : Pole) : Prop :=
  s.seq.state = .closing ∧ s.seq.ctx.closesOut.get p = true ∧ ∀ q, q ≠ p → s.seq.ctx.closesOut.get q = false

/-- R58, R62: CLOSING has ended with no close failed: RECLAIM, with n + 1, or with n = 1 after an operator close. -/
def State.closingDone (s t : State) : Prop :=
  t.seq.state = .reclaim ∧ t.seq.shot = (if s.seq.afterClose then 1 else s.seq.shot + 1) ∧
  t.seq.reclaimTimer = some (s.now + s.store.active.reclaimTime) ∧ t.seq.afterClose = s.seq.afterClose ∧
  t.seq.openRecord = s.seq.openRecord ∧ t.seq.faults = s.seq.faults

/-- R58, R62, R63: CLOSING has ended with a close failed: LOCKOUT (MECH_FAIL). -/
def State.closingJammed (t : State) : Prop :=
  t.seq.state = .lockout ∧ t.seq.cause = .mechFail ∧ t.seq.shot = 1 ∧ t.seq.openRecord = none ∧ t.seq.lamp = true ∧
  t.seq.afterClose = false

/-! ## LOCKOUT entered -/

/-- R63, R46: the sequence as LOCKOUT leaves it, entered with a cause from a state with no failed pole: the open fault
record closed with outcome LOCKOUT, the context emptied but for the orders in flight. -/
def Sequence.lockedOut (q : Sequence) (cause : LockoutCause) : Sequence :=
  { q with
    state := .lockout, cause := cause, shot := 1, deadTimer := none, reclaimTimer := none, afterClose := false
    ctx :=
      { pickup := none, elements := ⟨⟨false, false, false, false⟩, ⟨false, false, false⟩⟩, tripsOut := q.ctx.tripsOut
        closesOut := q.ctx.closesOut, ordered := ⟨false, false, false⟩, reclose := ⟨false, false, false⟩
        failed := ⟨false, false, false⟩, closeFailed := false, endCause := none }
    faults := q.faults.map fun x =>
      if q.openRecord = some x.number then { x with outcome := some .lockout, cause := some cause } else x
    openRecord := none, initial := false, lamp := true }

/-! ## Commands one after another -/

/-- The outcome of a list of commands run one after another. -/
def execAll : List Instr → State → Host.Outcome State Fault Refusal
  | [], s => .next s
  | i :: rest, s =>
    match exec i s with
    | .next t => execAll rest t
    | o => o

/-! ## Bytes sent (08) -/

/-- The number that `n` bytes carry from byte `i` on, most significant first. -/
def numberAt (d : List Byte) (i n : Nat) : Nat := ((d.drop i).take n).foldl (fun a x => a * 256 + x.toNat) 0

/-- R164: a set as sent, bit 0 for its first member. -/
def setNumber (members : List Bool) : Nat := members.foldr (fun x a => (if x then 1 else 0) + 2 * a) 0

/-- A quantity as sent in `n` bytes: 0 where it does not fit (00_scope, Arithmetic). -/
def fitted (n v : Nat) : Nat := if v < 256 ^ n then v else 0

/-- R164: an enumerated value as sent: its place in the list where the manual defines it, 255 where it is absent. -/
def placeIn {α : Type} [DecidableEq α] (l : List α) (x : Option α) : Nat := (x.map fun y => l.idxOf y).getD 255

/-- A test's origin as sent: SCHEDULED 0, RADIO 1, CREW 2 (08). -/
def TestOrigin.number : TestOrigin → Nat
  | .scheduled => 0
  | .command r _ => if r.port = .radio then 1 else 2

/-! ## Commands that wait for their poles -/

/-- The frames of a port's output: the one under way, then those that wait (R158, R161). -/
def PortUnit.output (q : PortUnit) : PortId → List OutFrame
  | .radio => q.radioLine.toList ++ q.radioPending
  | .crew => q.crewLine.toList ++ q.crewList

/-- A port's output has room for a RESULT after so many notices (R158, R161). -/
def PortUnit.roomAfter (q : PortUnit) (notices : Nat) : PortId → Prop
  | .radio => q.radioPending.length < 4
  | .crew => q.crewPresent = .active ∧ q.crewList.length + notices < 8

/-- R169, R173: a command that waited has been answered: its context is IDLE; without the discard mark, and with room for
it, its RESULT is in its port's output. -/
def State.answersWaiting (s t : State) (r : CmdRef) (a : Answer) : Prop :=
  ∀ e, s.holding r = some e → t.cmd.ctx r.port = .idle ∧
    ((s.cmd.ctx r.port).discard = false → s.port.roomAfter 2 r.port →
      ({ frame := resultFrame r.port e.number (CommandCode.code e.code) false a, tag := .result (some r) } : OutFrame) ∈
        t.port.output r.port)

/-- R60, R105, 08: the result data of a TRIP or a CLOSE: the outcome of A, B and C in R68's order, 255 for a pole that has
none. -/
def sentOutcomes (o : PerPole (Option OpOutcome)) : List Byte :=
  [o.a, o.b, o.c].map fun x =>
    BitVec.ofNat 8 (placeIn [OpOutcome.success, .retriedSuccess, .failed, .aborted] x)

/-- R60, R61: what the completion of a trip on pole `p` leaves of the operator trips: each that waited for the pole takes
the outcome; one that waits for no other pole ends, its TRIP answered FAILED where any outcome is FAILED and DONE
otherwise; in LOCKOUT the cause becomes OPERATOR where one that was taken there ends. -/
def State.tripsTake (s : State) (p : Pole) (o : OpOutcome) (t : State) : Prop :=
  let taken : OperatorTrip → OperatorTrip := fun x => if x.waiting.get p then
    { x with waiting := x.waiting.set p false, outcomes := x.outcomes.set p (some o) } else x
  let ends : OperatorTrip → Bool := fun x => (taken x).waiting.isEmpty
  t.seq.operatorTrips = (s.seq.operatorTrips.map taken).filter (fun x => !x.waiting.isEmpty) ∧
  (s.seq.state = .lockout →
    t.seq.cause = if s.seq.operatorTrips.any (fun x => ends x && x.inLockout) then .operator else s.seq.cause) ∧
  (∀ x r, x ∈ s.seq.operatorTrips → ends x = true → x.cmd = some r →
    (∀ y, y ∈ s.seq.operatorTrips → y.cmd = x.cmd → y = x) →
    let data := sentOutcomes (taken x).outcomes
    s.answersWaiting t r (if (taken x).outcomes.toList.contains (some .failed) then .failed data else .done data))

/-- R62, R105: what the completion of a close on pole `p`, one of an operator close's, leaves of that close: with closes
still to come it waits on; with none, in CLOSING or once CLOSING has been left, the record is removed and the CLOSE
answered: DONE where CLOSING ends with no close failed, FAILED otherwise, with each pole's outcome. -/
def State.closeTakes (s : State) (p : Pole) (o : OpOutcome) (t : State) : Prop :=
  ∀ c r, s.seq.operatorClose = some c → s.holds.close = some r → r.phase = .pulsing → c.waiting.get p = true →
    s.seq.ctx.closesOut.get p = true →
    let left : PoleMask := c.waiting.set p false
    let outcomes : PerPole (Option OpOutcome) := c.outcomes.set p (some o)
    (left.isEmpty = false →
      t.holds.close = some r ∧ t.seq.operatorClose = some { c with waiting := left, outcomes := outcomes }) ∧
    (left.isEmpty = true → (s.seq.state ≠ .closing ∨ s.lastClose p) →
      t.holds.close = none ∧ t.seq.operatorClose = none ∧
      s.answersWaiting t r.cmd
        (if s.seq.state = .closing ∧ s.seq.ctx.closeFailed = false ∧ o ≠ .failed then .done (sentOutcomes outcomes)
         else .failed (sentOutcomes outcomes)))

/-! ## Invariants -/

/-- R12: the active bank passes validation. -/
def State.activeValid (s : State) : Prop := s.store.active.valid = true

/-- R132: at most 64 entries, no two with one number, at most one IN_FLIGHT; and an entry is IN_FLIGHT only in
AWAIT_ACK, the holdoff timer runs only in HOLDOFF (R138). -/
def ReportUnit.ok (r : ReportUnit) : Prop :=
  r.queue.length ≤ 64 ∧ (r.queue.map ReportEntry.number).Nodup ∧ (r.queue.filter (·.inFlight)).length ≤ 1 ∧
  (∀ e ∈ r.queue, e.inFlight = true → r.tx = .awaitAck) ∧ (r.holdoffTimer.isSome = true → r.tx = .holdoff)

/-- R155, R158, R161, R65: the ports' lists and the fault list stay within their lengths. -/
def State.listsBounded (s : State) : Prop :=
  s.port.tankQueue.length ≤ 4 ∧ s.port.radioPending.length ≤ 4 ∧ s.port.crewList.length ≤ 8 ∧ s.seq.faults.length ≤ 8

/-- R113, R145: the coulomb count is at most full, the transmit budget at most its ceiling. -/
def State.countsBounded (s : State) : Prop :=
  s.batt.coulomb ≤ s.store.active.fullCount ∧ s.rep.budget ≤ s.store.active.budgetCeiling

/-- R165, R170: a frame is out only while a multi-frame answer is under way; none is out of an IDLE context (the model's
choice, log 40). -/
def CommandUnit.framesOk (c : CommandUnit) : Prop :=
  ∀ p, (c.ctx p).frameOut = true → ∃ e, (c.ctx p).executing = some e ∧
    (e.code = .tableRead ∨ e.code = .faultRead ∨ e.code = .holdList)

/-- Whether the store holds a readable copy of an image (R21). -/
def Nonvolatile.readable (nv : Nonvolatile) : ImageId → Bool
  | .settings => nv.settings.isSome
  | .hold => nv.hold.isSome

/-- R21, R22: the image in flight has no usable copy; nothing is pending with nothing in flight; the pending list holds
no image twice. -/
def SettingStore.queueOk (st : SettingStore) : Prop :=
  (∀ w, st.inFlight = some w → st.nv.readable w.image = false) ∧ (st.inFlight = none → st.waiting = []) ∧
  st.waiting.Nodup

/-- R89: slots 1 to 7 hold no LEVER hold and no two holds with the same origin and crew tag. -/
def slotsOk (v : Vector (Option Hold) 7) : Prop :=
  (∀ h : Hold, some h ∈ v.toList → h.origin ≠ .lever) ∧
  (∀ (i j : Nat) (h k : Hold), v.toList[i]? = some (some h) → v.toList[j]? = some (some k) → h.origin = k.origin →
    h.tag = k.tag → i = j)

/-- The slots that a write in flight carries. -/
def ImageWrite.slots : ImageWrite → Option (Vector (Option Hold) 7)
  | .settings _ => none
  | .hold v => some v

/-- R89: the hold table, and every copy of it that the store holds or writes, is well formed; slot 0 holds a LEVER hold
or nothing. -/
def State.holdsOk (s : State) : Prop :=
  (∀ h, s.holds.lever = some h → h.origin = .lever) ∧ slotsOk s.holds.slots ∧
  (∀ v, s.store.nv.hold = some v → slotsOk v) ∧
  (∀ w v, s.store.inFlight = some w → w.slots = some v → slotsOk v)

/-- R121, first half: while the test load is applied no pole has an operation in flight, so no coil is energised. -/
def State.loadAlone (s : State) : Prop :=
  s.batt.test.isSome = true → ∀ p, (s.poleRec p).mech = .idle ∨ (s.poleRec p).mech = .failed

end Sys2Proof.Machine
end

