-- ==== Sys2Proof/Certificates/Slice0/Obligations.lean ====
section
/-! DEFINITION. The statements for the provers, in the order of the spec's files. -/

open Sys2Proof Sys2Proof.Machine

/-! ## The machine: queue, time, supply -/

/-- A step takes the command at the front of the queue and runs it on the state with the queue's rest. -/
def Obligations.StepRunsFrontCommand : Prop :=
  ∀ (c : Instr) (rest : List Instr) (s : State),
    step { s with pending := c :: rest } = exec c { s with pending := rest }

/-- R179 and log 2, 3, 6: on an empty queue a step is one millisecond. The base count and the time tag rise by one (the
tag wraps at 32 bits); the expiries that are then due are queued, each once, in some order: those whose own timer is due,
a pulse's and a window's being the trip's or the close's by the operation of the pole, and no other command. No sample
and no reading has been taken at the new count (log 5). Nothing else changes. A part without supply stays as it is. At
the end of its 48 bits the base count takes a value of 48 bits. -/
def Obligations.StepOnEmptyQueueIsOneMillisecond : Prop :=
  ∀ s : State, s.pending = [] →
    (s.powered = false → step s = .next s) ∧
    (s.powered = true → ∃ t, step s = .next t ∧
      t = { s with time := t.time, pending := t.pending, freeCount := t.freeCount, paced := ⟨false, false⟩ } ∧
      t.time.timeTag = s.time.timeTag + 1 ∧ t.time.timeSet = s.time.timeSet ∧
      (s.time.baseCount + 1 < 2 ^ 48 → t.time.baseCount = s.time.baseCount + 1) ∧
      (2 ^ 48 ≤ s.time.baseCount + 1 → t.time.baseCount < 2 ^ 48) ∧
      t.pending.Perm (dueCommands { s with time := t.time }) ∧ t.pending.Nodup ∧
      (∀ i, i ∈ t.pending ↔ ∃ f e, expiryTimer i = some f ∧ f s = some e ∧ e ≤ t.time.baseCount ∧
        (match i with
          | .tripPulseEnd p => (s.poleRec p).mech ≠ .closePulse ∧ (s.poleRec p).mech ≠ .closeWait
          | .tripWindowExpiry p => (s.poleRec p).mech ≠ .closePulse ∧ (s.poleRec p).mech ≠ .closeWait
          | .closePulseEnd p => (s.poleRec p).mech = .closePulse ∨ (s.poleRec p).mech = .closeWait
          | .closeWindowExpiry p => (s.poleRec p).mech = .closePulse ∨ (s.poleRec p).mech = .closeWait
          | _ => True)))

/-- Log 34, 7, 4: every command answers a next state; a part without supply takes nothing but POWER_ON; an expiry of a
timer that is stopped, or that has not been reached, has no effect (the model's choices where R21, R179 are silent). -/
def Obligations.NextStateAlways : Prop :=
  (∀ (i : Instr) (s : State), ∃ t, exec i s = .next t) ∧
  (∀ (i : Instr) (s : State), s.powered = false → i ≠ .powerOn → exec i s = .next s) ∧
  (∀ (i : Instr) (f : State → Timer) (s : State), expiryTimer i = some f → ¬ s.expires (f s) → exec i s = .next s)

/-- R187 steps 1 to 7 and R12, R23, R45, R68, R89, R97, R107, R127, R149, R165, R179, R181, R183, R188: what POWER_ON
leaves, from the two images alone. The report queue holds DEFAULTS_IN_USE, STORE_HOLD and START, in that order, each if
it is raised and the restored map does not suppress it; the refill and periodic timers run from count 0. R21: a loss of
power leaves each image as it stood, so an image whose write was in flight stays without a usable copy, and the part
without supply. The model's choices: the attempt 1 of a pole and the run target 1 of a filter (log 26); the serial and
the id that start at 0 (log 11); a hold image whose write was only pending passes (log 47); POWER_ON taken on a part that has its supply, and the queue of commands and the volatile
state at either command (log 7); no sample and no reading yet taken (log 5). -/
def Obligations.SupplyOnAndOff : Prop :=
  (∀ s : State, ∃ t, exec .powerOn s = .next t ∧
    t.powered = true ∧ t.time.baseCount = 0 ∧ t.time.timeTag = 0 ∧ t.time.timeSet = false ∧
    t.store.active =
      (match s.store.nv.settings with
       | some b => if b.valid then b else defaultBank
       | none => defaultBank) ∧
    t.store.shadow = t.store.active ∧ t.store.owner = none ∧ t.store.ownerTimer = none ∧
    t.store.nv.settings = s.store.nv.settings ∧ t.store.waiting = [] ∧ t.store.swapWaiter = none ∧
    t.holds.waiters = [] ∧
    t.prot = .initial ∧ t.seq = .start ∧ t.poles = .initial ∧ t.cmd = .initial ∧ t.port = .initial ∧
    t.batt = .initial t.store.active.fullCount
      (if t.store.active.testInterval = 0 then none else some t.store.active.testInterval) ∧
    (let b := t.store.active
     let defaults : Option (List Byte) := match s.store.nv.settings with
       | none => some [0, 0, 0, 0, 0]
       | some x => (validate x).map fun f =>
           [0, 1, BitVec.ofNat 8 f.1, BitVec.ofNat 8 f.2.1, BitVec.ofNat 8 f.2.2]
     let lost := s.store.nv.hold = none
     let raised : List (EventKind × List Byte) :=
       (defaults.map fun d => (EventKind.defaultsInUse, d)).toList ++
       (if lost then [(EventKind.storeHold, [1, 7])] else []) ++
       [(EventKind.start, [if defaults.isSome then 1 else 0, if lost then 1 else 0])]
     let kept := raised.filterMap fun x => (b.priority x.1).map fun p => (p, x)
     t.rep =
       { queue := kept.zipIdx.map fun x =>
           { number := BitVec.ofNat 16 (x.2 + 1), priority := x.1.1, kind := x.1.2.1, tag := 0, timeSet := false,
             body := x.1.2.2, cost := 1 + x.1.2.2.length / 16, attempts := 0, channel := none, resume := .primary,
             allowance := 1 + b.retries, inFlight := false, overrunCarried := false },
         nextNumber := BitVec.ofNat 16 (kept.length + 1), overrun := false, backlog := false,
         budget := b.budgetCeiling, refillTimer := some 60000, tx := .disabled, handed := none, ackTimer := none,
         holdoffTimer := none, periodicTimer := if b.periodicPeriod = 0 then none else some b.periodicPeriod,
         radioReady := .notYet, crewPresent := .notYet, nextHandedId := 0 }) ∧
    t.paced = ⟨false, false⟩ ∧
    t.holds.lever = none ∧ t.holds.close = none ∧ t.holds.leverAccepted = false ∧
    (∀ v, s.store.nv.hold = some v →
      t.holds.slots = v ∧ t.store.nv.hold = some v ∧ t.store.inFlight = none ∧ t.line.alarmEnd = none) ∧
    (s.store.nv.hold = none →
      t.holds.slots = (Vector.replicate 7 none).setIfInBounds 0
        (some { origin := .store, tag := 0, scope := .full, profile := true, setTag := 0 }) ∧
      t.store.inFlight = some (.hold t.holds.slots) ∧ t.line.alarmEnd = some 2000) ∧
    t.line.filters = .all .initial ∧ t.line.masks = t.store.active.lineMasks ∧ t.line.radioFlags = .all false ∧
    t.line.crewFlags = .all false ∧ t.line.warningEnd = none ∧ t.pending = s.pending) ∧
  (∀ s : State, s.powered = true → ∃ t, exec .powerLoss s = .next t ∧ t.powered = false ∧ t.store.nv = s.store.nv ∧
    t.store.inFlight = none ∧ t.store.waiting = [] ∧ t.pending = s.pending)

/-- State.reset is what POWER_ON leaves on the nonvolatile contents that log 1 chooses (the model's choice), and every
invariant stated below of all steps holds there. -/
def Obligations.ResetIsPowerOnResult : Prop :=
  exec .powerOn { State.reset with powered := false } = .next State.reset ∧
  State.reset.store.active = defaultBank ∧ State.reset.store.shadow = defaultBank ∧
  State.reset.store.owner = none ∧ State.reset.time.baseCount = 0 ∧ State.reset.prot.linkUp = false ∧
  State.reset.seq.state = .lockout ∧ State.reset.seq.cause = .start ∧ State.reset.seq.shot = 1 ∧
  State.reset.seq.lamp = false ∧ State.reset.batt.level = .normal ∧ State.reset.batt.charger = .off ∧
  State.reset.rep.tx = .disabled ∧ State.reset.cmd.radio = .idle ∧ State.reset.cmd.crew = .idle ∧
  State.reset.activeValid ∧ State.reset.rep.ok ∧ State.reset.listsBounded ∧ State.reset.store.queueOk ∧
  State.reset.holdsOk ∧ State.reset.loadAlone ∧ State.reset.countsBounded ∧ State.reset.cmd.framesOk

/-! ## Setting tables and banks (01) -/

/-- R1: a field keeps the value placed in it, and placing one changes no other field; a field that does not exist takes
none. -/
def Obligations.FieldKeepsItsValue : Prop :=
  ∀ (b : Bank) (t r f : Nat) (v : Word),
    (fieldExists t r f = true → (b.set t r f v).field t r f = v) ∧
    (fieldExists t r f = false → b.set t r f v = b) ∧
    (∀ t' r' f', (t', r', f') ≠ (t, r, f) → (b.set t r f v).field t' r' f' = b.field t' r' f')

/-- R10: validation answers the first field, in the order of the scan, that fails; a bank passes when none does. The scan
passes over curve points above the point count and shot records above the shot count; elsewhere a field must lie in its
range and keep the relations of R2, R5 and R6.
R11: the default bank holds each field's default and passes. -/
def Obligations.ValidationFindsFirstFailure : Prop :=
  (∀ b : Bank,
    (validate b = none ↔ ∀ row ∈ fieldRows, passesAt b row = true) ∧
    (∀ t r f, validate b = some (t, r, f) ↔
      ∃ before row after, fieldRows = before ++ row :: after ∧ (∀ x ∈ before, passesAt b x = true) ∧
        passesAt b row = false ∧ row.table = t ∧ row.record = r ∧ row.field = f)) ∧
  (∀ (b : Bank) (row : FieldRow),
    let this : Nat → Nat := b.nat row.table row.record
    let value : Int := if row.signed then (b.field row.table row.record row.field).toInt else this row.field
    let point := if 3 ≤ row.field ∧ row.field ≤ 14 then row.field - 2
      else if 15 ≤ row.field ∧ row.field ≤ 26 then row.field - 14 else 0
    let pole : Nat → Nat := b.nat 3 0
    let batt : Nat → Nat := b.nat 4 0
    let passedOver := (row.table = 0 ∧ this 1 < point) ∨ (row.table = 2 ∧ b.nat 2 0 1 < row.record)
    let related :=
      (row.table = 0 → 4 ≤ row.field → row.field ≤ 14 → this (row.field - 1) < this row.field) ∧
      (row.table = 0 → 16 ≤ row.field → row.field ≤ 26 → this row.field ≤ this (row.field - 1)) ∧
      (row.table = 3 →
        (row.field = 3 → pole 1 ≤ pole 3) ∧ (row.field = 4 → pole 2 ≤ pole 4) ∧
        (row.field = 8 → pole 7 + 100 ≤ pole 8) ∧ (row.field = 9 → pole 8 + 50 ≤ pole 9)) ∧
      (row.table = 4 →
        (row.field = 3 → batt 3 < batt 2) ∧ (row.field = 4 → batt 4 < batt 3) ∧ (row.field = 7 → batt 2 < batt 7) ∧
        (row.field = 9 → (b.field 4 0 8).toInt < (b.field 4 0 9).toInt) ∧ (row.field = 11 → batt 11 < batt 10) ∧
        (row.field = 12 → batt 12 < batt 11) ∧
        (row.field = 13 → batt 11 + batt 13 ≤ batt 10 ∧ batt 10 + batt 13 < batt 3) ∧
        (row.field = 16 → batt 10 ≤ batt 16) ∧ (row.field = 18 → batt 17 < batt 18))
    (passesAt b row = true ↔ passedOver ∨ (row.low ≤ value ∧ value ≤ row.high ∧ related))) ∧
  validate defaultBank = none ∧
  ∀ row ∈ fieldRows, defaultBank.field row.table row.record row.field = BitVec.ofInt 32 row.default

/-- R13, R14: TABLE_LOAD: refused to a port that does not own an owned shadow; a field that does not exist is a bad
argument, writes nothing and restarts an owner's timer; otherwise the pairs are written into the shadow in the order
carried, the port owns it with 600 s afresh, and the answer is DONE. -/
def Obligations.TableLoadWritesShadow : Prop :=
  ∀ (p : PortId) (n : Half) (table record : Byte) (pairs : List FieldPair) (s : State), s.ready p →
    1 ≤ pairs.length → pairs.length ≤ 9 →
    (s.store.owner = some (PortId.other p) →
      exec (.tableLoad p n table record pairs) s = .next (s.answered p n .tableLoad (.refused .shadowOwned))) ∧
    (s.store.owner ≠ some (PortId.other p) →
      (∃ q ∈ pairs, fieldExists table.toNat record.toNat q.field.toNat = false) →
      exec (.tableLoad p n table record pairs) s = .next (s.answered p n .tableLoad .badArgument fun t =>
        if s.store.owner = some p then { t with store := { t.store with ownerTimer := some (s.now + 600000) } }
        else t)) ∧
    (s.store.owner ≠ some (PortId.other p) →
      (∀ q ∈ pairs, fieldExists table.toNat record.toNat q.field.toNat = true) →
      exec (.tableLoad p n table record pairs) s = .next (s.answered p n .tableLoad .done fun t =>
        { t with store := { t.store with
            owner := some p, ownerTimer := some (s.now + 600000),
            shadow := pairs.foldl (fun b q => b.set table.toNat record.toNat q.field.toNat q.value)
              s.store.shadow } }))

/-- R15, R13: TABLE_READ: a bad bank, table, record or field is a bad argument; otherwise the fields' values are copied
now and go out as DONE frames, each with the bank, table and record and the next 8 pairs, the last with those left: the
first at once, a later one when the frame before it has gone. A read naming the shadow restarts an owner's timer. Nothing
else changes. -/
def Obligations.TableReadAnswersCopy : Prop :=
  ∀ (p : PortId) (n : Half) (bank table record first last : Byte) (s : State), s.ready p →
    let touch : State → State := fun t =>
      if bank.toNat = 1 ∧ s.store.owner = some p then
        { t with store := { t.store with ownerTimer := some (s.now + 600000) } } else t
    let good := bank.toNat ≤ 1 ∧ fieldExists table.toNat record.toNat first.toNat = true ∧
      fieldExists table.toNat record.toNat last.toNat = true ∧ first.toNat ≤ last.toNat
    let copy := (List.range' first.toNat (last.toNat + 1 - first.toNat)).map fun f =>
      ({ field := BitVec.ofNat 8 f,
         value := (if bank.toNat = 0 then s.store.active else s.store.shadow).field table.toNat record.toNat f } :
        FieldPair)
    (¬ good → exec (.tableRead p n bank table record first last) s =
      .next (s.answered p n .tableRead .badArgument touch)) ∧
    (good → copy.length ≤ 8 → exec (.tableRead p n bank table record first last) s =
      .next (s.answered p n .tableRead (.done (tableReadFrame bank table record copy)) touch)) ∧
    (good → 8 < copy.length → ¬ s.port.drops p →
      ∃ rest, rest ≠ [] ∧ exec (.tableRead p n bank table record first last) s =
        .next (s.answering p n .tableRead (tableReadFrame bank table record (copy.take 8)) rest touch) ∧
        rest.length = (copy.length - 1) / 8 ∧
        (∀ k d, rest[k]? = some d →
          d = [bank, table, record, BitVec.ofNat 8 (min 8 (copy.length - 8 * (k + 1)))] ++
            ((copy.drop (8 * (k + 1))).take 8).flatMap FieldPair.bytes) ∧
        rest.flatMap (List.drop 4) = (copy.drop 8).flatMap FieldPair.bytes)

/-- R16, R17: BANK_COPY and BANK_RELEASE: refused, with no change, to a port while the other owns the shadow. BANK_COPY:
the shadow becomes a copy of the active bank, the port owns it and its timer starts afresh at 600 s. BANK_RELEASE: the
owner becomes NONE and its timer stops, the shadow's contents staying; with owner NONE already, DONE and no effect. -/
def Obligations.BankCopyAndRelease : Prop :=
  ∀ (p : PortId) (n : Half) (s : State), s.ready p →
    (s.store.owner = some (PortId.other p) →
      exec (.bankCopy p n) s = .next (s.answered p n .bankCopy (.refused .shadowOwned)) ∧
      exec (.bankRelease p n) s = .next (s.answered p n .bankRelease (.refused .shadowOwned))) ∧
    (s.store.owner ≠ some (PortId.other p) →
      exec (.bankCopy p n) s = .next (s.answered p n .bankCopy .done fun t =>
        { t with store := { t.store with shadow := s.store.active, owner := some p,
                                         ownerTimer := some (s.now + 600000) } })) ∧
    (s.store.owner = some p →
      exec (.bankRelease p n) s = .next (s.answered p n .bankRelease .done fun t =>
        { t with store := { t.store with owner := none, ownerTimer := none } })) ∧
    (s.store.owner = none → s.store.ownerTimer = none →
      exec (.bankRelease p n) s = .next (s.answered p n .bankRelease .done))

/-- R18: BANK_SWAP is refused with the first reason that holds; a refusal changes no bank and restarts an owner's
timer. -/
def Obligations.BankSwapRefused : Prop :=
  ∀ (p : PortId) (n : Half) (s : State) (a : Answer), s.ready p →
    (if s.store.owner = some (PortId.other p) then some (Answer.refused .shadowOwned)
     else if s.seq.state ≠ .reset ∧ s.seq.state ≠ .lockout then some (.refused .sequenceActive)
     else if s.poles.pole.toList.any (fun r => decide (r.mech ≠ .idle ∧ r.mech ≠ .failed)) then some (.refused .poleBusy)
     else if s.holds.close.isSome then some (.refused .closeInProgress)
     else if s.prot.elements.toList.any (fun e => decide (e.state ≠ .idle)) then some (.refused .elementActive)
     else if s.batt.test.isSome then some (.refused .testActive)
     else if s.store.inFlight.map ImageWrite.image = some .settings ∨ ImageId.settings ∈ s.store.waiting then
       some (.refused .storeBusy)
     else match validate s.store.shadow with
       | some (t, r, f) => some (.refused .shadowInvalid [BitVec.ofNat 8 t, BitVec.ofNat 8 r, BitVec.ofNat 8 f])
       | none => none) = some a →
    exec (.bankSwap p n) s = .next (s.answered p n .bankSwap a fun t =>
      if s.store.owner = some p then { t with store := { t.store with ownerTimer := some (s.now + 600000) } } else t)

/-- R19, R20: a BANK_SWAP that no condition of R18 refuses: the banks exchange, ownership is released, the live masks are
reloaded (R184: a mask enabled so while its input is active sets the input's flags and raises its event), the settings
image is written or pending, and the command stays EXECUTING, waiting for that write. R20: a changed capacity rescales
the coulomb count and sets ESTIMATED; a changed test interval sets the next test due time; the budget is lowered to a
lower ceiling; a changed period restarts the periodic timer. A selection pass follows (R138), then the masks' events, then
BANK_SWAPPED, by the new map. -/
def Obligations.BankSwapExchanges : Prop :=
  ∀ (p : PortId) (n : Half) (s : State), s.ready p →
    s.store.owner ≠ some (PortId.other p) → (s.seq.state = .reset ∨ s.seq.state = .lockout) →
    (∀ q, (s.poleRec q).mech = .idle ∨ (s.poleRec q).mech = .failed) → s.holds.close = none →
    (∀ x, (s.prot.elements.get x).state = .idle) → s.batt.test = none →
    s.store.inFlight.map ImageWrite.image ≠ some .settings → ImageId.settings ∉ s.store.waiting →
    validate s.store.shadow = none →
    ∃ t, exec (.bankSwap p n) s = .next t ∧
      t.store.active = s.store.shadow ∧ t.store.shadow = s.store.active ∧ t.store.owner = none ∧
      t.store.ownerTimer = none ∧ t.store.swapWaiter = some (s.nextRef p) ∧
      (s.store.inFlight = none → t.store.inFlight = some (.settings s.store.shadow)) ∧
      (s.store.inFlight ≠ none →
        t.store.inFlight = s.store.inFlight ∧ t.store.waiting = s.store.waiting ++ [.settings]) ∧
      t.line.masks = s.store.shadow.lineMasks ∧ t.line.filters = s.line.filters ∧
      t.cmd.ctx p = takenContext n .bankSwap s.cmd.nextSerial ∧
      (let old := s.store.active
       let new := s.store.shadow
       let on : MaskInput → Bool := fun i => !i.get s.line.masks && i.get new.lineMasks &&
         decide ((i.get s.line.filters.cabinet).accepted = .active)
       let taken : State := { s with
         store := { s.store with active := new }
         rep := { s.rep with
           budget := min s.rep.budget new.budgetCeiling
           periodicTimer := if old.periodicPeriod = new.periodicPeriod then s.rep.periodicTimer
             else if new.periodicPeriod = 0 then none else some (s.now + new.periodicPeriod) } }
       let passed := if s.rep.tx = .idle ∨ s.rep.tx = .waitBudget then selectionPass taken else taken
       let events : List EventKind := [(MaskInput.door, EventKind.doorOpen), (.acPresent, .acRestored),
         (.crewPresent, .crewAttached)].filterMap fun x => if on x.1 then some x.2 else none
       t.batt = { s.batt with
         coulomb := if old.capacity = new.capacity then s.batt.coulomb
           else s.batt.coulomb * new.fullCount / old.fullCount
         estimated := s.batt.estimated || decide (old.capacity ≠ new.capacity)
         nextDue := if old.testInterval = new.testInterval then s.batt.nextDue
           else if new.testInterval = 0 then none else some (s.now + new.testInterval) } ∧
       t.rep = (raise .bankSwapped [if p = .radio then 0 else 1]
         (events.foldl (fun u k => raise k [] u) passed)).rep ∧
       (∀ i, i.get t.line.radioFlags = (i.get s.line.radioFlags || on i) ∧
         i.get t.line.crewFlags = (i.get s.line.crewFlags || on i))) ∧
      t.seq = s.seq ∧ t.prot = s.prot ∧ t.poles = s.poles ∧ t.holds.slots = s.holds.slots ∧
      t.holds.lever = s.holds.lever ∧ t.time = s.time

/-- R22, R19: STORE_WRITE_COMPLETE: the image in flight passes and holds what was captured; a waiting BANK_SWAP is
answered, as is each hold command whose write this was: its context is IDLE. The write at the head of the pending list
starts, capturing its contents now. With nothing in flight nothing changes (log 31). -/
def Obligations.StoreWriteCompletes : Prop :=
  ∀ s : State, s.powered = true →
    (s.store.inFlight = none → exec .storeWriteComplete s = .next s) ∧
    (∀ w, s.store.inFlight = some w → ∃ t, exec .storeWriteComplete s = .next t ∧
      (∀ b, w = .settings b → t.store.swapWaiter = none ∧
        (ImageId.settings ∉ s.store.waiting.head? → t.store.nv.settings = some b)) ∧
      (∀ v, w = .hold v → ImageId.hold ∉ s.store.waiting.head? → t.store.nv.hold = some v) ∧
      (s.store.waiting = [] → t.store.inFlight = none ∧ t.store.waiting = []) ∧
      (∀ rest, s.store.waiting = .settings :: rest →
        t.store.inFlight = some (.settings s.store.active) ∧ t.store.nv.settings = none ∧ t.store.waiting = rest) ∧
      (∀ rest, s.store.waiting = .hold :: rest →
        t.store.inFlight = some (.hold s.holds.slots) ∧ t.store.nv.hold = none ∧ t.store.waiting = rest) ∧
      (∀ b r e, w = .settings b → s.store.swapWaiter = some r → s.holding r = some e → t.cmd.ctx r.port = .idle) ∧
      (∀ v, w = .hold v → ∀ x ∈ s.holds.waiters, x.covered = true → ∀ e, s.holding x.cmd = some e →
        t.cmd.ctx x.cmd.port = .idle) ∧
      t.store.active = s.store.active ∧ t.store.shadow = s.store.shadow ∧ t.holds.slots = s.holds.slots ∧
      t.holds.lever = s.holds.lever ∧ t.seq = s.seq ∧ t.prot = s.prot ∧ t.poles = s.poles ∧ t.batt = s.batt ∧
      t.rep = s.rep ∧ t.line = s.line ∧ t.time = s.time)

/-! ## Measurement and protection elements (02) -/

/-- R31, R34: the one step of an active element, by its state and the band of the magnitude; integration adds 2^31 over
the scaled time, taken as at least 2 ms, chopped; at 2^30 the element is OPERATED with cause TIME. The scaled time is
the curve time at the multiple m × 100 ÷ p, times the multiplier, ÷ 100, each division chopped (R33, R34). -/
def Obligations.ElementStepByBand : Prop :=
  (∀ (b : Bank) (c : CurveInForce) (p m : Nat) (e : Element),
    let stays : Stepped := { element := e, clamped := false }
    let multiple := m * 100 / p
    let integrates := e.integrate (curveTime (b.curvePoints c.curve) multiple * c.multiplier / 100)
    let decays := e.decay (b.resetTime c.curve)
    (p ≤ m → e.step b c p m = if e.state = .operated then stays else integrates) ∧
    (p * 95 / 100 ≤ m → m < p →
      e.step b c p m = if e.state = .resetting then decays else stays) ∧
    (m < p * 95 / 100 → m < p →
      e.step b c p m = if e.state = .timing ∨ e.state = .resetting then decays else stays)) ∧
  (∀ (e : Element) (t : Nat),
    let u := if t < 2 then 2 else t
    let sum := e.acc + 2 ^ 31 / u
    ((e.integrate t).clamped = true ↔ t < 2) ∧
    (2 ^ 30 ≤ sum → (e.integrate t).element = { e with state := .operated, acc := 2 ^ 30, byTime := true }) ∧
    (sum < 2 ^ 30 → (e.integrate t).element = { e with state := .timing, acc := sum }))

/-- R35: decay: the accumulator falls by 2^31 over the reset time, chopped, and stops at 0; by a reset time of 0 it goes
to 0 at once; at 0 the element is IDLE; no exception is recorded. The default reset time is 1,000 ms, by which a full
accumulator empties in 501 frames. -/
def Obligations.DecayLowersAccumulator : Prop :=
  ∀ (e : Element) (r : Nat),
    let left := if r = 0 then 0 else e.acc - 2 ^ 31 / r
    (e.decay r).element.acc = left ∧ (e.decay r).element.state = (if left = 0 then .idle else .resetting) ∧
    (e.decay r).element.byTime = e.byTime ∧ (e.decay r).element.byHighSet = e.byHighSet ∧
    (e.decay r).clamped = false ∧
    (r = 1000 → 2 ^ 31 / r = 2147483 ∧ 500 * (2 ^ 31 / r) < 2 ^ 30 ∧ 2 ^ 30 ≤ 501 * (2 ^ 31 / r)) ∧
    (∀ c, c < 8 → defaultBank.resetTime c = 1000)

/-- R33: the curve time: the first point's time up to its multiple, the last point's from its multiple on, and between
two neighbouring points the chopped straight line, with its product formed before the division. -/
def Obligations.CurveTimeInterpolates : Prop :=
  ∀ (points : List (Nat × Nat)) (m : Nat),
    (∀ i (h : i + 1 < points.length), points[i].1 < points[i + 1].1) →
    (∀ i (h : i + 1 < points.length), points[i + 1].2 ≤ points[i].2) →
    (∀ x rest, points = x :: rest → m ≤ x.1 → curveTime points m = x.2) ∧
    (∀ front x, points = front ++ [x] → x.1 ≤ m → curveTime points m = x.2) ∧
    (∀ front x y back, points = front ++ x :: y :: back → x.1 ≤ m → m ≤ y.1 →
      curveTime points m = y.2 + (x.2 - y.2) * (y.1 - m) / (y.1 - x.1))

/-- R24 to R28: an accepted MEASURE frame restores the link and its timer, keeps its number, counts a gap unless the
number follows the kept one, and replaces the latest measurement record whole by the evaluated values (a VALID
current above the range kept as OVERRANGE, log 14). It changes neither the settings nor the time nor the hold table. -/
def Obligations.MeasureUpdatesRecordAndLink : Prop :=
  ∀ (n : Half) (cur : PerChannel Sample) (vol : PerPole Sample) (s : State), s.powered = true →
    let current : Sample → Reading := fun x => match x.mark with
      | .valid => if x.value.toNat ≤ 32767 then ⟨x.value.toNat, .valid⟩ else ⟨32767, .overrange⟩
      | .overrange => ⟨32767, .overrange⟩
      | .invalid => ⟨0, .invalid⟩
    let voltage : Sample → Reading := fun x => match x.mark with
      | .valid => ⟨if x.value.toNat ≤ 4095 then x.value.toNat else 4095, .valid⟩
      | .overrange => ⟨4095, .overrange⟩
      | .invalid => ⟨0, .invalid⟩
    ∃ t, exec (.measure n cur vol) s = .next t ∧
      t.prot.linkUp = true ∧ t.prot.linkTimer = some (s.now + s.store.active.linkTimeout) ∧
      t.prot.keptNumber = some n ∧
      t.prot.latest = { number := n, tag := s.time.timeTag, currents := cur.map current, voltages := vol.map voltage } ∧
      t.port.gaps = (match s.prot.keptNumber with
        | some k => if n = k + 1 then s.port.gaps else satInc s.port.gaps
        | none => s.port.gaps) ∧
      t.port.accepted = { s.port.accepted with tank := satInc s.port.accepted.tank } ∧
      t.port.discarded = s.port.discarded ∧ t.store = s.store ∧ t.time = s.time ∧ t.holds.slots = s.holds.slots ∧
      t.holds.lever = s.holds.lever

/-- R30 to R40 and R47 to R51, R56, R58, R59, R62, R64 to R66, R72, R76: a MEASURE frame steps each element by the curve
in force and each high-set counter (log 13, 38) and follows the episode. A frame in which no element becomes OPERATED
leaves each element as its own step left it and reaches neither the sequence nor the poles; one in which an element leaves
IDLE ends a running test. A frame in which an element becomes OPERATED signals the sequence: by its state the poles to
trip are chosen and ordered, TRIPPING is entered (LOCKOUT stays), and the fault record is started, or takes the signal.
Said where some order does not complete at once; an order on a pole at rest that reads OPEN does, and releases the
OPERATED elements. A chosen pole with an operator trip outstanding is then tracked as ordered for the fault (log 16,
DEDUCED). In DEAD_TIME with every pole so at rest the signal ends in LOCKOUT (EVOLVING) in the same step. R41,
R42: every frame leaves the last of its trapped exceptions in the exception record, or the record as it was, and LATEST by
whether there was one. R28, R37, R43: a frame with no operation signal that ends no test raises LINK_RESTORED, PICKUP
(log 42: 0 for a channel with no magnitude), and SAMPLE_EXCEPTION where LATEST rises, in that order (log 15), and nothing
else. -/
def Obligations.MeasureStepsElements : Prop :=
  (∀ (b : Bank) (n : Nat) (profile : Bool) (x : Evaluated) (e : Element) (count : Nat),
    let phase : CurveInForce := if profile then ⟨b.holdCurve, b.holdMultiplier⟩
      else ⟨b.phaseCurve n, b.phaseMultiplier n⟩
    let ground : CurveInForce := if profile then ⟨b.holdCurve, b.holdMultiplier⟩
      else ⟨b.groundCurve n, b.groundMultiplier n⟩
    let stepped : CurveInForce → Nat → Stepped := fun c p => match x.magnitude with
      | some m => e.step b c p m
      | none => ⟨e, false⟩
    let enabled := profile || b.highSetEnable n
    let run : Nat × Bool := match x.magnitude with
      | none => (count, false)
      | some m =>
        if enabled = false then (0, false)
        else if e.state = .operated then (count, false)
        else if m < 2 * b.highSetThreshold then (0, false)
        else if b.highSetCount ≤ count + 1 then (0, true)
        else (count + 1, false)
    let own := stepped phase (2 * b.phasePickup)
    phaseStep b n profile x e count =
      { element := if run.2 then { own.element with state := .operated, byHighSet := true } else own.element,
        count := run.1, clamped := own.clamped } ∧
    groundStep b n profile x e = if b.groundEnable then stepped ground (2 * b.groundPickup) else ⟨e, false⟩) ∧
  ∀ (n : Half) (cur : PerChannel Sample) (vol : PerPole Sample) (s : State), s.powered = true →
    let b := s.store.active
    let profile := s.holds.profileInForce
    let value : Sample → Evaluated := fun x => evaluateCurrent b.trapInvalid x
    let a := phaseStep b s.seq.shot profile (value cur.a) s.prot.elements.a s.prot.highSet.a
    let bb := phaseStep b s.seq.shot profile (value cur.b) s.prot.elements.b s.prot.highSet.b
    let c := phaseStep b s.seq.shot profile (value cur.c) s.prot.elements.c s.prot.highSet.c
    let g := groundStep b s.seq.shot profile (value cur.g) s.prot.elements.g
    let after : PerChannel Element := ⟨a.element, bb.element, c.element, g.element⟩
    let amounts : PerChannel Nat := ⟨(value cur.a).magnitude.getD 0, (value cur.b).magnitude.getD 0,
      (value cur.c).magnitude.getD 0, (value cur.g).magnitude.getD 0⟩
    let resting : PerChannel Element → Bool := fun l => l.toList.all fun e => decide (e.state = .idle)
    let episode : Option Episode := if resting after then none
      else if resting s.prot.elements then some { instant := s.now, tag := s.time.timeTag, maxima := amounts }
      else s.prot.episode.map fun ep => { ep with maxima := ep.maxima.zip max amounts }
    let found : Channel → Sample → Bool → List (ExceptionKind × Channel) := fun y x clamped =>
      (if b.trapInvalid = true ∧ x.mark = .invalid then [(.invalidSample, y)] else []) ++
      (if b.trapOverrange = true ∧ (x.mark = .overrange ∨ x.mark = .valid ∧ 32767 < x.value.toNat) then
        [(.overrange, y)] else []) ++
      (if b.trapTimeClamp = true ∧ clamped = true then [(.timeClamp, y)] else [])
    let trapped := found .a cur.a a.clamped ++ found .b cur.b bb.clamped ++ found .c cur.c c.clamped ++
      (if b.groundEnable then found .g cur.g g.clamped else [])
    let left : Channel → Bool := fun y => decide ((s.prot.elements.get y).state = .idle ∧ (after.get y).state ≠ .idle)
    (∃ t, exec (.measure n cur vol) s = .next t ∧
      t.prot.latestFlag = !trapped.isEmpty ∧
      t.prot.exception = (match trapped.getLast? with
        | some x => some { kind := x.1, channel := x.2, number := n, tag := s.time.timeTag }
        | none => s.prot.exception)) ∧
    ((∀ x, (after.get x).state = .operated → (s.prot.elements.get x).state = .operated) →
      (s.batt.test = none ∨ ∀ x, left x = false) →
      ∃ t, exec (.measure n cur vol) s = .next t ∧
        (let restored := if s.prot.linkUp then s else raise .linkRestored (be16 n) s
         let opened := if resting s.prot.elements = true ∧ resting after = false then
             raise .pickup ([bits [left .a, left .b, left .c, left .g]] ++ be16 n ++ amounts.toList.flatMap u16) restored
           else restored
         t.rep = match trapped.getLast? with
           | some x => if s.prot.latestFlag then opened.rep else
             (raise .sampleException ([BitVec.ofNat 8 (placeIn [ExceptionKind.invalidSample, .overrange, .timeClamp]
                (some x.1)), BitVec.ofNat 8 (placeIn [Channel.a, .b, .c, .g] (some x.2))] ++ be16 n ++
                be32 s.time.timeTag) opened).rep
           | none => opened.rep)) ∧
    ((∀ x, (after.get x).state = .operated → (s.prot.elements.get x).state = .operated) →
      ∃ t, exec (.measure n cur vol) s = .next t ∧
        t.prot.elements = after ∧ t.prot.highSet = ⟨a.count, bb.count, c.count⟩ ∧ t.prot.episode = episode ∧
        t.seq = s.seq ∧ t.poles = s.poles ∧ t.holds = s.holds ∧
        ((∃ x, (s.prot.elements.get x).state = .idle ∧ (after.get x).state ≠ .idle) → t.batt.test = none) ∧
        ((∀ x, (s.prot.elements.get x).state = .idle → (after.get x).state = .idle) → t.batt = s.batt)) ∧
    (let q := s.seq
     let became : Channel → Bool := fun x =>
       decide ((s.prot.elements.get x).state ≠ .operated) && decide ((after.get x).state = .operated)
     let op : ElementSet :=
       { time := ⟨became .a && a.element.byTime, became .b && bb.element.byTime, became .c && c.element.byTime,
           became .g && g.element.byTime⟩,
         highSet := ⟨became .a && a.element.byHighSet, became .b && bb.element.byHighSet,
           became .c && c.element.byHighSet⟩ }
     let phases : PoleMask := ⟨op.time.a || op.highSet.a, op.time.b || op.highSet.b, op.time.c || op.highSet.c⟩
     let single := op.time.g = false ∧ phases ∈ ([⟨true, false, false⟩, ⟨false, true, false⟩, ⟨false, false, true⟩] :
       List PoleMask)
     let out : PoleMask := q.ctx.tripsOut.map Option.isSome
     let closed : PoleMask := s.poles.pole.zip (fun r closing => decide (r.position ≠ .opened) || closing) q.ctx.closesOut
     let begins : Prop := q.state = .reset ∨ q.state = .closing ∨ q.state = .reclaim
     let shot := if q.state = .reset then 1
       else if q.state = .closing then (if q.afterClose then 1 else q.shot + 1) else q.shot
     let chosen : PoleMask :=
       if begins then (if b.threePole shot = false ∧ single then phases else closed)
       else if q.state = .deadTime then out.map (!·)
       else if q.state = .tripping then (closed.diff out).diff q.ctx.failed
       else closed.diff out
     let mask : PoleMask := if chosen.isEmpty && out.isEmpty then ⟨true, true, true⟩ else chosen
     let onto : Option EndCause := if q.afterClose = true ∧ b.closeOntoFaultLockout = true then some .closeOntoFault
       else none
     let atOnce : Pole → Prop := fun p => mask.get p = true ∧ (s.poleRec p).openAtRest
     let quiet : Prop := ∀ p, ¬ atOnce p
     ((∃ x, became x = true) → (∃ p, mask.get p = true ∧ ¬ (s.poleRec p).openAtRest) →
     ∃ t, exec (.measure n cur vol) s = .next t ∧
       (quiet → t.prot.elements = after ∧ t.prot.highSet = ⟨a.count, bb.count, c.count⟩ ∧ t.prot.episode = episode) ∧
       (¬ quiet → ∀ x, t.prot.elements.get x = if (after.get x).state = .operated then
         { state := .idle, acc := 0, byTime := false, byHighSet := false } else after.get x) ∧
       t.seq.state = (if q.state = .lockout then .lockout else .tripping) ∧ t.seq.shot = shot ∧
       (quiet ∨ q.state ≠ .lockout → t.seq.cause = q.cause) ∧ t.seq.afterClose = (q.afterClose && !decide begins) ∧
       t.seq.deadTimer = (if q.state = .deadTime then none else q.deadTimer) ∧
       t.seq.reclaimTimer = (if begins then none else q.reclaimTimer) ∧
       t.seq.ctx.elements = (if begins then op else q.ctx.elements.union op) ∧
       t.seq.ctx.pickup = (if begins then episode.map Episode.instant else q.ctx.pickup) ∧
       t.seq.ctx.ordered = (if begins then mask else q.ctx.ordered.union mask) ∧
       t.seq.ctx.endCause = (if q.state = .reset then none
         else if q.state = .closing ∨ q.state = .reclaim then onto
         else if q.state = .deadTime then some .evolving else q.ctx.endCause) ∧
       (∀ p, (atOnce p → t.seq.ctx.tripsOut.get p = none ∧ t.seq.ctx.reclose.get p = true ∧
           t.poleRec p = { s.poleRec p with last := some .success }) ∧
         (¬ atOnce p → t.seq.ctx.tripsOut.get p = (if mask.get p then some .fault else q.ctx.tripsOut.get p) ∧
           t.seq.ctx.reclose.get p = (!decide begins && q.ctx.reclose.get p))) ∧
       (let starts := q.state = .reset ∨ (q.state = .closing ∧ q.afterClose = true) ∨
          (q.state = .reclaim ∧ q.openRecord = none)
        (starts → t.seq.openRecord = some q.nextRecord ∧
          t.seq.nextRecord = (if q.nextRecord = 65535 then 1 else q.nextRecord + 1) ∧
          (quiet ∨ (∀ x ∈ q.faults, x.number ≠ q.nextRecord) →
            t.seq.faults = (if q.faults.length < 8 then q.faults else q.faults.drop 1) ++
            [{ number := q.nextRecord, startTag := (episode.map Episode.tag).getD s.time.timeTag, shots := shot,
               maxima := (episode.map Episode.maxima).getD ⟨0, 0, 0, 0⟩, elements := op,
               lastMask := ⟨false, false, false⟩, clearing := 0, outcome := none, cause := none }])) ∧
        (¬ starts → t.seq.openRecord = q.openRecord ∧ t.seq.nextRecord = q.nextRecord ∧
          (q.state = .lockout → (quiet ∨ q.openRecord = none) → t.seq.faults = q.faults) ∧
          (q.state ≠ .lockout → t.seq.faults = q.faults.map fun r =>
            if q.openRecord = some r.number then
              { r with elements := r.elements.union op,
                       maxima := (episode.map fun ep => r.maxima.zip max ep.maxima).getD r.maxima }
            else r))) ∧
       (∀ p, mask.get p = true → ¬ atOnce p → ((s.poleRec p).mech = .idle ∨ (s.poleRec p).mech = .failed) →
         t.poleRec p = (s.poleRec p).tripBegun b s.now) ∧
       (∀ p, mask.get p = true → ((s.poleRec p).mech = .closePulse ∨ (s.poleRec p).mech = .closeWait) →
         t.poleRec p = { (s.poleRec p).tripBegun b s.now with
           last := some .aborted, heldOpen := decide ((s.poleRec p).position = .opened) }) ∧
       (∀ p, (mask.get p = false ∨ (s.poleRec p).tripping) → t.poleRec p = s.poleRec p) ∧
       ((∃ p, mask.get p = true) → t.batt.test = none) ∧
       (∀ r, s.holds.close = some r → r.phase = .warning → t.holds.close = none) ∧
       t.holds.slots = s.holds.slots ∧ t.holds.lever = s.holds.lever ∧ t.seq.userFlags = q.userFlags ∧
       t.seq.lamp = q.lamp ∧ t.store = s.store ∧ t.time = s.time) ∧
     ((∃ x, became x = true) → q.state = .deadTime → (∀ p, (s.poleRec p).openAtRest) → out.isEmpty = true →
       q.ctx.closesOut.isEmpty = true → q.ctx.failed.isEmpty = true → q.ctx.closeFailed = false →
       ∃ t, exec (.measure n cur vol) s = .next t ∧ t.seq.state = .lockout ∧ t.seq.cause = .evolving ∧
         t.seq.shot = 1 ∧ t.seq.deadTimer = none ∧ t.seq.openRecord = none ∧ t.seq.lamp = true ∧
         (∀ p, t.poleRec p = { s.poleRec p with last := some .success }) ∧
         (∀ x, (t.prot.elements.get x).state ≠ .operated)))

/-- R27: the expiry of the link timer loses the link: every element at rest, every counter 0, the episode ended, the
kept number discarded, LATEST cleared, and LINK_LOST raised with the last accepted frame's number. Nothing else. -/
def Obligations.LinkTimerLosesLink : Prop :=
  ∀ s : State, s.expires s.prot.linkTimer → ∃ q : Protection,
    exec .linkTimerExpiry s = .next (raise .linkLost (be16 s.prot.latest.number) { s with prot := q }) ∧
    q.linkUp = false ∧ q.linkTimer = none ∧ q.keptNumber = none ∧ q.episode = none ∧ q.latestFlag = false ∧
    (∀ x, q.elements.get x = { state := .idle, acc := 0, byTime := false, byHighSet := false }) ∧
    q.highSet = ⟨0, 0, 0⟩ ∧ q.latest = s.prot.latest ∧ q.exception = s.prot.exception

/-- R44, R123, R176, R178: the reads that answer at once: EXCEPTION_READ its record, EVENTS_READ the port's own event
flags (which it clears), STATUS and BATTERY_READ two frames built from one copy of the state (log 21 for what is absent).
They change nothing else but the count of free values. R123, R164, R176, R177: each byte of those four frames, by the
layouts of 08; that STATUS sends no charger state, which R109 says it reads, is the model's choice (log 43). -/
def Obligations.ReadsAnswerAtOnce : Prop :=
  (∀ (p : PortId) (n : Half) (s : State), s.ready p →
    (∀ e, s.prot.exception = some e →
      exec (.exceptionRead p n) s = .next (s.answered p n .exceptionRead
        (.done ([1, ExceptionKind.code e.kind, Channel.code e.channel] ++ be16 e.number ++ be32 e.tag ++
          [if s.prot.latestFlag then 1 else 0])))) ∧
    (s.prot.exception = none → s.prot.latestFlag = false →
      exec (.exceptionRead p n) s = .next (s.answered p n .exceptionRead (.done (List.replicate 10 0)))) ∧
    (p = .radio → exec (.eventsRead p n) s = .next (s.answered p n .eventsRead
      (.done [eventFlagByte s.line.radioFlags]) fun t => { t with line := { t.line with radioFlags := .all false } })) ∧
    (p = .crew → exec (.eventsRead p n) s = .next (s.answered p n .eventsRead
      (.done [eventFlagByte s.line.crewFlags]) fun t => { t with line := { t.line with crewFlags := .all false } })) ∧
    exec (.status p n) s = .next (s.answeredTwice p n .status
      (statusFirst (s.admitted p n .status)) (statusSecond (s.admitted p n .status))) ∧
    exec (.batteryRead p n) s =
      .next ((s.answeredTwice p n .batteryRead (batteryFirst s) (batterySecond s)).spend 17)) ∧
  ∀ s : State,
    let b := s.batt
    let charge := b.coulomb * 100 / s.store.active.fullCount
    let level := placeIn [SupplyLevel.normal, .low, .critical, .shutdownPending] (some b.level)
    let yes : Bool → Nat := fun x => if x then 1 else 0
    (let d := statusFirst s
     let e := s.prot.elements
     let element : Element → Nat := fun x => placeIn [ElementState.idle, .timing, .resetting, .operated] (some x.state)
     let pole : PoleRecord → Nat := fun r =>
       placeIn [Position.opened, .closed, .unknown] (some r.position) * 64 + yes r.failed * 32 +
         placeIn [Mech.idle, .tripPulse, .tripWait, .tripRetry, .closePulse, .closeWait, .failed] (some r.mech)
     let counts := [s.port.accepted.tank.toNat, s.port.discarded.tank.toNat, s.port.accepted.radio.toNat,
       s.port.discarded.radio.toNat, s.port.accepted.crew.toNat, s.port.discarded.crew.toNat, s.port.gaps.toNat]
     d.length = 36 ∧
     numberAt d 0 1 = placeIn [SeqState.reset, .tripping, .deadTime, .closing, .reclaim, .lockout] (some s.seq.state) ∧
     numberAt d 1 1 = placeIn [LockoutCause.lastShot, .gate, .hold, .evolving, .mechFail, .operator, .closeOntoFault,
       .supply, .start, .handle, .poleFailed, .poleBusy, .positionUnknown, .linkLost, .supplyCritical, .shutdown,
       .energyLow] (if s.seq.state = .lockout then some s.seq.cause else none) ∧
     numberAt d 2 1 = fitted 1 s.seq.shot ∧
     numberAt d 3 1 = setNumber [s.seq.userFlags.f0, s.seq.userFlags.f1, s.seq.userFlags.f2, s.seq.userFlags.f3] ∧
     numberAt d 4 1 = placeIn [none, some PortId.radio, some .crew] (some s.store.owner) ∧
     numberAt d 5 1 = yes (!s.prot.linkUp) ∧ numberAt d 6 1 = level ∧
     numberAt d 7 1 = s.holds.table.length + 64 * yes s.holds.close.isSome +
       128 * yes (s.holds.table.any fun x => x.2.profile) ∧
     numberAt d 8 1 = element e.a + 4 * element e.b + 16 * element e.c + 64 * element e.g ∧
     (List.range 3).map (fun i => numberAt d (9 + i) 1) = s.poles.pole.toList.map pole ∧
     (List.range 3).map (fun i => numberAt d (12 + i) 1) = s.poles.pole.toList.map (fun r =>
       placeIn [OpOutcome.success, .retriedSuccess, .failed, .aborted] r.last) ∧
     numberAt d 15 2 = fitted 2 s.poles.storeVoltage ∧ numberAt d 17 1 = fitted 1 s.rep.queue.length ∧
     numberAt d 18 1 = placeIn [TxState.idle, .waitBudget, .awaitAck, .holdoff, .disabled] (some s.rep.tx) ∧
     numberAt d 19 2 = fitted 2 s.rep.budget ∧
     (List.range 7).map (fun i => numberAt d (21 + 2 * i) 2) = counts.map (fitted 2) ∧
     numberAt d 35 1 = setNumber (counts.map fun x => decide (65536 ≤ x))) ∧
    (let d := statusSecond s
     let m := s.prot.latest
     let mark : Reading → Nat := fun r => placeIn [Mark.valid, .overrange, .invalid] (some r.mark)
     d.length = 38 ∧
     (List.range 3).map (fun i => numberAt d (4 * i) 4) = s.poles.pole.toList.map (fun r => r.ops.toNat) ∧
     numberAt d 12 2 = m.number.toNat ∧ numberAt d 14 4 = m.tag.toNat ∧
     (List.range 4).map (fun i => numberAt d (18 + 2 * i) 2) = m.currents.toList.map (fun r => fitted 2 r.value) ∧
     numberAt d 26 1 = 64 * mark m.currents.a + 16 * mark m.currents.b + 4 * mark m.currents.c + mark m.currents.g ∧
     (List.range 3).map (fun i => numberAt d (27 + 2 * i) 2) = m.voltages.toList.map (fun r => fitted 2 r.value) ∧
     numberAt d 33 1 = 64 * mark m.voltages.a + 16 * mark m.voltages.b + 4 * mark m.voltages.c ∧
     numberAt d 34 2 = fitted 2 b.voltage ∧ numberAt d 36 1 = fitted 1 charge ∧ numberAt d 37 1 = yes b.estimated) ∧
    (let d := batteryFirst s
     d.length = 31 ∧
     numberAt d 0 2 = fitted 2 b.voltage ∧ (numberAt d 2 2 : Int) = b.current % 65536 ∧
     numberAt d 4 2 = fitted 2 s.poles.storeVoltage ∧ (numberAt d 6 1 : Int) = b.temperature % 256 ∧
     numberAt d 7 1 = yes b.readingTaken ∧
     numberAt d 8 1 = placeIn [InputLevel.active, .inactive, .notYet] (some b.ac) ∧
     numberAt d 9 1 = placeIn [ChargerState.off, .bulk, .absorb, .float, .test, .fault] (some b.charger) ∧
     numberAt d 10 1 = placeIn [FaultCondition.temperatureLow, .temperatureHigh, .overvoltage] b.pendingFault ∧
     numberAt d 11 4 = fitted 4 b.coulomb ∧ numberAt d 15 4 = fitted 4 s.store.active.fullCount ∧
     numberAt d 19 1 = fitted 1 charge ∧ numberAt d 20 1 = yes b.estimated ∧ numberAt d 21 1 = level ∧
     numberAt d 22 1 = placeIn [ShutdownState.none, .waiting, .asserted] (some b.shutdown) ∧
     (b.test = none → numberAt d 23 1 = 0 ∧ numberAt d 24 1 = 255) ∧
     (∀ x, b.test = some x → numberAt d 23 1 = 1 ∧ numberAt d 24 1 = x.origin.number ∧
       numberAt d 25 2 = fitted 2 x.startVoltage ∧ numberAt d 27 2 = fitted 2 x.minVoltage ∧
       numberAt d 29 2 = fitted 2 ((x.timer.map fun e => e - s.now).getD 0))) ∧
    (let d := batterySecond s
     d.length = 20 ∧
     (b.lastTest = none → numberAt d 0 1 = 0 ∧ numberAt d 11 3 = 16777215) ∧
     (∀ r, b.lastTest = some r → numberAt d 0 1 = 1 ∧ numberAt d 1 4 = r.startTag.toNat ∧
       numberAt d 5 2 = fitted 2 r.startVoltage ∧ numberAt d 7 2 = fitted 2 r.minVoltage ∧
       numberAt d 9 2 = fitted 2 r.drop ∧
       numberAt d 11 1 = placeIn [TestGrade.pass, .weak, .fail, .aborted] (some r.grade) ∧
       numberAt d 12 1 = placeIn [TestCause.element, .trip, .close, .lowVoltage, .acLost, .abort] r.cause ∧
       numberAt d 13 1 = r.origin.number) ∧
     numberAt d 14 4 = (b.nextDue.map fun e => fitted 4 ((e - s.now) / 60000)).getD 4294967295 ∧
     numberAt d 18 1 = yes b.retryWait.isSome ∧
     (∀ e, b.retryWait = some e → numberAt d 19 1 = fitted 1 ((e - s.now) / 60000)))

/-! ## The operating sequence (03) -/

/-- R54: FLAGS: a bad action changes no flag; otherwise each flag is changed by its action and the answer carries the
flags as they then stand. -/
def Obligations.FlagsChangeUserFlags : Prop :=
  ∀ (p : PortId) (n : Half) (a : PerFlag Byte) (s : State), s.ready p →
    let act : Byte → Bool → Bool := fun code old =>
      match code.toNat with
      | 0 => old
      | 1 => true
      | 2 => false
      | _ => !old
    let f := s.seq.userFlags
    let new : PerFlag Bool := ⟨act a.f0 f.f0, act a.f1 f.f1, act a.f2 f.f2, act a.f3 f.f3⟩
    (a.f0.toNat ≤ 3 ∧ a.f1.toNat ≤ 3 ∧ a.f2.toNat ≤ 3 ∧ a.f3.toNat ≤ 3 →
      exec (.flags p n a) s = .next (s.answered p n .flags (.done [userFlagByte new]) fun t =>
        { t with seq := { t.seq with userFlags := new } })) ∧
    (3 < a.f0.toNat ∨ 3 < a.f1.toNat ∨ 3 < a.f2.toNat ∨ 3 < a.f3.toNat →
      exec (.flags p n a) s = .next (s.answered p n .flags .badArgument))

/-- R67, R98, R170: the reads that answer in frames. FAULT_READ: the records chosen by number or newest first, one a
frame, oldest first; a frame with no record when none is chosen; a bad mode, number or count is a bad argument.
HOLD_LIST: the copy's summary (log 21 where there is no close record) and up to four holds in the first frame, the
rest in the next. They read only, but for the count of free values. R66, R98, R164: each byte of a fault record, of the
summary (byte 0 alone where there is no close record) and of a hold, by the layouts of 08. -/
def Obligations.ReadsAnswerInFrames : Prop :=
  (∀ (p : PortId) (n : Half) (s : State), s.ready p →
    (∀ (mode : Byte) (v : Half),
      let good := (mode.toNat = 0 ∧ v ≠ 0) ∨ (mode.toNat = 1 ∧ v ≠ 0 ∧ v.toNat ≤ 8)
      let chosen := if mode.toNat = 0 then s.seq.faults.filter fun r => r.number = v
        else s.seq.faults.drop (s.seq.faults.length - v.toNat)
      (¬ good → exec (.faultRead p n mode v) s = .next (s.answered p n .faultRead .badArgument)) ∧
      (good → chosen = [] → exec (.faultRead p n mode v) s = .next (s.answered p n .faultRead (.done []))) ∧
      (good → ∀ r, chosen = [r] →
        exec (.faultRead p n mode v) s = .next (s.answered p n .faultRead (.done (faultRecordBytes r)))) ∧
      (good → ∀ r q rest, chosen = r :: q :: rest → ¬ s.port.drops p →
        exec (.faultRead p n mode v) s =
          .next (s.answering p n .faultRead (faultRecordBytes r) ((q :: rest).map faultRecordBytes)))) ∧
    (let holds := s.holds.table
     let first := holdListSummary s.freeCount s.now s.holds ++ (holds.take 4).flatMap holdBytes
     (holds.length ≤ 4 → exec (.holdList p n) s = .next ((s.answered p n .holdList (.done first)).spend 3)) ∧
     (4 < holds.length → ¬ s.port.drops p → exec (.holdList p n) s =
       .next ((s.answering p n .holdList first [(holds.drop 4).flatMap holdBytes]).spend 3)))) ∧
  (∀ r : FaultRecord,
    let d := faultRecordBytes r
    d.length = 22 ∧ numberAt d 0 2 = r.number.toNat ∧ numberAt d 2 4 = r.startTag.toNat ∧
    numberAt d 6 1 = fitted 1 r.shots ∧
    (List.range 4).map (fun i => numberAt d (7 + 2 * i) 2) = r.maxima.toList.map (fitted 2) ∧
    numberAt d 15 1 = setNumber [r.elements.time.a, r.elements.time.b, r.elements.time.c, r.elements.time.g,
      r.elements.highSet.a, r.elements.highSet.b, r.elements.highSet.c] ∧
    numberAt d 16 1 = setNumber [r.lastMask.a, r.lastMask.b, r.lastMask.c] ∧
    numberAt d 17 2 = fitted 2 r.clearing ∧ numberAt d 19 1 = (if r.clearing < 65536 then 0 else 1) ∧
    numberAt d 20 1 = placeIn [FaultOutcome.reclosedOk, .lockout, .tripFailed] r.outcome ∧
    numberAt d 21 1 = placeIn [LockoutCause.lastShot, .gate, .hold, .evolving, .mechFail, .operator, .closeOntoFault,
      .supply, .start, .handle, .poleFailed, .poleBusy, .positionUnknown, .linkLost, .supplyCritical, .shutdown,
      .energyLow] r.cause) ∧
  (∀ (k now : Nat) (h : HoldUnit),
    let d := holdListSummary k now h
    d.length = 4 ∧
    numberAt d 0 1 = h.table.length + (if h.close.isSome then 64 else 0) +
      (if h.table.any fun x => x.2.profile then 128 else 0) ∧
    (∀ r, h.close = some r →
      numberAt d 1 1 = setNumber [r.mask.a, r.mask.b, r.mask.c] + (if r.cmd.port = .crew then 16 else 0) +
        (if r.phase = .pulsing then 32 else 0) ∧
      numberAt d 2 2 = (if r.phase = .pulsing then 0 else fitted 2 (r.warningEnd - now)))) ∧
  (∀ x : Nat × Hold,
    let d := holdBytes x
    d.length = 10 ∧ numberAt d 0 1 = fitted 1 x.1 ∧
    numberAt d 1 1 = placeIn [HoldOrigin.lever, .crew, .radio, .store] (some x.2.origin) ∧
    numberAt d 2 2 = x.2.tag.toNat ∧ numberAt d 4 1 = setNumber [x.2.scope.a, x.2.scope.b, x.2.scope.c] ∧
    numberAt d 5 1 = (if x.2.profile then 1 else 0) ∧ numberAt d 6 4 = x.2.setTag.toNat)

/-- R57, R63: the dead timer expires: the gate is asked for the reclose mask. Refused, the sequence is in LOCKOUT with
the gate's reason and no pole record changes. Admitted, the sequence is CLOSING with n unchanged and every pole of the
mask has its close pulse. That the gate may admit a reclose before the lever's first acceptance (R189) is the model's
choice (log 45). -/
def Obligations.DeadTimerRecloses : Prop :=
  ∀ s : State, s.expires s.seq.deadTimer →
    (∀ r, gateQuery s.seq.ctx.reclose s = some r → ∃ t, exec .deadTimerExpiry s = .next t ∧
      t.seq.state = .lockout ∧ t.seq.cause = r.cause ∧ t.seq.shot = 1 ∧ t.seq.deadTimer = none ∧
      t.seq.reclaimTimer = none ∧ t.seq.afterClose = false ∧ t.seq.openRecord = none ∧ t.seq.lamp = true ∧
      t.seq.userFlags = s.seq.userFlags ∧ t.poles = s.poles ∧ t.prot = s.prot ∧ t.store = s.store ∧
      t.holds = s.holds ∧ t.line = s.line ∧ t.time = s.time) ∧
    (gateQuery s.seq.ctx.reclose s = none → ∃ t, exec .deadTimerExpiry s = .next t ∧
      t.seq = { s.seq with state := .closing, deadTimer := none, afterClose := false,
                           ctx := { s.seq.ctx with closesOut := s.seq.ctx.reclose } } ∧
      (∀ p, s.seq.ctx.reclose.get p = true → t.poleRec p =
        { s.poleRec p with mech := .closePulse, pulse := some (s.now + s.store.active.closePulse),
                           window := some (s.now + s.store.active.closeWindow), gap := none,
                           ops := (s.poleRec p).ops + 1, heldOpen := false, windowHeld := false }) ∧
      (∀ p, s.seq.ctx.reclose.get p = false → t.poleRec p = s.poleRec p) ∧
      t.batt.test = none ∧ t.prot = s.prot ∧ t.store = s.store ∧ t.holds = s.holds ∧ t.line = s.line ∧
      t.time = s.time)

/-- R59: the reclaim timer expires: RESET with n = 1 and the mark clear, the open record closed RECLOSED_OK, RECLAIM_OK
raised with its number or 0. -/
def Obligations.ReclaimTimerResets : Prop :=
  ∀ s : State, s.expires s.seq.reclaimTimer → ∃ q : Sequence,
    exec .reclaimTimerExpiry s = .next (raise .reclaimOk (be16 (s.seq.openRecord.getD 0)) { s with seq := q }) ∧
    q.state = .reset ∧ q.shot = 1 ∧ q.afterClose = false ∧ q.deadTimer = none ∧ q.reclaimTimer = none ∧
    q.openRecord = none ∧ q.lamp = false ∧ q.userFlags = s.seq.userFlags ∧ q.nextRecord = s.seq.nextRecord ∧
    q.faults = (match s.seq.openRecord with
      | some n => s.seq.faults.map fun r =>
          if r.number = n then { r with outcome := some .reclosedOk, cause := none } else r
      | none => s.seq.faults)

/-- R60, R61, R72: TRIP: a bad mask is a bad argument; otherwise the trip is taken in every sequence state, and every
pole of the mask that no trip was outstanding on, or that one was in flight on, then has a trip in flight or reads
OPEN. An order on a pole at rest that reads OPEN completes at once. R61: where some pole of the mask does not, the sequence
is in TRIPPING with end cause OPERATOR (LOCKOUT stays), its timers stopped, the ordered mask and the pickup instant cleared
except in TRIPPING and LOCKOUT, the other orders outstanding as the operator's, the fault records as they were, and the
command stays EXECUTING (the operator trip waits for every pole of its mask). R62, R76, R105: where the trip makes every
close still out of an operator close trip-free, the record is removed and its CLOSE answered. A pole with a trip
outstanding takes no order (log 48); the mark of an operator close stays in TRIPPING (log 46). Where every pole of the mask completes at once, the command is answered. -/
def Obligations.TripTakenInAnyState : Prop :=
  ∀ (p : PortId) (n : Half) (m : Byte) (s : State), s.ready p →
    ((m.toNat = 0 ∨ 7 < m.toNat) → exec (.trip p n m) s = .next (s.answered p n .trip .badArgument)) ∧
    (m.toNat ≠ 0 → m.toNat ≤ 7 → ∃ t, exec (.trip p n m) s = .next t ∧
      (∀ q, (PerPole.get ⟨m.getLsbD 0, m.getLsbD 1, m.getLsbD 2⟩ q) = true →
        (s.seq.ctx.tripsOut.get q = none ∨ (s.poleRec q).tripping) →
        (t.poleRec q).tripping ∨ (t.poleRec q).position = .opened) ∧
      (∀ q, (t.poleRec q).position = (s.poleRec q).position ∧ (t.poleRec q).discovered = (s.poleRec q).discovered) ∧
      t.store = s.store ∧ t.holds.slots = s.holds.slots ∧ t.holds.lever = s.holds.lever ∧ t.time = s.time ∧
      t.seq.userFlags = s.seq.userFlags ∧
      (let mask : PoleMask := ⟨m.getLsbD 0, m.getLsbD 1, m.getLsbD 2⟩
       let placed : Pole → Prop := fun q => mask.get q = true ∧ s.seq.ctx.tripsOut.get q = none
       let keeps : Prop := s.seq.state = .tripping ∨ s.seq.state = .lockout
       let atOnce : Pole → Prop := fun q => placed q ∧ (s.poleRec q).openAtRest
       let quiet : Prop := (∀ q, ¬ atOnce q) ∨ s.seq.state ≠ .lockout
       ((∃ q, mask.get q = true ∧ ¬ atOnce q) →
         t.seq.state = (if s.seq.state = .lockout then .lockout else .tripping) ∧
         t.seq.shot = s.seq.shot ∧ (quiet → t.seq.cause = s.seq.cause) ∧
         t.seq.ctx.endCause = (if s.seq.state = .lockout then s.seq.ctx.endCause else some .operator) ∧
         t.seq.deadTimer = (if s.seq.state = .deadTime then none else s.seq.deadTimer) ∧
         t.seq.reclaimTimer = (if s.seq.state = .reclaim then none else s.seq.reclaimTimer) ∧
         t.seq.afterClose = (s.seq.afterClose && decide (s.seq.state ≠ .reclaim)) ∧
         (quiet → t.seq.ctx.ordered = (if keeps then s.seq.ctx.ordered else ⟨false, false, false⟩)) ∧
         t.seq.ctx.pickup = (if keeps then s.seq.ctx.pickup else none) ∧
         (∀ q, (atOnce q → t.seq.ctx.tripsOut.get q = none ∧
             t.poleRec q = { s.poleRec q with last := some .success }) ∧
           (placed q → ¬ atOnce q → t.seq.ctx.tripsOut.get q = some .operator) ∧
           (¬ placed q → t.seq.ctx.tripsOut.get q = s.seq.ctx.tripsOut.get q)) ∧
         (∀ q, placed q → ¬ atOnce q → ((s.poleRec q).mech = .idle ∨ (s.poleRec q).mech = .failed) →
           t.poleRec q = (s.poleRec q).tripBegun s.store.active s.now) ∧
         t.seq.faults = s.seq.faults ∧ t.seq.openRecord = s.seq.openRecord ∧ t.seq.lamp = s.seq.lamp ∧
         ((∀ q, ¬ atOnce q) → t.seq.operatorTrips = s.seq.operatorTrips ++
           [{ cmd := some (s.nextRef p), mask := mask, waiting := mask, outcomes := ⟨none, none, none⟩,
              inLockout := decide (s.seq.state = .lockout) }]) ∧
         (∀ c r, s.seq.operatorClose = some c → s.holds.close = some r → r.phase = .pulsing → c.waiting.isEmpty = false →
           (∀ q, c.waiting.get q = true → placed q ∧ s.seq.ctx.closesOut.get q = true ∧
             ((s.poleRec q).mech = .closePulse ∨ (s.poleRec q).mech = .closeWait)) →
           t.seq.operatorClose = none ∧ t.holds.close = none ∧
           (∀ e, s.holding r.cmd = some e → r.cmd.port ≠ p → t.cmd.ctx r.cmd.port = .idle)) ∧
         ((∀ r, s.holds.close = some r → r.cmd ≠ s.nextRef p) →
           (∀ x k, s.batt.test = some x → x.origin ≠ .command (s.nextRef p) k) →
           (∀ x ∈ s.seq.operatorTrips, x.cmd ≠ some (s.nextRef p)) →
           t.cmd.ctx p = takenContext n .trip s.cmd.nextSerial)) ∧
       ((∀ q, mask.get q = true → atOnce q) →
         t.cmd.ctx p = .idle)))

/-! ## Pole mechanisms and the energy store (04) -/

/-- R73, R74, R76: the ends of a trip's timers. The pulse ends: an OPEN pole completes and rests; otherwise it waits in
TRIP_WAIT, or, its window expired, has missed. The window expires: in TRIP_PULSE it is held to the pulse's end; in
TRIP_WAIT the attempt has missed. A miss begins a retry's gap, or declares the pole failed and sounds ALARM. The gap
ends: a second pulse, with fresh timers and no further operation counted. Log 12: that the window has expired is kept.
R51 to R53, R75, R63, R66, R40: the completion of the last order outstanding, SUCCESS or FAILED, ends TRIPPING: follow-on
trips are ordered, or the sequence is in LOCKOUT with the first cause that holds, or in DEAD_TIME (lastTripDone). R60, R61: the
operator trips take the completion; a TRIP that waited for it alone is answered (tripsTake). -/
def Obligations.TripTimersEnd : Prop :=
  ∀ (p : Pole) (s : State),
    let r := s.poleRec p
    let b := s.store.active
    let retried : State := s.withPole p
      { r with mech := .tripRetry, pulse := none, window := none, gap := some (s.now + b.retryGap),
               heldOpen := false, windowHeld := false }
    let fails : Host.Outcome State Fault Refusal → Prop := fun o => ∃ t, o = .next t ∧
      (t.poleRec p).failed = true ∧ (t.poleRec p).position = r.position ∧ t.line.alarmEnd.isSome = true ∧
      s.tripsTake p .failed t ∧ t.store = s.store ∧ t.time = s.time
    (s.expires r.pulse → r.mech = .tripPulse →
      (r.position = .opened → ∃ t, exec (.tripPulseEnd p) s = .next t ∧
        s.tripsTake p (if r.attempt = 2 then .retriedSuccess else .success) t ∧
        ((t.poleRec p).mech = .idle ∨ (t.poleRec p).mech = .failed) ∧ (t.poleRec p).pulse = none ∧
        (t.poleRec p).window = none ∧ (t.poleRec p).failed = r.failed ∧ (t.poleRec p).ops = r.ops ∧
        t.store = s.store ∧ t.time = s.time) ∧
      (r.position ≠ .opened → r.windowHeld = false → exec (.tripPulseEnd p) s =
        .next (s.withPole p { r with mech := .tripWait, pulse := none, heldOpen := false })) ∧
      (r.position ≠ .opened → r.windowHeld = true → r.attempt = 1 → b.retryEnable = true →
        exec (.tripPulseEnd p) s = .next retried) ∧
      (r.position ≠ .opened → r.windowHeld = true → (r.attempt ≠ 1 ∨ b.retryEnable = false) →
        fails (exec (.tripPulseEnd p) s))) ∧
    (s.expires r.window →
      (r.mech = .tripPulse → exec (.tripWindowExpiry p) s =
        .next (s.withPole p { r with window := none, windowHeld := true })) ∧
      (r.mech = .tripWait → r.attempt = 1 → b.retryEnable = true →
        exec (.tripWindowExpiry p) s = .next retried) ∧
      (r.mech = .tripWait → (r.attempt ≠ 1 ∨ b.retryEnable = false) → fails (exec (.tripWindowExpiry p) s))) ∧
    (s.expires r.gap → r.mech = .tripRetry → exec (.gapTimerExpiry p) s = .next (s.withPole p
      { r with mech := .tripPulse, attempt := 2, pulse := some (s.now + b.openPulse),
               window := some (s.now + b.openWindow), gap := none, heldOpen := false, windowHeld := false })) ∧
    (∀ k, s.lastTrip p k →
      (s.expires r.pulse → r.mech = .tripPulse → r.position = .opened → ∃ t, exec (.tripPulseEnd p) s = .next t ∧
        s.lastTripDone p k false t ∧ t.poleRec p = r.ended (if r.attempt = 2 then .retriedSuccess else .success)) ∧
      (s.expires r.pulse → r.mech = .tripPulse → r.position ≠ .opened → r.windowHeld = true →
        (r.attempt ≠ 1 ∨ b.retryEnable = false) → ∃ t, exec (.tripPulseEnd p) s = .next t ∧
        s.lastTripDone p k true t ∧ t.poleRec p = { r with failed := true }.ended .failed) ∧
      (s.expires r.window → r.mech = .tripWait → (r.attempt ≠ 1 ∨ b.retryEnable = false) →
        ∃ t, exec (.tripWindowExpiry p) s = .next t ∧
        s.lastTripDone p k true t ∧ t.poleRec p = { r with failed := true }.ended .failed))

/-- R77, R58, R62: the close pulse ends, and the close window expires: a CLOSED pole completes SUCCESS and rests; another
waits in CLOSE_WAIT; at the window's end the close fails, the pole is declared failed and ALARM sounds (log 12: a window
that expires in the pulse is kept to its end). Only a follow-on trip of R52 moves the pole again in the step. The last
close outstanding ends CLOSING: RECLAIM, or LOCKOUT (MECH_FAIL) where a close has failed. R62, R105: the operator close
takes the completion; at its last one the record is removed and the CLOSE answered (closeTakes). -/
def Obligations.ClosePulseAndWindow : Prop :=
  ∀ (p : Pole) (s : State),
    let r := s.poleRec p
    let rests : PoleRecord → State → Prop := fun u t =>
      (t.poleRec p).last = u.last ∧ (t.poleRec p).failed = u.failed ∧ (t.poleRec p).position = r.position ∧
      ((t.poleRec p).mech = u.mech ∨ s.mayFollowOn ∧ (t.poleRec p).mech = .tripPulse) ∧
      (¬ s.mayFollowOn → t.poleRec p = u ∧ ∀ q, q ≠ p → t.poleRec q = s.poleRec q) ∧
      t.store = s.store ∧ t.time = s.time
    let succeeds : Host.Outcome State Fault Refusal → Prop := fun o => ∃ t, o = .next t ∧
      rests (r.ended .success) t ∧ s.closeTakes p .success t ∧ t.line.alarmEnd = s.line.alarmEnd ∧
      (¬ s.mayFollowOn → t.line = s.line)
    let fails : Host.Outcome State Fault Refusal → Prop := fun o => ∃ t, o = .next t ∧
      rests ({ r with failed := true }.ended .failed) t ∧ s.closeTakes p .failed t ∧ (t.poleRec p).failed = true ∧
      t.line.alarmEnd.isSome = true
    (s.expires r.pulse → r.mech = .closePulse → r.position = .closed →
      succeeds (exec (.closePulseEnd p) s) ∧
      (s.lastClose p → s.seq.ctx.closeFailed = false → ∃ t, exec (.closePulseEnd p) s = .next t ∧ s.closingDone t) ∧
      (s.lastClose p → s.seq.ctx.closeFailed = true → ∃ t, exec (.closePulseEnd p) s = .next t ∧ t.closingJammed)) ∧
    (s.expires r.pulse → r.mech = .closePulse → r.position ≠ .closed → r.windowHeld = false →
      exec (.closePulseEnd p) s = .next (s.withPole p { r with mech := .closeWait, pulse := none })) ∧
    (s.expires r.pulse → r.mech = .closePulse → r.position ≠ .closed → r.windowHeld = true →
      fails (exec (.closePulseEnd p) s) ∧
      (s.lastClose p → ∃ t, exec (.closePulseEnd p) s = .next t ∧ t.closingJammed)) ∧
    (s.expires r.window → r.mech = .closePulse → exec (.closeWindowExpiry p) s =
      .next (s.withPole p { r with window := none, windowHeld := true })) ∧
    (s.expires r.window → r.mech = .closeWait → fails (exec (.closeWindowExpiry p) s) ∧
      (s.lastClose p → ∃ t, exec (.closeWindowExpiry p) s = .next t ∧ t.closingJammed))

/-- R84, R86: the gate admits a mask when every one of the nine conditions holds, and otherwise answers the first that
fails, in their order. That the lever's first acceptance (R189) is none of them is the model's choice (log 45). -/
def Obligations.GateJudgesInOrder : Prop :=
  ∀ (mask : PoleMask) (s : State),
    let held := s.holds.table.any fun x => !(x.2.scope.inter mask).isEmpty
    gateQuery mask s =
      if held = true then some .hold
      else if s.poles.handle ≠ .inactive then some .handle
      else if (s.poleRec .a).failed = true ∨ (s.poleRec .b).failed = true ∨ (s.poleRec .c).failed = true then
        some .poleFailed
      else if (mask.a = true ∧ (s.poleRec .a).mech ≠ .idle) ∨ (mask.b = true ∧ (s.poleRec .b).mech ≠ .idle) ∨
          (mask.c = true ∧ (s.poleRec .c).mech ≠ .idle) then some .poleBusy
      else if (mask.a = true ∧ (s.poleRec .a).position ≠ .opened) ∨
          (mask.b = true ∧ (s.poleRec .b).position ≠ .opened) ∨
          (mask.c = true ∧ (s.poleRec .c).position ≠ .opened) then some .positionUnknown
      else if s.prot.linkUp = false then some .linkLost
      else if s.batt.level = .critical then some .supplyCritical
      else if s.batt.level = .shutdownPending then some .shutdown
      else if s.poles.storeVoltage < s.store.active.closeReserve then some .energyLow
      else none

/-- R80, R167: MECH_RESET: refused while a pole with its failed mark set carries out a trip; otherwise every pole in
FAILED is cleared and IDLE, and nothing else changes. -/
def Obligations.MechResetClearsFailed : Prop :=
  ∀ (n : Half) (s : State), s.ready .crew →
    ((∃ p, (s.poleRec p).failed = true ∧ (s.poleRec p).tripping) →
      exec (.mechReset .crew n) s = .next (s.answered .crew n .mechReset (.refused .poleBusy))) ∧
    ((∀ p, (s.poleRec p).failed = true → ¬ (s.poleRec p).tripping) →
      ∃ q : PerPole PoleRecord,
        exec (.mechReset .crew n) s = .next (s.answered .crew n .mechReset .done fun t =>
          { t with poles := { t.poles with pole := q } }) ∧
        (∀ p, (s.poleRec p).mech = .failed → q.get p = { s.poleRec p with failed := false, mech := .idle }) ∧
        (∀ p, (s.poleRec p).mech ≠ .failed → q.get p = s.poleRec p))

/-- R69, R70, R182: AUX_CHANGE: the filters accept the levels named. With both contacts of the pole accepted, its
position is decoded afresh from both and it is discovered, and no other pole's position changes; with one not yet
accepted nothing else happens; levels already accepted, or no contact named, are no change (the model's choices, log 9
and log 29). R73, R77: the reading OPEN completes a trip in its pulse, wait or retry gap, and CLOSED a close; the
pole then rests (only a follow-on trip of R52 moves it again). R51, R52, R58, R62: the last trip so completed ends
TRIPPING (lastTripDone), the last close CLOSING. R60 to R62, R105: the operator trips and the operator close take the
completion (tripsTake, closeTakes). Log 12: a close window held in the pulse does not bar its success. R70: a change on a
discovered pole at rest raises POSITION_CHANGE. R190, R45: the third discovery brings the start decision, which changes
the initial LOCKOUT alone (log 17, DEDUCED). -/
def Obligations.AuxChangeDecodesPosition : Prop :=
  ∀ (p : Pole) (levels : Contacts (Option Bool)) (s : State), s.powered = true →
    let f := s.line.filters.aux.get p
    let now : InputLevel → Option Bool → InputLevel := fun old x => match x with
      | some l => if l then .active else .inactive
      | none => old
    let a : InputLevel := now f.a.accepted levels.a
    let b : InputLevel := now f.b.accepted levels.b
    let decoded : Position := match a, b with
      | .active, .inactive => .closed
      | .inactive, .active => .opened
      | _, _ => .unknown
    let r := s.poleRec p
    let read : PoleRecord := { r with position := decoded, discovered := true }
    (a = f.a.accepted → b = f.b.accepted → exec (.auxChange p levels) s = .next s) ∧
    ((a ≠ f.a.accepted ∨ b ≠ f.b.accepted) → (a = .notYet ∨ b = .notYet) → ∃ t,
      exec (.auxChange p levels) s = .next t ∧ t = { s with line := t.line } ∧
      (t.line.filters.aux.get p).a.accepted = a ∧ (t.line.filters.aux.get p).b.accepted = b) ∧
    ((a ≠ f.a.accepted ∨ b ≠ f.b.accepted) → a ≠ .notYet → b ≠ .notYet → ∃ t,
      exec (.auxChange p levels) s = .next t ∧
      (t.line.filters.aux.get p).a.accepted = a ∧ (t.line.filters.aux.get p).b.accepted = b ∧
      (t.poleRec p).position = decoded ∧ (t.poleRec p).discovered = true ∧
      (∀ q, q ≠ p → (t.poleRec q).position = (s.poleRec q).position ∧
        (t.poleRec q).discovered = (s.poleRec q).discovered) ∧
      t.store = s.store ∧ t.time = s.time ∧
      (decoded = .opened →
        (r.mech = .tripPulse ∧ r.heldOpen = false ∧ r.windowHeld = false ∨ r.mech = .tripWait ∨ r.mech = .tripRetry) →
        let outcome : OpOutcome := if r.mech = .tripRetry ∨ r.attempt = 2 then .retriedSuccess else .success
        t.poleRec p = read.ended outcome ∧ s.tripsTake p outcome t) ∧
      (decoded = .closed → (r.mech = .closePulse ∨ r.mech = .closeWait) →
        s.closeTakes p .success t ∧ (t.poleRec p).last = some .success ∧ (¬ s.mayFollowOn → t.poleRec p = read.ended .success)) ∧
      (∀ k, decoded = .opened → s.lastTrip p k →
        (r.mech = .tripPulse ∧ r.heldOpen = false ∧ r.windowHeld = false ∨ r.mech = .tripWait ∨ r.mech = .tripRetry) →
        s.lastTripDone p k false t) ∧
      (decoded = .closed → s.lastClose p → (r.mech = .closePulse ∨ r.mech = .closeWait) →
        if s.seq.ctx.closeFailed = false then s.closingDone t else t.closingJammed) ∧
      ((r.mech = .idle ∨ r.mech = .failed) → t.poleRec p = read) ∧
      ((r.mech = .idle ∨ r.mech = .failed) →
        (s.seq.decided = true ∨ ∃ q, q ≠ p ∧ (s.poleRec q).discovered = false) →
        let moved : State := { s with line := t.line, poles := { s.poles with pole := s.poles.pole.set p read } }
        let place : Position → Byte := fun x => BitVec.ofNat 8 (placeIn [Position.opened, .closed, .unknown] (some x))
        t = if r.discovered = true ∧ r.position ≠ decoded then
          raise .positionChange [BitVec.ofNat 8 (placeIn [Pole.a, .b, .c] (some p)), place r.position, place decoded]
            moved
          else moved) ∧
      ((r.mech = .idle ∨ r.mech = .failed) →
        (s.seq.decided = true ∨ ∃ q, q ≠ p ∧ (s.poleRec q).discovered = false) → t.seq = s.seq) ∧
      ((r.mech = .idle ∨ r.mech = .failed) → s.seq.decided = false →
        (∀ q, q ≠ p → (s.poleRec q).discovered = true) →
        let first := s.seq.state = .lockout ∧ s.seq.initial = true
        let service := s.seq.cause = .start ∧ decoded = .closed ∧ ∀ q, q ≠ p → (s.poleRec q).position = .closed
        t.seq.decided = true ∧
        (¬ first → t.seq = { s.seq with decided := true } ∧ (r.discovered = false → t.rep = s.rep)) ∧
        (first → service →
          t.seq.state = .reset ∧ t.seq.shot = 1 ∧ t.seq.lamp = false ∧ (r.discovered = false → t.rep = s.rep)) ∧
        (first → ¬ service → t.seq = { s.seq with decided := true, lamp := true } ∧
          (r.discovered = false → t.rep = (raise .lockout [LockoutCause.code s.seq.cause, 0, 0] s).rep))))

/-- R81 to R83, R107 to R109, R111 to R115, R124, R179: CABINET_READING, the first at a non-zero multiple of 100: the
readings are replaced, limited to their ranges; the coulomb count follows the current; the store charger and the store-low
mark follow the store reading; the supply level is judged on the voltage unless the test load was applied, and on becoming
SHUTDOWN_PENDING begins the shutdown. With no test running, the charger is judged: a fault condition takes it to FAULT or
stops the fault-clear timer; without one a stage may end, a first reading makes the entry rule, and FAULT runs its timer.
R112, R118, R120: a running test lowers its minimum voltage and stores a fault condition as pending; below the test abort
voltage it ends ABORTED with cause LOW_VOLTAGE, and the charger leaves TEST before it is judged on the reading. R55, R115:
SHUTDOWN_PENDING in DEAD_TIME gives LOCKOUT (SUPPLY) at once; the sequence is otherwise as it was. At another count, and
once a reading has been taken at the count, there is no reading (log 5). -/
def Obligations.CabinetReadingTaken : Prop :=
  ∀ (v i : Int) (store : Half) (temp : Int) (s : State), s.powered = true →
    let b := s.store.active
    let clamp : Int → Int → Int → Int := fun lo hi x => if x < lo then lo else if hi < x then hi else x
    let volts : Nat := (clamp 0 65535 v).toNat
    let amps := clamp (-32768) 32767 i
    let degrees := clamp (-128) 127 temp
    let old := s.batt.level
    let level : SupplyLevel := if old = .shutdownPending then .shutdownPending
      else if volts ≤ b.shutdownThreshold then .shutdownPending
      else if volts ≤ b.criticalThreshold then .critical
      else if old = .critical ∧ volts < b.criticalThreshold + b.hysteresis then .critical
      else if volts ≤ b.lowThreshold then .low
      else if (old = .low ∨ old = .critical) ∧ volts < b.lowThreshold + b.hysteresis then .low
      else .normal
    let count : Nat := (clamp 0 b.fullCount (s.batt.coulomb + amps)).toNat
    let faulty : Prop := degrees < b.temperatureMin ∨ b.temperatureMax < degrees ∨ b.maximumVoltage < volts
    let entry : ChargerState := if s.batt.ac ≠ .active then .off
      else if volts < b.floatVoltage - b.rebulkMargin then .bulk else .float
    (¬ (s.now % 100 = 0 ∧ s.now ≠ 0 ∧ s.paced.read = false) → exec (.cabinetReading v i store temp) s = .next s) ∧
    (s.now % 100 = 0 → s.now ≠ 0 → s.paced.read = false → ∃ t, exec (.cabinetReading v i store temp) s = .next t ∧
      t.paced = { s.paced with read := true } ∧
      t.batt.voltage = volts ∧ t.batt.current = amps ∧
      t.batt.temperature = degrees ∧ t.batt.readingTaken = true ∧ t.batt.ac = s.batt.ac ∧
      t.poles.storeVoltage = store.toNat ∧
      t.poles.charging = (if store.toNat + 50 < b.storeTarget then true
        else if store.toNat < b.storeTarget then s.poles.charging else false) ∧
      t.poles.storeLow = (if store.toNat < b.tripReserve ∧ s.poles.storeLow = false then true
        else if b.closeReserve ≤ store.toNat then false else s.poles.storeLow) ∧
      t.poles.pole = s.poles.pole ∧
      (s.batt.test.isSome = true → t.batt.level = old ∧ (s.batt.charger = .test → t.batt.coulomb = count)) ∧
      (s.batt.test = none → t.batt.level = level) ∧
      (s.batt.test = none → level = .shutdownPending → old ≠ .shutdownPending →
        t.batt.shutdown = .waiting ∧ t.batt.shutdownTimer = some (s.now + 30000)) ∧
      (s.batt.test = none → (level ≠ .shutdownPending ∨ old = .shutdownPending) →
        t.batt.shutdown = s.batt.shutdown ∧ t.batt.shutdownTimer = s.batt.shutdownTimer) ∧
      (s.batt.test = none → s.batt.charger ≠ .test →
        let same := t.batt.coulomb = count ∧ t.batt.estimated = s.batt.estimated
        let keeps := same ∧ t.batt.faultClear = s.batt.faultClear
        (faulty → t.batt.charger = .fault ∧ same ∧
          t.batt.faultClear = if s.batt.charger = .fault then none else s.batt.faultClear) ∧
        (¬ faulty → s.batt.charger = .fault → t.batt.charger = .fault ∧ same ∧
          t.batt.faultClear = some (s.batt.faultClear.getD (s.now + 60000))) ∧
        (¬ faulty → s.batt.charger = .off → keeps ∧
          t.batt.charger = if s.batt.readingTaken = false then entry else .off) ∧
        (¬ faulty → s.batt.charger = .bulk → keeps ∧
          (b.absorbVoltage ≤ volts → t.batt.charger = .absorb ∧ t.batt.absorbEntry = some s.now) ∧
          (volts < b.absorbVoltage → t.batt.charger = .bulk)) ∧
        (∀ began, ¬ faulty → s.batt.charger = .absorb → s.batt.absorbEntry = some began →
          (0 ≤ amps ∧ amps ≤ b.endCurrent →
            t.batt.charger = .float ∧ t.batt.coulomb = b.fullCount ∧ t.batt.estimated = false) ∧
          (¬ (0 ≤ amps ∧ amps ≤ b.endCurrent) → keeps ∧
            t.batt.charger = if b.absorbLimit ≤ s.now - began then .float else .absorb)) ∧
        (¬ faulty → s.batt.charger = .float → keeps ∧
          t.batt.charger = if volts < b.floatVoltage - b.rebulkMargin then .bulk else .float)) ∧
      (∀ x, s.batt.test = some x → s.batt.charger = .test →
        let lowest := min x.minVoltage volts
        let condition : Option FaultCondition := if degrees < b.temperatureMin then some .temperatureLow
          else if b.temperatureMax < degrees then some .temperatureHigh
          else if b.maximumVoltage < volts then some .overvoltage else none
        (b.testAbortVoltage ≤ volts → t.batt = { s.batt with
          voltage := volts, current := amps, temperature := degrees, readingTaken := true, coulomb := count,
          test := some { x with minVoltage := lowest }, pendingFault := condition.or s.batt.pendingFault }) ∧
        (volts < b.testAbortVoltage →
          t.batt.test = none ∧ t.batt.pendingFault = none ∧
          t.batt.lastTest = some { startTag := x.startTag, startVoltage := x.startVoltage, minVoltage := lowest,
                                   drop := x.startVoltage - lowest, grade := .aborted, cause := some .lowVoltage,
                                   origin := x.origin } ∧
          t.batt.retryWait = (if x.origin = .scheduled then some (s.now + 600000) else s.batt.retryWait) ∧
          t.batt.nextDue = s.batt.nextDue ∧
          t.batt.charger = (if faulty ∨ s.batt.pendingFault.isSome = true then .fault
            else if entry = .bulk ∧ b.absorbVoltage ≤ volts then .absorb else entry) ∧
          t.batt.faultClear = (if s.batt.pendingFault = none then s.batt.faultClear
            else if faulty then none else some (s.batt.faultClear.getD (s.now + 60000))) ∧
          (∀ c n e, x.origin = .command c n → s.holding c = some e → t.cmd.ctx c.port = .idle))) ∧
      t.seq = (if s.batt.test = none ∧ level = .shutdownPending ∧ old ≠ .shutdownPending ∧ s.seq.state = .deadTime then
        s.seq.lockedOut .supply else s.seq) ∧
      t.prot = s.prot ∧ t.holds = s.holds ∧ t.store = s.store ∧ t.line = s.line ∧ t.time = s.time)

/-! ## Crew lockout (05) -/

/-- R91, R93, R94: HOLD_SET: a bad tag, scope or profile is a bad argument; with no such hold and slots 1 to 7 full it is
refused TABLE_FULL; otherwise the hold stands in the slot of the hold it replaces (with that hold's set tag) or in the
lowest empty slot (with the present tag), every other slot as it was, and the command stays EXECUTING, waiting for a
hold-image write that is in flight or pending. The poles keep their records. R93 step 4, R55, R58, R64: placed in
DEAD_TIME it gives LOCKOUT (HOLD) at once; in any other state the sequence is as it was. -/
def Obligations.HoldSetPlaces : Prop :=
  ∀ (p : PortId) (n tag : Half) (scope profile : Byte) (s : State), s.ready p →
    let origin := PortId.holdOrigin p
    let mask : PoleMask := ⟨scope.getLsbD 0, scope.getLsbD 1, scope.getLsbD 2⟩
    let good := tag ≠ 0 ∧ scope.toNat ≠ 0 ∧ scope.toNat ≤ 7 ∧ profile.toNat ≤ 1
    (¬ good → exec (.holdSet p n tag scope profile) s = .next (s.answered p n .holdSet .badArgument)) ∧
    (good → s.holds.find origin tag = none → s.holds.slots.toList.all Option.isSome = true →
      exec (.holdSet p n tag scope profile) s = .next (s.answered p n .holdSet (.refused .tableFull))) ∧
    (∀ (k : Nat) (h : Option Hold), good →
      (s.holds.find origin tag = some k ∧ s.holds.slot k = h ∨
        s.holds.find origin tag = none ∧ s.holds.firstEmpty = some k ∧ h = none) →
      ∃ t, exec (.holdSet p n tag scope profile) s = .next t ∧
        t.holds.slot k = some { origin := origin, tag := tag, scope := mask, profile := decide (profile.toNat = 1),
                                setTag := (h.map Hold.setTag).getD s.time.timeTag } ∧
        (∀ j, j ≠ k → t.holds.slot j = s.holds.slot j) ∧
        ((∀ r, s.holds.close = some r → r.cmd ≠ s.nextRef p) →
          t.cmd.ctx p = takenContext n .holdSet s.cmd.nextSerial) ∧
        (∃ started, (⟨s.nextRef p, k, started⟩ : HoldWaiter) ∈ t.holds.waiters) ∧
        (t.store.inFlight.map ImageWrite.image = some .hold ∨ ImageId.hold ∈ t.store.waiting) ∧
        (∀ r, s.holds.close = some r → r.phase = .warning → (mask.inter r.mask).isEmpty = false →
          t.holds.close = none) ∧
        t.seq = (if s.seq.state = .deadTime then s.seq.lockedOut .hold else s.seq) ∧
        t.poles = s.poles ∧ t.prot = s.prot ∧ t.batt = s.batt ∧ t.time = s.time ∧
        t.store.active = s.store.active ∧ t.store.shadow = s.store.shadow)

/-- R92 to R94: HOLD_CLEAR: a hold that the port may not remove, or that does not stand, is refused NOT_HOLDER;
otherwise its slot is emptied, every other slot and the operator close record as they were, and the command waits as in
R94. The sequence is told nothing. -/
def Obligations.HoldClearRemoves : Prop :=
  ∀ (p : PortId) (n tag : Half) (s : State), s.ready p →
    let named := match p with
      | .radio => s.holds.find .radio tag
      | .crew => if tag = 0 then s.holds.find .store 0 else s.holds.find .crew tag
    (named = none → exec (.holdClear p n tag) s = .next (s.answered p n .holdClear (.refused .notHolder))) ∧
    (∀ k, named = some k → ∃ t, exec (.holdClear p n tag) s = .next t ∧
      t.holds.slot k = none ∧ (∀ j, j ≠ k → t.holds.slot j = s.holds.slot j) ∧ t.holds.close = s.holds.close ∧
      t.cmd.ctx p = takenContext n .holdClear s.cmd.nextSerial ∧
      (∃ started, (⟨s.nextRef p, k, started⟩ : HoldWaiter) ∈ t.holds.waiters) ∧
      (t.store.inFlight.map ImageWrite.image = some .hold ∨ ImageId.hold ∈ t.store.waiting) ∧
      t.seq = s.seq ∧ t.poles = s.poles ∧ t.prot = s.prot ∧ t.batt = s.batt ∧ t.time = s.time)

/-- R95, R93: HOLD_LEVER_CHANGE: the lever hold placed in slot 0, or removed, with the filter's level; no image write is
requested, and slots 1 to 7 stay. R93 step 4, R55: placed in DEAD_TIME it gives LOCKOUT (HOLD) at once; the sequence is
otherwise as it was. R183: both ports' flags are set under an enabled mask, not at a first acceptance. A change to the
level already accepted is no change (log 9). -/
def Obligations.HoldLeverPlacesOrRemoves : Prop :=
  ∀ (level : Bool) (s : State), s.powered = true →
    let lvl : InputLevel := if level then .active else .inactive
    let flagged := level && decide (s.line.filters.cabinet.holdLever.accepted ≠ .notYet) && s.line.masks.holdLever
    (s.line.filters.cabinet.holdLever.accepted = lvl → exec (.holdLeverChange level) s = .next s) ∧
    (s.line.filters.cabinet.holdLever.accepted ≠ lvl → ∃ t, exec (.holdLeverChange level) s = .next t ∧
      t.line.filters.cabinet.holdLever.accepted = lvl ∧ t.holds.leverAccepted = true ∧
      t.holds.lever = (if level then
        some { origin := .lever, tag := 0, scope := ⟨true, true, true⟩, profile := true, setTag := s.time.timeTag }
        else none) ∧
      t.seq = (if level = true ∧ s.seq.state = .deadTime then s.seq.lockedOut .hold else s.seq) ∧
      t.line.radioFlags = { s.line.radioFlags with holdLever := s.line.radioFlags.holdLever || flagged } ∧
      t.line.crewFlags = { s.line.crewFlags with holdLever := s.line.crewFlags.holdLever || flagged } ∧
      t.holds.slots = s.holds.slots ∧ t.store = s.store ∧ t.poles = s.poles ∧ t.prot = s.prot ∧ t.batt = s.batt ∧
      t.time = s.time ∧
      (level = true → ∀ r, s.holds.close = some r → r.phase = .warning → r.mask.isEmpty = false →
        t.holds.close = none))

/-- R100 steps 1 to 4: CLOSE is refused with the first reason that holds, and a refusal changes nothing else. -/
def Obligations.CloseRefusedAtOnce : Prop :=
  ∀ (p : PortId) (n : Half) (m : Byte) (s : State), s.ready p →
    let mask : PoleMask := ⟨m.getLsbD 0, m.getLsbD 1, m.getLsbD 2⟩
    ((m.toNat = 0 ∨ 7 < m.toNat) → exec (.close p n m) s = .next (s.answered p n .close .badArgument)) ∧
    (∀ reason, m.toNat ≠ 0 → m.toNat ≤ 7 →
      (if s.holds.leverAccepted = false then some Reason.hold
       else if s.holds.close.isSome then some .closeInProgress
       else if s.seq.state ≠ .reset ∧ s.seq.state ≠ .lockout then some .sequenceActive
       else (gateQuery mask s).map GateReason.reason) = some reason →
      exec (.close p n m) s = .next (s.answered p n .close (.refused reason)))

/-- R100 steps 5 to 8: a CLOSE that nothing refuses. With a warning delay above 0: a running test ends; the record
stands in WARNING with its timer; the WARNING tone is asked for the delay; the command stays EXECUTING; sequence and
poles stay. With a delay of 0 no tone is asked for, and the warning timer expires at once, in the same step (log 22): the
gate, asked again (R101), admits: the record is PULSING, the sequence CLOSING with n = 1 and the mark set (R62), and every
pole of the mask has its close pulse (R77). -/
def Obligations.CloseOpensWarning : Prop :=
  ∀ (p : PortId) (n : Half) (m : Byte) (s : State), s.ready p →
    let mask : PoleMask := ⟨m.getLsbD 0, m.getLsbD 1, m.getLsbD 2⟩
    let delay := s.store.active.warningDelay p
    m.toNat ≠ 0 → m.toNat ≤ 7 → s.holds.leverAccepted = true → s.holds.close = none →
    (s.seq.state = .reset ∨ s.seq.state = .lockout) → gateQuery mask s = none →
    ∃ t, exec (.close p n m) s = .next t ∧ t.batt.test = none ∧
      (s.batt.test = none → t.batt = s.batt ∧ t.cmd.ctx p = takenContext n .close s.cmd.nextSerial) ∧
      t.prot = s.prot ∧ t.store = s.store ∧ t.time = s.time ∧
      (0 < delay →
        t.holds = { s.holds with close := some (CloseRecord.mk (s.nextRef p) n mask .warning (s.now + delay)
          (some (s.now + delay))) } ∧
        t.line = { s.line with warningEnd := some (s.now + delay) } ∧ t.seq = s.seq ∧ t.poles = s.poles) ∧
      (delay = 0 →
        t.holds = { s.holds with close := some (CloseRecord.mk (s.nextRef p) n mask .pulsing s.now none) } ∧
        t.line = s.line ∧ t.seq.state = .closing ∧ t.seq.shot = 1 ∧ t.seq.afterClose = true ∧
        t.seq.ctx.closesOut = mask ∧ t.seq.operatorClose = some ⟨mask, mask, ⟨none, none, none⟩⟩ ∧
        (s.seq.state = .lockout → t.seq.lamp = false) ∧
        (∀ q, mask.get q = true → t.poleRec q = { s.poleRec q with
          mech := .closePulse, pulse := some (s.now + s.store.active.closePulse),
          window := some (s.now + s.store.active.closeWindow), gap := none, ops := (s.poleRec q).ops + 1,
          heldOpen := false, windowHeld := false }) ∧
        (∀ q, mask.get q = false → t.poleRec q = s.poleRec q))

/-- R101, R62, R77: the warning timer expires: the gate is asked for the record's mask. Refused, the record is removed
and nothing of the sequence or the poles changes. Admitted, the record is PULSING, the sequence CLOSING with n = 1 and
the mark set, and every pole of the mask has its close pulse. -/
def Obligations.WarningTimerAsksGate : Prop :=
  ∀ (s : State) (r : CloseRecord), s.expires r.timer → s.holds.close = some r → r.phase = .warning →
    (∀ g, gateQuery r.mask s = some g → ∃ t, exec .warningTimerExpiry s = .next t ∧
      t.holds = { s.holds with close := none } ∧ t.seq = s.seq ∧ t.poles = s.poles ∧ t.prot = s.prot ∧
      t.store = s.store ∧ t.line = s.line ∧ t.time = s.time ∧
      (∀ e, s.holding r.cmd = some e → t.cmd.ctx r.cmd.port = .idle)) ∧
    (gateQuery r.mask s = none → ∃ t, exec .warningTimerExpiry s = .next t ∧
      t.holds = { s.holds with close := some { r with timer := none, phase := .pulsing } } ∧
      t.seq.state = .closing ∧ t.seq.shot = 1 ∧ t.seq.afterClose = true ∧ t.seq.ctx.closesOut = r.mask ∧
      t.seq.operatorClose = some ⟨r.mask, r.mask, ⟨none, none, none⟩⟩ ∧
      (s.seq.state = .lockout → t.seq.lamp = false) ∧
      (∀ p, r.mask.get p = true → (t.poleRec p).mech = .closePulse ∧
        (t.poleRec p).pulse = some (s.now + s.store.active.closePulse) ∧
        (t.poleRec p).window = some (s.now + s.store.active.closeWindow) ∧
        (t.poleRec p).ops = (s.poleRec p).ops + 1) ∧
      (∀ p, r.mask.get p = false → t.poleRec p = s.poleRec p) ∧
      t.batt.test = none ∧ t.prot = s.prot ∧ t.store = s.store ∧ t.line = s.line ∧ t.time = s.time)

/-! ## Battery care (06) -/

/-- R116 to R118, R122: what starts a load test. BATTERY_TEST is refused while a test runs, and with the number of the
first start condition that fails; otherwise a commanded test starts and the command stays EXECUTING. A test that falls
due starts as a scheduled test, or starts the retry wait of 10 minutes; a due time reached while that wait runs on, or at
the instant at which a scheduled test has just started, only becomes none (the second of two due moments, log 20). -/
def Obligations.TestStarts : Prop :=
  ∀ s : State,
    let bar : Option Byte :=
      if s.batt.charger ≠ .float then some 1
      else if s.batt.ac ≠ .active then some 2
      else if s.seq.state ≠ .reset then some 3
      else if (s.poleRec .a).mech ≠ .idle ∨ (s.poleRec .b).mech ≠ .idle ∨ (s.poleRec .c).mech ≠ .idle then some 4
      else if s.holds.close.isSome = true then some 5
      else if s.poles.storeVoltage < s.store.active.storeTarget then some 6
      else if s.batt.level ≠ .normal then some 7
      else if s.batt.shutdown ≠ .none then some 8
      else none
    let started : TestOrigin → Battery := fun origin =>
      { s.batt with
        charger := .test,
        test := some
          { origin := origin, startTag := s.time.timeTag, startVoltage := s.batt.voltage,
            minVoltage := s.batt.voltage, timer := some (s.now + s.store.active.testDuration) } }
    (∀ (p : PortId) (n : Half), s.ready p →
      (s.batt.test.isSome = true →
        exec (.batteryTest p n) s = .next (s.answered p n .batteryTest (.refused .testActive))) ∧
      (∀ k, s.batt.test = none → bar = some k →
        exec (.batteryTest p n) s = .next (s.answered p n .batteryTest (.refused .testNotAllowed [k]))) ∧
      (s.batt.test = none → bar = none → exec (.batteryTest p n) s =
        .next { s.admitted p n .batteryTest with batt := started (.command (s.nextRef p) n) })) ∧
    (let waits : Prop := ∃ e, s.batt.retryWait = some e ∧ s.now < e
     let justStarted : Prop := ∃ x, s.batt.test = some x ∧ x.origin = .scheduled ∧
       x.timer = some (s.now + s.store.active.testDuration)
     (s.expires s.batt.nextDue → (waits ∨ justStarted) →
       exec .nextTestDue s = .next { s with batt := { s.batt with nextDue := none } }) ∧
     (s.expires s.batt.nextDue → ¬ waits → ¬ justStarted → exec .nextTestDue s = .next
       { s with batt := if bar = none then { started .scheduled with nextDue := none, retryWait := none }
                        else { s.batt with nextDue := none, retryWait := some (s.now + 600000) } })) ∧
    (s.expires s.batt.retryWait → exec .retryWaitExpiry s = .next
      { s with batt := if bar = none then { started .scheduled with retryWait := none }
                       else { s.batt with retryWait := some (s.now + 600000) } })

/-- R119, R112, R109, R116: the duration timer expires: the test is graded by its drop, its record kept, the charger
goes to FAULT with a pending fault and by the entry rule without one, the next due time is set anew, the retry wait
stops, and a commanded test's command is answered. -/
def Obligations.DurationTimerGrades : Prop :=
  ∀ (s : State) (x : LoadTest), s.expires x.timer → s.batt.test = some x →
    let b := s.store.active
    let drop := x.startVoltage - x.minVoltage
    let grade : TestGrade := if drop < b.weakDrop then .pass else if drop < b.failDrop then .weak else .fail
    ∃ t, exec .durationTimerExpiry s = .next t ∧
      t.batt = { s.batt with
        test := none, pendingFault := none, retryWait := none,
        lastTest := some { startTag := x.startTag, startVoltage := x.startVoltage, minVoltage := x.minVoltage,
                           drop := drop, grade := grade, cause := none, origin := x.origin },
        nextDue := if b.testInterval = 0 then none else some (s.now + b.testInterval),
        charger := if s.batt.pendingFault.isSome then .fault
          else if s.batt.ac ≠ .active ∨ s.batt.readingTaken = false then .off
          else if s.batt.voltage < b.floatVoltage - b.rebulkMargin then .bulk else .float } ∧
      (∀ r k e, x.origin = .command r k → s.holding r = some e → t.cmd.ctx r.port = .idle) ∧
      t.seq = s.seq ∧ t.poles = s.poles ∧ t.prot = s.prot ∧ t.holds = s.holds ∧ t.store = s.store ∧
      t.line = s.line ∧ t.time = s.time

/-- R13, R112, R125, R186: the expiries that touch one thing: the shadow's owner becomes NONE; the charger leaves FAULT
by the entry rule; a waiting shutdown is asserted; the ALARM ends; the WARNING request ends. R71, R82, R109, R185, R186:
in every state each output line is at the level of its owner's state. -/
def Obligations.PlainExpiries : Prop :=
  (∀ s : State,
    (s.expires s.store.ownerTimer → exec .ownershipTimerExpiry s =
      .next { s with store := { s.store with owner := none, ownerTimer := none } }) ∧
    (s.expires s.batt.faultClear → exec .faultClearTimerExpiry s = .next { s with batt := { s.batt with
      faultClear := none,
      charger := if s.batt.ac ≠ .active ∨ s.batt.readingTaken = false then .off
        else if s.batt.voltage < s.store.active.floatVoltage - s.store.active.rebulkMargin then .bulk
        else .float } }) ∧
    (s.expires s.batt.shutdownTimer → s.batt.shutdown = .waiting → exec .shutdownTimerExpiry s =
      .next { s with batt := { s.batt with shutdown := .asserted, shutdownTimer := none } }) ∧
    (s.expires s.line.alarmEnd → exec .alarmEnd s = .next { s with line := { s.line with alarmEnd := none } }) ∧
    (s.expires s.line.warningEnd → exec .warningRequestEnd s =
      .next { s with line := { s.line with warningEnd := none } })) ∧
  ∀ s : State,
    let o := s.outputs
    (∀ p, (o.trip.get p = true ↔ (s.poleRec p).mech = .tripPulse) ∧
      (o.close.get p = true ↔ (s.poleRec p).mech = .closePulse)) ∧
    o.storeCharge = s.poles.charging ∧
    (o.chargerEnable = true ↔ s.batt.charger = .bulk ∨ s.batt.charger = .absorb ∨ s.batt.charger = .float) ∧
    (o.chargerBoost = true ↔ s.batt.charger = .bulk ∨ s.batt.charger = .absorb) ∧
    (o.testLoad = true ↔ ∃ x, s.batt.test = some x) ∧
    (o.shutdown = true ↔ s.batt.shutdown = .asserted) ∧
    o.lockoutLamp = s.seq.lamp ∧
    (∀ e, s.line.warningEnd = some e → o.sounder = .warning) ∧
    (∀ e, s.line.warningEnd = none → s.line.alarmEnd = some e → o.sounder = .alarm) ∧
    (s.line.warningEnd = none → s.line.alarmEnd = none → o.sounder = .off)

/-- R110, R120, R183: AC_PRESENT_CHANGE: the battery record's level follows, and the charger acts by its state; a
running test ends with cause AC_LOST; the flags are set under an enabled mask, not at a first acceptance. The level
already accepted is no change (log 9); a charger in FAULT stays there at a first acceptance as present (the model's
choice, log 36). -/
def Obligations.AcChangeMovesCharger : Prop :=
  ∀ (level : Bool) (s : State), s.powered = true →
    let lvl : InputLevel := if level then .active else .inactive
    let old := s.line.filters.cabinet.acPresent.accepted
    let b := s.store.active
    let flag : Bool → Bool := fun f =>
      f || (level && decide (old ≠ .notYet) && s.line.masks.acPresent)
    (old = lvl → exec (.acPresentChange level) s = .next s) ∧
    (old ≠ lvl → ∃ t, exec (.acPresentChange level) s = .next t ∧
      t.line.filters.cabinet.acPresent.accepted = lvl ∧ t.batt.ac = lvl ∧
      (level = true → t.batt = { s.batt with
        ac := .active,
        charger := if s.batt.charger ≠ .off then s.batt.charger
          else if s.batt.readingTaken = false then .off
          else if s.batt.voltage < b.floatVoltage - b.rebulkMargin then .bulk else .float }) ∧
      (level = false → s.batt.charger ≠ .test → t.batt = { s.batt with
        ac := .inactive, charger := .off,
        faultClear := if s.batt.charger = .fault then none else s.batt.faultClear }) ∧
      (∀ x, level = false → s.batt.charger = .test → s.batt.test = some x →
        t.batt.test = none ∧ t.batt.lastTest.map TestRecord.cause = some (some .acLost) ∧
        t.batt.charger = if s.batt.pendingFault.isSome then .fault else .off) ∧
      t.line.radioFlags.acPresent = flag s.line.radioFlags.acPresent ∧
      t.line.crewFlags.acPresent = flag s.line.crewFlags.acPresent ∧
      t.seq = s.seq ∧ t.poles = s.poles ∧ t.prot = s.prot ∧ t.holds = s.holds ∧ t.store = s.store ∧
      t.time = s.time)

/-! ## Radio reports (07) -/

/-- R128, R130 to R136: an event raised. Suppressed, it does nothing. With room, an entry is appended, with a number that
no entry holds, the next one if that is free; BACKLOG is set when the length reaches 32. Full, the oldest queued entry of a
lower priority gives way, or the event is dropped; either sets OVERRUN and clears every carried mark. An entry placed goes
as a NOTICE to an attached crew, and in IDLE and WAIT_BUDGET a selection pass follows. Log 23: a displaced entry's number
is free only afterwards. -/
def Obligations.EventsAreQueued : Prop :=
  ∀ (k : EventKind) (body : List Byte) (s : State),
    let made : Priority → Half → ReportEntry := fun p n =>
      { number := n, priority := p, kind := k, tag := s.time.timeTag, timeSet := s.time.timeSet, body := body,
        cost := 1 + body.length / 16, attempts := 0, channel := none, resume := .primary,
        allowance := 1 + s.store.active.retries, inFlight := false, overrunCarried := false }
    let unmarked : List ReportEntry → List ReportEntry := fun q => q.map fun e => { e with overrunCarried := false }
    let yields : Priority → ReportEntry → Bool := fun p e => !e.inFlight && decide (e.priority = p)
    let numbers := s.rep.queue.map ReportEntry.number
    let taken : Half → Prop := fun n => n ∉ numbers ∧ (s.rep.nextNumber ∉ numbers → n = s.rep.nextNumber)
    let placed : Priority → Half → ReportUnit → State := fun p n r =>
      let rep := { r with queue := r.queue ++ [made p n], nextNumber := if n = 65535 then 1 else n + 1 }
      let told : State := { s with
        rep := rep
        port := if s.rep.crewPresent = .active then
          (s.port.handCrew { frame := noticeFrame rep (made p n), tag := .notice }).1 else s.port }
      if s.rep.tx = .idle ∨ s.rep.tx = .waitBudget then selectionPass told else told
    (s.store.active.priority k = none → raise k body s = s) ∧
    (∀ p, s.store.active.priority k = some p → s.rep.queue.length < 64 → ∃ n, taken n ∧
      raise k body s = placed p n { s.rep with backlog := s.rep.backlog || decide (s.rep.queue.length = 31) }) ∧
    (∀ p, s.store.active.priority k = some p → s.rep.queue.length = 64 →
      (p = .routine ∨ s.rep.queue.any (yields .routine) = false ∧
        (p = .normal ∨ s.rep.queue.any (yields .normal) = false) →
        raise k body s = { s with rep := { s.rep with overrun := true, queue := unmarked s.rep.queue } }) ∧
      (∀ before e after, s.rep.queue = before ++ e :: after →
        (p ≠ .routine ∧ yields .routine e = true ∧ before.any (yields .routine) = false ∨
          p = .urgent ∧ s.rep.queue.any (yields .routine) = false ∧ yields .normal e = true ∧
          before.any (yields .normal) = false) → ∃ n, taken n ∧
        raise k body s = placed p n { s.rep with overrun := true, queue := unmarked (before ++ after) }))

/-- R137 to R139, R145: the selection pass: with nothing eligible the transmitter is IDLE; an entry selected is the
oldest eligible of the best priority; sent only if the budget covers it, it becomes IN_FLIGHT, the budget is debited and
the transmitter awaits its acknowledgement; else the transmitter waits for budget. R146: the refill adds its share,
up to the ceiling, restarts its timer, and makes that pass in IDLE or WAIT_BUDGET. -/
def Obligations.RefillAndSelection : Prop :=
  ∀ s : State,
    let eligible : ReportEntry → Prop := fun e =>
      e.inFlight = false ∧ (s.batt.level = .normal ∨ s.batt.level = .low ∨ e.priority = .urgent)
    let better : Priority → Priority → Prop := fun p q =>
      (p = .urgent ∧ q ≠ .urgent) ∨ (p = .normal ∧ q = .routine)
    let share : Nat := match s.batt.level with
      | .normal => if s.batt.ac = .active then s.store.active.refill else s.store.active.refill / 2
      | .low => s.store.active.refill / 4
      | _ => 0
    let filled : State := { s with rep := { s.rep with
      budget := min (s.rep.budget + share) s.store.active.budgetCeiling, refillTimer := some (s.now + 60000) } }
    (s.expires s.rep.refillTimer → exec .refillTimerExpiry s = .next
      (if s.rep.tx = .idle ∨ s.rep.tx = .waitBudget then selectionPass filled else filled)) ∧
    ((∀ e ∈ s.rep.queue, ¬ eligible e) → selectionPass s = { s with rep := { s.rep with tx := .idle } }) ∧
    (∀ before e after, s.rep.queue = before ++ e :: after → eligible e →
      (∀ x ∈ before, eligible x → better e.priority x.priority) →
      (∀ x ∈ after, eligible x → ¬ better x.priority e.priority) →
      (s.rep.budget < e.cost → selectionPass s = { s with rep := { s.rep with tx := .waitBudget } }) ∧
      ((s.rep.queue.map ReportEntry.number).Nodup → e.cost ≤ s.rep.budget → ∃ x,
        (selectionPass s).rep.queue = before ++ x :: after ∧
        x = { e with inFlight := true, attempts := if e.attempts < 65535 then e.attempts + 1 else e.attempts,
                     channel := some e.resume, allowance := e.allowance - 1,
                     overrunCarried := e.overrunCarried || s.rep.overrun } ∧
        (selectionPass s).rep.tx = .awaitAck ∧ (selectionPass s).rep.ackTimer = none ∧
        (selectionPass s).rep.budget = s.rep.budget - e.cost ∧
        (selectionPass s).rep.handed.map HandedReport.frame = some (reportFrame s.rep x)))

/-- R141, R142, R147: the ack timer expires in AWAIT_ACK: the entry returns to QUEUED; with allowance left it is resent,
else it goes over to ALTERNATE with a fresh allowance, and from there every entry goes back to PRIMARY and HOLDOFF
begins. A resend that may not go is a selection pass. The holdoff ends with a selection pass; the periodic timer
restarts and raises MEASURE unless BACKLOG is set. -/
def Obligations.ReportTimersEnd : Prop :=
  ∀ s : State,
    let b := s.store.active
    let fresh := 1 + b.retries
    let queued : State := { s with rep := { s.rep with
      queue := s.rep.queue.map fun e => { e with inFlight := false }, ackTimer := none } }
    let resent : ReportEntry → State → State := fun e u =>
      if (s.batt.level = .normal ∨ s.batt.level = .low ∨ e.priority = .urgent) ∧ e.cost ≤ s.rep.budget then
        sendEntry e u
      else selectionPass { u with rep := { u.rep with tx := .idle } }
    let periodic : State := { s with rep := { s.rep with
      periodicTimer := if b.periodicPeriod = 0 then none else some (s.now + b.periodicPeriod) } }
    (∀ e, s.expires s.rep.ackTimer → s.rep.tx = .awaitAck → s.rep.queue.find? (·.inFlight) = some e →
      let back := { e with inFlight := false }
      let moved := { back with resume := .alternate, allowance := fresh }
      (0 < e.allowance → exec .ackTimerExpiry s = .next (resent back queued)) ∧
      (e.allowance = 0 → e.resume = .primary → exec .ackTimerExpiry s = .next (resent moved
        { queued with rep := { queued.rep with
            queue := queued.rep.queue.map fun x => if x.number = e.number then moved else x } })) ∧
      (e.allowance = 0 → e.resume = .alternate → exec .ackTimerExpiry s = .next { queued with rep := { queued.rep with
        queue := queued.rep.queue.map fun x => { x with resume := .primary, allowance := fresh },
        tx := .holdoff, holdoffTimer := some (s.now + b.holdoff) } })) ∧
    (s.expires s.rep.holdoffTimer → exec .holdoffTimerExpiry s =
      .next (selectionPass { s with rep := { s.rep with holdoffTimer := none, tx := .idle } })) ∧
    (s.expires s.rep.periodicTimer → exec .periodicTimerExpiry s =
      .next (if s.rep.backlog = true then periodic else raise .measure (measureBody s) periodic))

/-- R143, R134, R135, R148: REPORT_ACK: one that matches no entry with an attempt is only counted; one that matches
removes the entry, clears OVERRUN if the entry carried it and BACKLOG if 16 are left, ends an ack wait for it or a
holdoff, and asserts a waiting shutdown if the entry was SHUTDOWN. -/
def Obligations.AckRemovesEntry : Prop :=
  ∀ (n : Half) (s : State), s.powered = true →
    ((∀ e ∈ s.rep.queue, e.number = n → e.attempts = 0) →
      exec (.reportAck n) s = .next (s.countAccepted .radio)) ∧
    (∀ e ∈ s.rep.queue, (s.rep.queue.map ReportEntry.number).Nodup → e.number = n → 1 ≤ e.attempts →
      ∃ t, exec (.reportAck n) s = .next t ∧
        t.rep.queue.map ReportEntry.number = (s.rep.queue.map ReportEntry.number).filter (· ≠ n) ∧
        t.rep.overrun = (s.rep.overrun && !e.overrunCarried) ∧
        t.rep.backlog = (s.rep.backlog && decide (s.rep.queue.length ≠ 17)) ∧
        (s.rep.tx = .awaitAck → e.inFlight = true → t.rep.ackTimer = none) ∧
        (s.rep.tx = .awaitAck → e.inFlight = false → t.rep.tx = .awaitAck ∧ t.rep.ackTimer = s.rep.ackTimer) ∧
        (s.rep.tx = .holdoff → t.rep.tx ≠ .holdoff ∧ t.rep.holdoffTimer = none) ∧
        t.batt = (if e.kind = .shutdown ∧ s.batt.shutdown = .waiting then
          { s.batt with shutdown := .asserted, shutdownTimer := none } else s.batt) ∧
        t.rep.nextNumber = s.rep.nextNumber ∧ t.seq = s.seq ∧ t.poles = s.poles ∧ t.prot = s.prot ∧
        t.holds = s.holds ∧ t.store = s.store ∧ t.line = s.line ∧ t.cmd = s.cmd ∧ t.time = s.time)

/-! ## Frames and ports (08) -/

/-- R153, R154, R156: RELAY is answered, command code 0, with the first reason that holds, and is otherwise appended to
the tank queue with ORIGIN and sent in its turn; RELAY_REPLY is forwarded to the port it names, and a malformed one is
counted as discarded (R150; log 29 for one that reaches the part as this command). Nothing else changes. -/
def Obligations.RelayPassesOrIsAnswered : Prop :=
  (∀ (p : PortId) (n : Half) (payload : List Byte) (s : State), s.takesIn p.run → payload.length ≤ 48 →
    let counted := s.countAccepted p.run
    let answer : Answer → State := fun a => { counted with port := (counted.port.hand p
      { frame := resultFrame p n 0 false a, tag := .result none }).1 }
    let service := (payload.headD 0).toNat
    ((payload = [] ∨ 15 < service) → exec (.relay p n payload) s = .next (answer .badArgument)) ∧
    (payload ≠ [] → service ≤ 15 → s.store.active.relayAllowed p service = false →
      exec (.relay p n payload) s = .next (answer (.plain .notPermitted))) ∧
    (payload ≠ [] → service ≤ 15 → s.store.active.relayAllowed p service = true →
      (4 ≤ s.port.tankQueue.length →
        exec (.relay p n payload) s = .next (answer (.refused .relayFull))) ∧
      (s.port.tankQueue.length < 4 → exec (.relay p n payload) s = .next { counted with port := { counted.port with
        tankBusy := true,
        tankQueue := s.port.tankQueue ++ [
          { destination := .tankHead, kind := .relay, number := n, payload := payload,
            flags := { channel := .primary, overrun := false, backlog := false, timeSet := false, more := false,
                       origin := p } }] } }))) ∧
  (∀ (n : Half) (payload : List Byte) (s : State), s.powered = true → payload.length ≤ 48 →
    ((payload = [] ∨ 1 < (payload.headD 0).toNat) →
      exec (.relayReply n payload) s = .next (s.countDiscarded .tank)) ∧
    (∀ (p : PortId), payload ≠ [] → payload.headD 0 = PortId.code p →
      exec (.relayReply n payload) s = .next { s.countAccepted .tank with
        port := ((s.countAccepted .tank).port.hand p
          { frame := { destination := if p = .radio then .master else .crewHandset, kind := .relayReply, number := n,
                       flags := FrameFlags.none, payload := payload }, tag := .reply }).1 }))

/-- R150, R151, R166: a run that is no accepted frame is counted as discarded, and a run on a crew port that is not
present too; one too short, too long, or with a bad check is such a run; a run of good form has the effect of the
command it spells (log 8). The check is over all the bytes before it (log 44). A COMMAND frame that spells no command is
answered BAD_COMMAND with its first byte. -/
def Obligations.BadRunsAndCommands : Prop :=
  (∀ (port : RunPort) (run : List Byte) (s : State), s.powered = true →
    (decodeRun port run = none → exec (.runDiscarded port run) s = .next (s.countDiscarded port)) ∧
    (port = .crew → s.port.crewPresent ≠ .active →
      exec (.runDiscarded port run) s = .next (s.countDiscarded .crew)) ∧
    ((run.length < 8 ∨ 56 < run.length) → decodeRun port run = none) ∧
    (run.drop (run.length - 2) ≠ be16 (crc16 (run.take (run.length - 2))) → decodeRun port run = none) ∧
    (∀ i, decodeRun port run = some i → exec (.runDiscarded port run) s = exec i s)) ∧
  (∀ (p : PortId) (n : Half) (payload : List Byte) (s : State), s.takesIn p.run → payload.length ≤ 48 →
    parseCommand p n payload = none →
    exec (.badCommand p n payload) s = .next { s.countAccepted p.run with
      port := ((s.countAccepted p.run).port.hand p
        { frame := resultFrame p n (payload.headD 0) false (.plain .badCommand), tag := .result none }).1 }) ∧
  (∀ (p : PortId) (n : Half), parseCommand p n [] = none ∧
    ∀ code args, code.toNat = 0 ∨ 22 < code.toNat → parseCommand p n (code :: args) = none)

/-- R155, R157 to R161, R140, R170: the ends of transmission. Tank: the frame leaves the queue and the next begins.
Radio: an end of a REPORT clears the handed frame and starts the ack timer of the entry awaited; the oldest reply then
begins, else the handed REPORT. Crew: the next of the list begins. The next frame of a paced answer is handed over when
the one before it has gone; with the last its context is IDLE (log 40), with more to come it stays EXECUTING (log 37 for
the crew line). An end with nothing under way has no effect (log 31). Log 11: a REPORT on the air is known by its id. -/
def Obligations.TransmissionEnds : Prop :=
  ∀ s : State, s.powered = true →
    let next : PortUnit → PortUnit := fun q => match s.port.radioPending with
      | f :: rest => if s.port.radioReady = .active then { q with radioLine := some f, radioPending := rest } else q
      | [] => match s.port.handedReport with
        | some f => if s.port.radioReady = .active then { q with radioLine := some f, handedReport := none } else q
        | none => q
    let radioFree := next { s.port with radioLine := none }
    let crewFree : PortUnit := { s.port with crewLine := s.port.crewList.head?, crewList := s.port.crewList.tail }
    let plain : OutFrame → Prop := fun f => f.tag = .reply ∨ f.tag = .notice ∨ f.tag = .result none ∨
      ∃ r, f.tag = .result (some r) ∧ (s.holding r = none ∨ (s.cmd.ctx r.port).frameOut = false)
    (s.port.tankBusy = false → exec .tankTxEnd s = .next s) ∧
    (s.port.tankBusy = true → exec .tankTxEnd s = .next { s with port := { s.port with
      tankQueue := s.port.tankQueue.drop 1, tankBusy := !(s.port.tankQueue.drop 1).isEmpty } }) ∧
    (s.port.radioLine = none → exec .radioTxEnd s = .next s) ∧
    (s.port.crewLine = none → exec .crewTxEnd s = .next s) ∧
    (∀ f, s.port.radioLine = some f → plain f → exec .radioTxEnd s = .next { s with port := radioFree }) ∧
    (∀ f, s.port.crewLine = some f → plain f → exec .crewTxEnd s = .next { s with port := crewFree }) ∧
    (∀ f h, s.port.radioLine = some f → s.rep.handed = some h → f.tag = .report h.id →
      exec .radioTxEnd s = .next { s with
        port := radioFree,
        rep := { s.rep with
          handed := none,
          ackTimer := if s.rep.tx = .awaitAck ∧ ∃ e ∈ s.rep.queue, e.inFlight = true ∧ e.number = h.number then
            some (s.now + s.store.active.ackTimeout) else s.rep.ackTimer } }) ∧
    (∀ f r e d, s.port.radioLine = some f → f.tag = .result (some r) → r.port = .radio → s.holding r = some e →
      (s.cmd.ctx .radio).frameOut = true → e.rest = [d] → ∃ t, exec .radioTxEnd s = .next t ∧
        t.cmd = s.cmd.setCtx .radio .idle ∧ t = { s with cmd := t.cmd, port := t.port } ∧
        (s.port.radioPending.length < 4 → ∃ g ∈ t.port.radioLine.toList ++ t.port.radioPending,
          g.frame = resultFrame .radio e.number (CommandCode.code e.code) false (.done d))) ∧
    (∀ f r e d, s.port.crewLine = some f → f.tag = .result (some r) → r.port = .crew → s.holding r = some e →
      (s.cmd.ctx .crew).frameOut = true → e.rest = [d] → ∃ t, exec .crewTxEnd s = .next t ∧
        t.cmd = s.cmd.setCtx .crew .idle ∧ t = { s with cmd := t.cmd, port := t.port } ∧
        (s.port.crewPresent = .active → s.port.crewList.length < 8 →
          ∃ g ∈ t.port.crewLine.toList ++ t.port.crewList,
            g.frame = resultFrame .crew e.number (CommandCode.code e.code) false (.done d))) ∧
    (∀ f r e d d' rest, s.port.radioLine = some f → f.tag = .result (some r) → r.port = .radio → s.holding r = some e →
      (s.cmd.ctx .radio).frameOut = true → e.rest = d :: d' :: rest → s.port.radioPending.length < 4 →
      ∃ t, exec .radioTxEnd s = .next t ∧
        t.cmd = s.cmd.setCtx .radio
          { executing := some { e with rest := d' :: rest }, discard := false, frameOut := true } ∧
        t = { s with cmd := t.cmd, port := t.port } ∧
        ∃ g ∈ t.port.radioLine.toList ++ t.port.radioPending,
          g.frame = resultFrame .radio e.number (CommandCode.code e.code) true (.done d)) ∧
    (∀ f r e d d' rest, s.port.crewLine = some f → f.tag = .result (some r) → r.port = .crew → s.holding r = some e →
      (s.cmd.ctx .crew).frameOut = true → e.rest = d :: d' :: rest → s.port.crewPresent = .active →
      s.port.crewList.length < 8 →
      ∃ t, exec .crewTxEnd s = .next t ∧
        t.cmd = s.cmd.setCtx .crew
          { executing := some { e with rest := d' :: rest }, discard := false, frameOut := true } ∧
        t = { s with cmd := t.cmd, port := t.port } ∧
        ∃ g ∈ t.port.crewLine.toList ++ t.port.crewList,
          g.frame = resultFrame .crew e.number (CommandCode.code e.code) true (.done d))

/-! ## Commands and results (09) -/

/-- R167, R168: MECH_RESET from the radio and TIME_SET from the crew are answered NOT_PERMITTED before the context is
looked at; any other command that finds its context EXECUTING is answered BUSY with its own code and number, and
changes nothing else. R169 gives CLOSE_IN_PROGRESS to a CLOSE sent again: BUSY is the model's choice there (log 49). -/
def Obligations.RightsThenBusy : Prop :=
  let alone : PortId → Half → Byte → ResultCode → State → State := fun p n code result s =>
    let counted := s.countAccepted p.run
    { counted with port := (counted.port.hand p
        { frame := resultFrame p n code false (.plain result), tag := .result none }).1 }
  (∀ (n : Half) (s : State), s.takesIn .radio →
    exec (.mechReset .radio n) s = .next (alone .radio n 19 .notPermitted s)) ∧
  (∀ (n : Half) (tag : Word) (s : State), s.takesIn .crew →
    exec (.timeSet .crew n tag) s = .next (alone .crew n 20 .notPermitted s)) ∧
  (∀ (i : Instr) (p : PortId) (n : Half) (code : Byte) (args : List Byte) (s : State),
    commandPayload i = some (p, n, code :: args) → i.wf = true → code ≠ 10 →
    (∀ q m l, i ≠ .badCommand q m l) → (p = .radio → code ≠ 19) → (p = .crew → code ≠ 20) →
    s.takesIn p.run → (s.cmd.ctx p).executing.isSome = true →
    exec i s = .next (alone p n code .busy s))

/-- R171, R104, R105, R120, R122: ABORT: an IDLE context answers DONE; a TABLE_READ, a CLOSE in WARNING and a
BATTERY_TEST end, answered ABORTED and then DONE, the context IDLE with no frame out (log 40); anything else goes on, and
ABORT is refused. -/
def Obligations.AbortEndsOrIsRefused : Prop :=
  ∀ (p : PortId) (n : Half) (s : State), s.takesIn p.run →
    let counted := s.countAccepted p.run
    let own : Answer → State → State := fun a t => { t with port := (t.port.hand p
      { frame := resultFrame p n 10 false a, tag := .result none }).1 }
    ((s.cmd.ctx p).executing = none → exec (.abort p n) s = .next (own .done counted)) ∧
    (∀ e, (s.cmd.ctx p).executing = some e → e.code ≠ .tableRead → e.code ≠ .batteryTest → e.code ≠ .close →
      exec (.abort p n) s = .next (own (.refused .notAbortable) counted)) ∧
    (∀ e, (s.cmd.ctx p).executing = some e → e.code = .close →
      (∀ r, s.holds.close = some r → r.phase = .pulsing) →
      exec (.abort p n) s = .next (own (.refused .notAbortable) counted)) ∧
    (∀ e, (s.cmd.ctx p).executing = some e → (s.cmd.ctx p).discard = false → e.code = .tableRead →
      exec (.abort p n) s = .next (own .done (counted.finished ⟨p, e.serial⟩ e.number .tableRead (.aborted [])))) ∧
    (∀ e r, (s.cmd.ctx p).executing = some e → (s.cmd.ctx p).discard = false → e.code = .close →
      s.holds.close = some r → r.phase = .warning →
      exec (.abort p n) s = .next (own .done (State.finished
        { counted with holds := { s.holds with close := none }, line := { s.line with warningEnd := none } }
        ⟨p, e.serial⟩ e.number .close (.aborted [])))) ∧
    (∀ e x, (s.cmd.ctx p).executing = some e → e.code = .batteryTest → s.batt.test = some x →
      ∃ t, exec (.abort p n) s = .next t ∧ t.cmd.ctx p = .idle ∧ t.batt.test = none ∧
        t.batt.lastTest = some { startTag := x.startTag, startVoltage := x.startVoltage, minVoltage := x.minVoltage,
                                 drop := x.startVoltage - x.minVoltage, grade := .aborted, cause := some .abort,
                                 origin := x.origin } ∧
        t.batt.retryWait = (if x.origin = .scheduled then some (s.now + 600000) else s.batt.retryWait) ∧
        t.seq = s.seq ∧ t.poles = s.poles ∧ t.prot = s.prot ∧ t.holds = s.holds ∧ t.store = s.store ∧
        t.line = s.line ∧ t.time = s.time ∧
        ((s.cmd.ctx p).discard = false → t = own .done ((abortTest .abort counted).finished ⟨p, e.serial⟩ e.number
          .batteryTest (.aborted (be32 x.startTag ++ u16 x.startVoltage ++ u16 x.minVoltage ++
            u16 (x.startVoltage - x.minVoltage) ++ [3, 5, TestOrigin.code x.origin])))))

/-! ## Cabinet lines and time base (10) -/

/-- R173, R152, R136, R144, R160: CREW_PRESENT_CHANGE sets the three units' levels; a detach cuts off the crew port's
frames and handles the crew command by its kind (log 40; a command that is no read has no frame out, as every step keeps it:
QueuesStayWithinBounds). RADIO_READY_CHANGE sets the levels; a fall returns the reports to QUEUED on PRIMARY and disables
the transmitter, a rise lets the line begin. R183: under an enabled mask, not at a first acceptance, an active level sets
the input's flag in both sets, and CREW_ATTACHED or CREW_DETACHED is raised (said where no crew BATTERY_TEST ends, whose
own event comes before). The level already accepted is no change, and the receivers take a change in one order (log 9,
log 10). -/
def Obligations.CrewAndRadioChanges : Prop :=
  ∀ (level : Bool) (s : State), s.powered = true →
    let lvl : InputLevel := if level then .active else .inactive
    let c := s.cmd.crew
    let told := decide (s.line.filters.cabinet.crewPresent.accepted ≠ .notYet) && s.line.masks.crewPresent
    let ready := decide (s.line.filters.cabinet.radioReady.accepted ≠ .notYet) && s.line.masks.radioReady
    (s.line.filters.cabinet.crewPresent.accepted = lvl → exec (.crewPresentChange level) s = .next s) ∧
    (s.line.filters.cabinet.radioReady.accepted = lvl → exec (.radioReadyChange level) s = .next s) ∧
    (s.line.filters.cabinet.crewPresent.accepted ≠ lvl → ∃ t, exec (.crewPresentChange level) s = .next t ∧
      t.line.filters.cabinet.crewPresent.accepted = lvl ∧ t.cmd.crewPresent = lvl ∧ t.port.crewPresent = lvl ∧
      t.rep.crewPresent = lvl ∧
      t.line.radioFlags = { s.line.radioFlags with crewPresent := s.line.radioFlags.crewPresent || (level && told) } ∧
      t.line.crewFlags = { s.line.crewFlags with crewPresent := s.line.crewFlags.crewPresent || (level && told) } ∧
      ((level = true ∨ c.executing.map Executing.code ≠ some .batteryTest) →
        let set : State := { s with rep := { s.rep with crewPresent := lvl } }
        let rep := (if told then raise (if level then .crewAttached else .crewDetached) [] set else set).rep
        t.rep.queue = rep.queue ∧ t.rep.nextNumber = rep.nextNumber ∧ t.rep.overrun = rep.overrun ∧
        t.rep.backlog = rep.backlog ∧ t.rep.tx = rep.tx ∧ t.rep.budget = rep.budget) ∧
      (level = true → t.cmd = { s.cmd with crewPresent := .active } ∧ t.batt = s.batt ∧ t.holds = s.holds) ∧
      (level = false → t.port.crewList = [] ∧ t.port.crewLine = none) ∧
      (level = false → c.executing = none → t.cmd.crew = c) ∧
      (∀ e, level = false → c.executing = some e →
        (e.code = .tableRead ∨ e.code = .batteryTest ∨ e.code = .faultRead ∨ e.code = .holdList →
          t.cmd.crew = .idle) ∧
        (e.code = .trip ∨ e.code = .bankSwap ∨ e.code = .holdSet ∨ e.code = .holdClear → c.frameOut = false →
          t.cmd.crew = { c with discard := true }) ∧
        (∀ r, e.code = .close → s.holds.close = some r → r.cmd.port = .crew →
          (r.phase = .warning → t.cmd.crew = .idle ∧ t.holds.close = none ∧ t.line.warningEnd = none) ∧
          (r.phase = .pulsing → c.frameOut = false →
            t.cmd.crew = { c with discard := true } ∧ t.holds = s.holds)) ∧
        (∀ x, e.code = .batteryTest → s.batt.test = some x → t.batt.test = none)) ∧
      t.seq = s.seq ∧ t.poles = s.poles ∧ t.prot = s.prot ∧ t.store = s.store ∧ t.time = s.time ∧
      t.holds.slots = s.holds.slots ∧ t.holds.lever = s.holds.lever) ∧
    (s.line.filters.cabinet.radioReady.accepted ≠ lvl → ∃ t, exec (.radioReadyChange level) s = .next t ∧
      t.line.filters.cabinet.radioReady.accepted = lvl ∧ t.rep.radioReady = lvl ∧ t.port.radioReady = lvl ∧
      t.line.radioFlags = { s.line.radioFlags with radioReady := s.line.radioFlags.radioReady || (level && ready) } ∧
      t.line.crewFlags = { s.line.crewFlags with radioReady := s.line.crewFlags.radioReady || (level && ready) } ∧
      (level = true → (s.rep.tx = .disabled → t.rep.tx ≠ .disabled) ∧
        (s.rep.tx ≠ .disabled → t.rep = { s.rep with radioReady := .active }) ∧
        (t.port.radioLine = none → t.port.radioPending = [] ∧ t.port.handedReport = none)) ∧
      (level = false → t.rep.tx = .disabled ∧ t.port.radioLine = s.port.radioLine ∧
        t.port.radioPending = s.port.radioPending ∧
        (s.rep.tx ≠ .disabled → t.rep.ackTimer = none ∧ t.rep.holdoffTimer = none ∧ t.port.handedReport = none ∧
          t.rep.queue = s.rep.queue.map fun e => { e with
            inFlight := false, resume := .primary, allowance := 1 + s.store.active.retries })) ∧
      t.seq = s.seq ∧ t.poles = s.poles ∧ t.prot = s.prot ∧ t.store = s.store ∧ t.time = s.time ∧
      t.holds = s.holds ∧ t.batt = s.batt ∧ t.cmd = s.cmd)

/-- R88, R60, R183: MANUAL_TRIP_CHANGE: the handle's level follows; accepted active, every pole that no trip was
outstanding on, or that one was in flight on, has a trip in flight or reads OPEN. DOOR_OPEN: both ports' flags are set
and the event is raised under the mask, not at a first acceptance. The level already accepted is no change (log 9). -/
def Obligations.HandleAndDoor : Prop :=
  (∀ (level : Bool) (s : State), s.powered = true →
    let lvl : InputLevel := if level then .active else .inactive
    let old := s.line.filters.cabinet.manualTrip.accepted
    let flag : Bool → Bool := fun f => f || (level && decide (old ≠ .notYet) && s.line.masks.manualTrip)
    (old = lvl → exec (.manualTripChange level) s = .next s) ∧
    (old ≠ lvl → ∃ t, exec (.manualTripChange level) s = .next t ∧
      t.line.filters.cabinet.manualTrip.accepted = lvl ∧ t.poles.handle = lvl ∧
      (level = true → ∀ q, (s.seq.ctx.tripsOut.get q = none ∨ (s.poleRec q).tripping) →
        (t.poleRec q).tripping ∨ (t.poleRec q).position = .opened) ∧
      (level = false → t = { s with line := t.line, poles := { s.poles with handle := .inactive } }) ∧
      t.line.radioFlags.manualTrip = flag s.line.radioFlags.manualTrip ∧
      t.line.crewFlags.manualTrip = flag s.line.crewFlags.manualTrip ∧
      t.store = s.store ∧ t.time = s.time ∧ t.holds.slots = s.holds.slots ∧ t.holds.lever = s.holds.lever ∧
      t.seq.userFlags = s.seq.userFlags)) ∧
  (∀ s : State, s.powered = true →
    let door := s.line.filters.cabinet.door
    let accepted : LineUnit := { s.line with filters := { s.line.filters with cabinet := {
      s.line.filters.cabinet with door := { door with accepted := .active, candidate := none, run := 0 } } } }
    (door.accepted = .active → exec .doorOpen s = .next s) ∧
    (door.accepted = .notYet ∨ (door.accepted = .inactive ∧ s.line.masks.door = false) →
      exec .doorOpen s = .next { s with line := accepted }) ∧
    (door.accepted = .inactive → s.line.masks.door = true →
      exec .doorOpen s = .next (raise .doorOpen [] { s with line := { accepted with
        radioFlags := { s.line.radioFlags with door := true },
        crewFlags := { s.line.crewFlags with door := true } } })))

/-- R180, R184: TIME_SET: the time tag and the time-set flag, and the event with both tags. INPUT_MASK: a bad action
changes nothing; otherwise each mask follows its action, and a mask enabled while its input is accepted active sets that
input's flags. -/
def Obligations.TimeAndMasksSet : Prop :=
  (∀ (n : Half) (tag : Word) (s : State), s.ready .radio →
    exec (.timeSet .radio n tag) s = .next (s.answered .radio n .timeSet .done fun t =>
      raise .timeSet (be32 s.time.timeTag ++ be32 tag)
        { t with time := { t.time with timeTag := tag, timeSet := true } })) ∧
  (∀ (p : PortId) (n : Half) (a : PerMask Byte) (s : State), s.ready p →
    ((∃ i : MaskInput, 2 < (i.get a).toNat) →
      exec (.inputMask p n a) s = .next (s.answered p n .inputMask .badArgument)) ∧
    ((∀ i : MaskInput, (i.get a).toNat ≤ 2) → ∃ t, exec (.inputMask p n a) s = .next t ∧
      t.cmd.ctx p = .idle ∧
      (∀ i : MaskInput,
        i.get t.line.masks = (match (i.get a).toNat with
          | 0 => i.get s.line.masks
          | 1 => true
          | _ => false) ∧
        (let on := !i.get s.line.masks && i.get t.line.masks &&
          decide ((i.get s.line.filters.cabinet).accepted = .active)
         i.get t.line.radioFlags = (i.get s.line.radioFlags || on) ∧
         i.get t.line.crewFlags = (i.get s.line.crewFlags || on))) ∧
      t.line.filters = s.line.filters ∧ t.line.alarmEnd = s.line.alarmEnd ∧ t.line.warningEnd = s.line.warningEnd ∧
      t.batt = s.batt ∧ t.seq = s.seq ∧ t.poles = s.poles ∧ t.prot = s.prot ∧ t.holds = s.holds ∧
      t.store = s.store ∧ t.time = s.time))

/-- R181, R182, R179: LINE_SAMPLE, the first at an even base count: every filter takes its reading by the run rule. Each
accepted change is then handed on with the effect of its change row, a pole's two contacts as one, in the order of log 35;
DOOR accepted inactive has no row and no further effect (log 9). Where no filter accepts a new level nothing else changes.
At an odd base count, and once a sample has been taken at the count, there is no sample (log 5). -/
def Obligations.LineSampleStepsFilters : Prop :=
  ∀ (levels : Inputs Bool) (s : State), s.powered = true →
    let after : Nat → Filter → Bool → Filter := fun count f reading =>
      let lvl : InputLevel := if reading then .active else .inactive
      let run := if f.candidate = some reading then f.run + 1 else 1
      let target := if f.candidate = some reading then f.target else count
      if f.accepted = lvl then { f with candidate := none, run := 0 }
      else if target ≤ run then { accepted := lvl, candidate := none, run := 0, target := target }
      else { f with candidate := some reading, run := run, target := target }
    let counts := s.store.active.filterCounts
    let old := s.line.filters
    let new : Inputs Filter := (counts.zip after old).zip (fun f reading => f reading) levels
    let due := s.now % 2 = 0 ∧ s.paced.sampled = false
    (¬ due → exec (.lineSample levels) s = .next s) ∧
    (due → ∃ t, exec (.lineSample levels) s = .next t ∧ t.line.filters = new ∧
      t.paced = { s.paced with sampled := true } ∧ t.store.active = s.store.active ∧ t.time = s.time) ∧
    (due →
      let changed : Bool → Filter → Filter → Option Bool := fun reading x y =>
        if x.accepted = y.accepted then none else some reading
      let news : Inputs (Option Bool) := (levels.zip changed old).zip (fun f y => f y) new
      let row : (Bool → Instr) → Option Bool → List Instr := fun f x => (x.map f).toList
      let contacts : Pole → Contacts (Option Bool) → List Instr := fun p x =>
        if x.a = none ∧ x.b = none then [] else [.auxChange p x]
      let rows := contacts .a news.aux.a ++ contacts .b news.aux.b ++ contacts .c news.aux.c ++
        row .holdLeverChange news.cabinet.holdLever ++ row .manualTripChange news.cabinet.manualTrip ++
        (if news.cabinet.door = some true then [.doorOpen] else []) ++
        row .acPresentChange news.cabinet.acPresent ++ row .crewPresentChange news.cabinet.crewPresent ++
        row .radioReadyChange news.cabinet.radioReady
      let before : Inputs Filter := (old.zip (fun x y => { y with accepted := x.accepted }) new)
      let door := if news.cabinet.door = some false then new.cabinet.door else before.cabinet.door
      exec (.lineSample levels) s = execAll rows { s with
        line := { s.line with filters := { before with cabinet := { before.cabinet with door := door } } }
        paced := { s.paced with sampled := true } }) ∧
    (due → new.map Filter.accepted = old.map Filter.accepted → exec (.lineSample levels) s =
      .next { s with line := { s.line with filters := new }, paced := { s.paced with sampled := true } })

/-! ## Start-up and restart (11) -/

/-- R191, R192: RESTART: refused with the first condition that holds, changing nothing; otherwise both contexts are
IDLE, the bank is reloaded unless its write is under way, ownership is released, the elements are at rest, the sequence
is in RESET or LOCKOUT (START) by the poles, the seven counts are 0, and the poles, the holds, the energy store, the
measurement record, the exception record, the filters and the time are kept. -/
def Obligations.RestartRefusedOrTaken : Prop :=
  ∀ (p : PortId) (n : Half) (s : State), s.ready p →
    let busy : PoleRecord → Prop := fun r => r.mech ≠ .idle ∧ r.mech ≠ .failed
    let bar : Option Reason :=
      if ∃ q ∈ [s.poleRec .a, s.poleRec .b, s.poleRec .c], q.mech ≠ .idle ∧ q.mech ≠ .failed then some .poleBusy
      else if s.holds.close.isSome = true then some .closeInProgress
      else if s.seq.state = .tripping ∨ s.seq.state = .closing then some .sequenceActive
      else if s.batt.test.isSome = true then some .testActive
      else none
    let writing := s.store.inFlight.map ImageWrite.image = some .settings ∨ ImageId.settings ∈ s.store.waiting
    let closed := ∀ q, (s.poleRec q).position = .closed
    (∀ r, bar = some r → exec (.restart p n) s = .next (s.answered p n .restart (.refused r))) ∧
    ((∃ q, busy (s.poleRec q)) → bar = some .poleBusy) ∧
    (bar = none → ∃ t, exec (.restart p n) s = .next t ∧
      t.cmd.radio = .idle ∧ t.cmd.crew = .idle ∧ t.store.shadow = t.store.active ∧ t.store.owner = none ∧
      t.store.ownerTimer = none ∧ (writing → t.store.active = s.store.active) ∧
      (¬ writing → t.store.active = (match s.store.nv.settings with
        | some b => if b.valid then b else defaultBank
        | none => defaultBank)) ∧
      t.store.nv = s.store.nv ∧ t.store.inFlight = s.store.inFlight ∧ t.store.waiting = s.store.waiting ∧
      t.line.masks = t.store.active.lineMasks ∧ t.line.filters = s.line.filters ∧
      (∀ x, t.prot.elements.get x = { state := .idle, acc := 0, byTime := false, byHighSet := false }) ∧
      t.prot.highSet = ⟨0, 0, 0⟩ ∧ t.prot.episode = none ∧ t.prot.linkUp = s.prot.linkUp ∧
      t.prot.linkTimer = s.prot.linkTimer ∧ t.prot.latest = s.prot.latest ∧ t.prot.keptNumber = s.prot.keptNumber ∧
      t.prot.exception = s.prot.exception ∧ t.prot.latestFlag = s.prot.latestFlag ∧
      (closed → t.seq.state = .reset ∧ t.seq.lamp = false) ∧
      (¬ closed → t.seq.state = .lockout ∧ t.seq.cause = .start ∧ (s.seq.state ≠ .lockout → t.seq.lamp = true)) ∧
      t.seq.shot = 1 ∧ t.seq.openRecord = none ∧ t.seq.deadTimer = none ∧ t.seq.reclaimTimer = none ∧
      t.seq.userFlags = s.seq.userFlags ∧ t.seq.nextRecord = s.seq.nextRecord ∧
      t.seq.faults.map FaultRecord.number = s.seq.faults.map FaultRecord.number ∧
      t.port.accepted = ⟨0, 0, 0⟩ ∧ t.port.discarded = ⟨0, 0, 0⟩ ∧ t.port.gaps = 0 ∧
      t.port.tankQueue = s.port.tankQueue ∧ t.poles = s.poles ∧ t.holds = s.holds ∧ t.time = s.time ∧
      (t.store.active = s.store.active → t.batt = s.batt))

/-! ## What every step keeps -/

/-- R12: the active bank passes validation at all times: every step keeps it so. -/
def Obligations.ActiveBankStaysValid : Prop :=
  ∀ s t : State, s.activeValid → step s = .next t → t.activeValid

/-- R132, R138, R155, R158, R161, R65: the report queue holds at most 64 entries, no two with one number, at most one
IN_FLIGHT and that only in AWAIT_ACK; the ports' lists and the fault record list stay within their lengths; R113, R145:
the coulomb count stays at or below full and the transmit budget at or below its ceiling. A frame is out only for a read
of several frames that is EXECUTING: of a context that is EXECUTING by R165 and R170; that an IDLE context has none out is
the model's choice (log 40). Every step keeps it so. -/
def Obligations.QueuesStayWithinBounds : Prop :=
  (∀ s t : State, s.rep.ok → step s = .next t → t.rep.ok) ∧
  (∀ s t : State, s.listsBounded → step s = .next t → t.listsBounded) ∧
  (∀ s t : State, s.countsBounded → step s = .next t → t.countsBounded) ∧
  (∀ s t : State, s.cmd.framesOk → step s = .next t → t.cmd.framesOk)

/-- R21, R22, R89: an image whose write is in flight has no usable copy, and nothing is pending with nothing in flight;
slot 0 holds the lever hold or none, slots 1 to 7 none of its kind and no two with one origin and tag, in the table and
in every copy of it: every step keeps it so. -/
def Obligations.StoreAndHoldTableStayOk : Prop :=
  (∀ s t : State, s.store.queueOk → step s = .next t → t.store.queueOk) ∧
  (∀ s t : State, s.holdsOk → step s = .next t → t.holdsOk)

/-- R84, R85, R121: no command energises a close coil of a pole unless, as the command found the part, the pole was
IDLE and OPEN, no hold covered it, the handle was inactive, no pole was failed, the link was up, the supply level was
neither CRITICAL nor SHUTDOWN_PENDING, and the energy store stood at the close reserve; and while the test load is
applied no pole has an operation in flight: every step keeps it so. -/
def Obligations.ClosesAreGuarded : Prop :=
  (∀ (i : Instr) (s t : State) (p : Pole), exec i s = .next t →
    (t.poleRec p).mech = .closePulse → (s.poleRec p).mech ≠ .closePulse →
    (s.poleRec p).mech = .idle ∧ (s.poleRec p).position = .opened ∧
    (∀ x ∈ s.holds.table, x.2.scope.get p = false) ∧ s.poles.handle = .inactive ∧
    (∀ q, (s.poleRec q).failed = false) ∧ s.prot.linkUp = true ∧ s.batt.level ≠ .critical ∧
    s.batt.level ≠ .shutdownPending ∧ s.store.active.closeReserve ≤ s.poles.storeVoltage ∧ t.batt.test = none) ∧
  (∀ s t : State, s.loadAlone → step s = .next t → t.loadAlone)

/-- R151, R166 and the frame layouts of 08: every command that a frame carries, written as that frame with its check and
read again as a received run, is the same command with every operand. What the check covers is the model's choice where
08 differs from R150 (log 44). -/
def Obligations.FramesReadBack : Prop :=
  ∀ (i : Instr) (port : RunPort) (f : RawFrame), i.wf = true → encodeFrame i = some (port, f) →
    decodeRun port f.bytes = some i
end

