-- ==== Sys2Proof/Laws/State.lean ====
section
/-! SUPPORT. One lemma per field per update of State, each true by definition: what an update reads back as. -/

namespace Sys2Proof.Machine

/-! ## State.onlyReport -/

@[simp] theorem State.onlyReport_powered (s t : State) : (s.onlyReport t).powered = s.powered := rfl
@[simp] theorem State.onlyReport_time (s t : State) : (s.onlyReport t).time = s.time := rfl
@[simp] theorem State.onlyReport_store (s t : State) : (s.onlyReport t).store = s.store := rfl
@[simp] theorem State.onlyReport_prot (s t : State) : (s.onlyReport t).prot = s.prot := rfl
@[simp] theorem State.onlyReport_seq (s t : State) : (s.onlyReport t).seq = s.seq := rfl
@[simp] theorem State.onlyReport_poles (s t : State) : (s.onlyReport t).poles = s.poles := rfl
@[simp] theorem State.onlyReport_holds (s t : State) : (s.onlyReport t).holds = s.holds := rfl
@[simp] theorem State.onlyReport_batt (s t : State) : (s.onlyReport t).batt = s.batt := rfl
@[simp] theorem State.onlyReport_rep (s t : State) : (s.onlyReport t).rep = t.rep := rfl
@[simp] theorem State.onlyReport_port (s t : State) : (s.onlyReport t).port = t.port := rfl
@[simp] theorem State.onlyReport_cmd (s t : State) : (s.onlyReport t).cmd = s.cmd := rfl
@[simp] theorem State.onlyReport_line (s t : State) : (s.onlyReport t).line = s.line := rfl
@[simp] theorem State.onlyReport_freeCount (s t : State) : (s.onlyReport t).freeCount = s.freeCount := rfl
@[simp] theorem State.onlyReport_paced (s t : State) : (s.onlyReport t).paced = s.paced := rfl
@[simp] theorem State.onlyReport_pending (s t : State) : (s.onlyReport t).pending = s.pending := rfl

/-! ## State.onlyAnswer -/

@[simp] theorem State.onlyAnswer_powered (s t : State) : (s.onlyAnswer t).powered = s.powered := rfl
@[simp] theorem State.onlyAnswer_time (s t : State) : (s.onlyAnswer t).time = s.time := rfl
@[simp] theorem State.onlyAnswer_store (s t : State) : (s.onlyAnswer t).store = s.store := rfl
@[simp] theorem State.onlyAnswer_prot (s t : State) : (s.onlyAnswer t).prot = s.prot := rfl
@[simp] theorem State.onlyAnswer_seq (s t : State) : (s.onlyAnswer t).seq = s.seq := rfl
@[simp] theorem State.onlyAnswer_poles (s t : State) : (s.onlyAnswer t).poles = s.poles := rfl
@[simp] theorem State.onlyAnswer_holds (s t : State) : (s.onlyAnswer t).holds = s.holds := rfl
@[simp] theorem State.onlyAnswer_batt (s t : State) : (s.onlyAnswer t).batt = s.batt := rfl
@[simp] theorem State.onlyAnswer_rep (s t : State) : (s.onlyAnswer t).rep = s.rep := rfl
@[simp] theorem State.onlyAnswer_port (s t : State) : (s.onlyAnswer t).port = t.port := rfl
@[simp] theorem State.onlyAnswer_cmd (s t : State) : (s.onlyAnswer t).cmd = t.cmd := rfl
@[simp] theorem State.onlyAnswer_line (s t : State) : (s.onlyAnswer t).line = s.line := rfl
@[simp] theorem State.onlyAnswer_freeCount (s t : State) : (s.onlyAnswer t).freeCount = s.freeCount := rfl
@[simp] theorem State.onlyAnswer_paced (s t : State) : (s.onlyAnswer t).paced = s.paced := rfl
@[simp] theorem State.onlyAnswer_pending (s t : State) : (s.onlyAnswer t).pending = s.pending := rfl

/-! ## State.onlyBattery -/

@[simp] theorem State.onlyBattery_powered (s t : State) : (s.onlyBattery t).powered = s.powered := rfl
@[simp] theorem State.onlyBattery_time (s t : State) : (s.onlyBattery t).time = s.time := rfl
@[simp] theorem State.onlyBattery_store (s t : State) : (s.onlyBattery t).store = s.store := rfl
@[simp] theorem State.onlyBattery_prot (s t : State) : (s.onlyBattery t).prot = s.prot := rfl
@[simp] theorem State.onlyBattery_seq (s t : State) : (s.onlyBattery t).seq = s.seq := rfl
@[simp] theorem State.onlyBattery_poles (s t : State) : (s.onlyBattery t).poles = s.poles := rfl
@[simp] theorem State.onlyBattery_holds (s t : State) : (s.onlyBattery t).holds = s.holds := rfl
@[simp] theorem State.onlyBattery_batt (s t : State) : (s.onlyBattery t).batt = t.batt := rfl
@[simp] theorem State.onlyBattery_rep (s t : State) : (s.onlyBattery t).rep = t.rep := rfl
@[simp] theorem State.onlyBattery_port (s t : State) : (s.onlyBattery t).port = t.port := rfl
@[simp] theorem State.onlyBattery_cmd (s t : State) : (s.onlyBattery t).cmd = t.cmd := rfl
@[simp] theorem State.onlyBattery_line (s t : State) : (s.onlyBattery t).line = s.line := rfl
@[simp] theorem State.onlyBattery_freeCount (s t : State) : (s.onlyBattery t).freeCount = s.freeCount := rfl
@[simp] theorem State.onlyBattery_paced (s t : State) : (s.onlyBattery t).paced = s.paced := rfl
@[simp] theorem State.onlyBattery_pending (s t : State) : (s.onlyBattery t).pending = s.pending := rfl

/-! ## State.onlyClose -/

@[simp] theorem State.onlyClose_powered (s t : State) : (s.onlyClose t).powered = s.powered := rfl
@[simp] theorem State.onlyClose_time (s t : State) : (s.onlyClose t).time = s.time := rfl
@[simp] theorem State.onlyClose_store (s t : State) : (s.onlyClose t).store = s.store := rfl
@[simp] theorem State.onlyClose_prot (s t : State) : (s.onlyClose t).prot = s.prot := rfl
@[simp] theorem State.onlyClose_seq (s t : State) : (s.onlyClose t).seq = s.seq := rfl
@[simp] theorem State.onlyClose_poles (s t : State) : (s.onlyClose t).poles = s.poles := rfl
@[simp] theorem State.onlyClose_holds (s t : State) : (s.onlyClose t).holds = t.holds := rfl
@[simp] theorem State.onlyClose_batt (s t : State) : (s.onlyClose t).batt = s.batt := rfl
@[simp] theorem State.onlyClose_rep (s t : State) : (s.onlyClose t).rep = t.rep := rfl
@[simp] theorem State.onlyClose_port (s t : State) : (s.onlyClose t).port = t.port := rfl
@[simp] theorem State.onlyClose_cmd (s t : State) : (s.onlyClose t).cmd = t.cmd := rfl
@[simp] theorem State.onlyClose_line (s t : State) : (s.onlyClose t).line = t.line := rfl
@[simp] theorem State.onlyClose_freeCount (s t : State) : (s.onlyClose t).freeCount = s.freeCount := rfl
@[simp] theorem State.onlyClose_paced (s t : State) : (s.onlyClose t).paced = s.paced := rfl
@[simp] theorem State.onlyClose_pending (s t : State) : (s.onlyClose t).pending = s.pending := rfl

/-! ## State.onlyNotice -/

@[simp] theorem State.onlyNotice_powered (s t : State) : (s.onlyNotice t).powered = s.powered := rfl
@[simp] theorem State.onlyNotice_time (s t : State) : (s.onlyNotice t).time = s.time := rfl
@[simp] theorem State.onlyNotice_store (s t : State) : (s.onlyNotice t).store = s.store := rfl
@[simp] theorem State.onlyNotice_prot (s t : State) : (s.onlyNotice t).prot = s.prot := rfl
@[simp] theorem State.onlyNotice_seq (s t : State) : (s.onlyNotice t).seq = s.seq := rfl
@[simp] theorem State.onlyNotice_poles (s t : State) : (s.onlyNotice t).poles = s.poles := rfl
@[simp] theorem State.onlyNotice_holds (s t : State) : (s.onlyNotice t).holds = t.holds := rfl
@[simp] theorem State.onlyNotice_batt (s t : State) : (s.onlyNotice t).batt = t.batt := rfl
@[simp] theorem State.onlyNotice_rep (s t : State) : (s.onlyNotice t).rep = t.rep := rfl
@[simp] theorem State.onlyNotice_port (s t : State) : (s.onlyNotice t).port = t.port := rfl
@[simp] theorem State.onlyNotice_cmd (s t : State) : (s.onlyNotice t).cmd = t.cmd := rfl
@[simp] theorem State.onlyNotice_line (s t : State) : (s.onlyNotice t).line = t.line := rfl
@[simp] theorem State.onlyNotice_freeCount (s t : State) : (s.onlyNotice t).freeCount = s.freeCount := rfl
@[simp] theorem State.onlyNotice_paced (s t : State) : (s.onlyNotice t).paced = s.paced := rfl
@[simp] theorem State.onlyNotice_pending (s t : State) : (s.onlyNotice t).pending = s.pending := rfl

/-! ## State.onlyPoles -/

@[simp] theorem State.onlyPoles_powered (s t : State) : (s.onlyPoles t).powered = s.powered := rfl
@[simp] theorem State.onlyPoles_time (s t : State) : (s.onlyPoles t).time = s.time := rfl
@[simp] theorem State.onlyPoles_store (s t : State) : (s.onlyPoles t).store = s.store := rfl
@[simp] theorem State.onlyPoles_prot (s t : State) : (s.onlyPoles t).prot = s.prot := rfl
@[simp] theorem State.onlyPoles_seq (s t : State) : (s.onlyPoles t).seq = s.seq := rfl
@[simp] theorem State.onlyPoles_poles (s t : State) : (s.onlyPoles t).poles = t.poles := rfl
@[simp] theorem State.onlyPoles_holds (s t : State) : (s.onlyPoles t).holds = t.holds := rfl
@[simp] theorem State.onlyPoles_batt (s t : State) : (s.onlyPoles t).batt = t.batt := rfl
@[simp] theorem State.onlyPoles_rep (s t : State) : (s.onlyPoles t).rep = t.rep := rfl
@[simp] theorem State.onlyPoles_port (s t : State) : (s.onlyPoles t).port = t.port := rfl
@[simp] theorem State.onlyPoles_cmd (s t : State) : (s.onlyPoles t).cmd = t.cmd := rfl
@[simp] theorem State.onlyPoles_line (s t : State) : (s.onlyPoles t).line = t.line := rfl
@[simp] theorem State.onlyPoles_freeCount (s t : State) : (s.onlyPoles t).freeCount = s.freeCount := rfl
@[simp] theorem State.onlyPoles_paced (s t : State) : (s.onlyPoles t).paced = s.paced := rfl
@[simp] theorem State.onlyPoles_pending (s t : State) : (s.onlyPoles t).pending = s.pending := rfl

/-! ## State.onlySequence -/

@[simp] theorem State.onlySequence_powered (s t : State) : (s.onlySequence t).powered = s.powered := rfl
@[simp] theorem State.onlySequence_time (s t : State) : (s.onlySequence t).time = s.time := rfl
@[simp] theorem State.onlySequence_store (s t : State) : (s.onlySequence t).store = s.store := rfl
@[simp] theorem State.onlySequence_prot (s t : State) : (s.onlySequence t).prot = t.prot := rfl
@[simp] theorem State.onlySequence_seq (s t : State) : (s.onlySequence t).seq = t.seq := rfl
@[simp] theorem State.onlySequence_poles (s t : State) : (s.onlySequence t).poles = t.poles := rfl
@[simp] theorem State.onlySequence_holds (s t : State) : (s.onlySequence t).holds = t.holds := rfl
@[simp] theorem State.onlySequence_batt (s t : State) : (s.onlySequence t).batt = t.batt := rfl
@[simp] theorem State.onlySequence_rep (s t : State) : (s.onlySequence t).rep = t.rep := rfl
@[simp] theorem State.onlySequence_port (s t : State) : (s.onlySequence t).port = t.port := rfl
@[simp] theorem State.onlySequence_cmd (s t : State) : (s.onlySequence t).cmd = t.cmd := rfl
@[simp] theorem State.onlySequence_line (s t : State) : (s.onlySequence t).line = t.line := rfl
@[simp] theorem State.onlySequence_freeCount (s t : State) : (s.onlySequence t).freeCount = t.freeCount := rfl
@[simp] theorem State.onlySequence_paced (s t : State) : (s.onlySequence t).paced = s.paced := rfl
@[simp] theorem State.onlySequence_pending (s t : State) : (s.onlySequence t).pending = s.pending := rfl

/-! ## State.withSeq -/

@[simp] theorem State.withSeq_powered (s : State) (q : Sequence) : (s.withSeq q).powered = s.powered := rfl
@[simp] theorem State.withSeq_time (s : State) (q : Sequence) : (s.withSeq q).time = s.time := rfl
@[simp] theorem State.withSeq_store (s : State) (q : Sequence) : (s.withSeq q).store = s.store := rfl
@[simp] theorem State.withSeq_prot (s : State) (q : Sequence) : (s.withSeq q).prot = s.prot := rfl
@[simp] theorem State.withSeq_seq (s : State) (q : Sequence) : (s.withSeq q).seq = q := rfl
@[simp] theorem State.withSeq_poles (s : State) (q : Sequence) : (s.withSeq q).poles = s.poles := rfl
@[simp] theorem State.withSeq_holds (s : State) (q : Sequence) : (s.withSeq q).holds = s.holds := rfl
@[simp] theorem State.withSeq_batt (s : State) (q : Sequence) : (s.withSeq q).batt = s.batt := rfl
@[simp] theorem State.withSeq_rep (s : State) (q : Sequence) : (s.withSeq q).rep = s.rep := rfl
@[simp] theorem State.withSeq_port (s : State) (q : Sequence) : (s.withSeq q).port = s.port := rfl
@[simp] theorem State.withSeq_cmd (s : State) (q : Sequence) : (s.withSeq q).cmd = s.cmd := rfl
@[simp] theorem State.withSeq_line (s : State) (q : Sequence) : (s.withSeq q).line = s.line := rfl
@[simp] theorem State.withSeq_freeCount (s : State) (q : Sequence) : (s.withSeq q).freeCount = s.freeCount := rfl
@[simp] theorem State.withSeq_paced (s : State) (q : Sequence) : (s.withSeq q).paced = s.paced := rfl
@[simp] theorem State.withSeq_pending (s : State) (q : Sequence) : (s.withSeq q).pending = s.pending := rfl

/-! ## State.withPole -/

@[simp] theorem State.withPole_powered (s : State) (p : Pole) (r : PoleRecord) : (s.withPole p r).powered = s.powered := rfl
@[simp] theorem State.withPole_time (s : State) (p : Pole) (r : PoleRecord) : (s.withPole p r).time = s.time := rfl
@[simp] theorem State.withPole_store (s : State) (p : Pole) (r : PoleRecord) : (s.withPole p r).store = s.store := rfl
@[simp] theorem State.withPole_prot (s : State) (p : Pole) (r : PoleRecord) : (s.withPole p r).prot = s.prot := rfl
@[simp] theorem State.withPole_seq (s : State) (p : Pole) (r : PoleRecord) : (s.withPole p r).seq = s.seq := rfl
@[simp] theorem State.withPole_poles (s : State) (p : Pole) (r : PoleRecord) : (s.withPole p r).poles = { s.poles with pole := s.poles.pole.set p r } := rfl
@[simp] theorem State.withPole_holds (s : State) (p : Pole) (r : PoleRecord) : (s.withPole p r).holds = s.holds := rfl
@[simp] theorem State.withPole_batt (s : State) (p : Pole) (r : PoleRecord) : (s.withPole p r).batt = s.batt := rfl
@[simp] theorem State.withPole_rep (s : State) (p : Pole) (r : PoleRecord) : (s.withPole p r).rep = s.rep := rfl
@[simp] theorem State.withPole_port (s : State) (p : Pole) (r : PoleRecord) : (s.withPole p r).port = s.port := rfl
@[simp] theorem State.withPole_cmd (s : State) (p : Pole) (r : PoleRecord) : (s.withPole p r).cmd = s.cmd := rfl
@[simp] theorem State.withPole_line (s : State) (p : Pole) (r : PoleRecord) : (s.withPole p r).line = s.line := rfl
@[simp] theorem State.withPole_freeCount (s : State) (p : Pole) (r : PoleRecord) : (s.withPole p r).freeCount = s.freeCount := rfl
@[simp] theorem State.withPole_paced (s : State) (p : Pole) (r : PoleRecord) : (s.withPole p r).paced = s.paced := rfl
@[simp] theorem State.withPole_pending (s : State) (p : Pole) (r : PoleRecord) : (s.withPole p r).pending = s.pending := rfl

/-! ## State.withSlot -/

@[simp] theorem State.withSlot_powered (s : State) (k : Nat) (x : Option Hold) : (s.withSlot k x).powered = s.powered := rfl
@[simp] theorem State.withSlot_time (s : State) (k : Nat) (x : Option Hold) : (s.withSlot k x).time = s.time := rfl
@[simp] theorem State.withSlot_store (s : State) (k : Nat) (x : Option Hold) : (s.withSlot k x).store = s.store := rfl
@[simp] theorem State.withSlot_prot (s : State) (k : Nat) (x : Option Hold) : (s.withSlot k x).prot = s.prot := rfl
@[simp] theorem State.withSlot_seq (s : State) (k : Nat) (x : Option Hold) : (s.withSlot k x).seq = s.seq := rfl
@[simp] theorem State.withSlot_poles (s : State) (k : Nat) (x : Option Hold) : (s.withSlot k x).poles = s.poles := rfl
@[simp] theorem State.withSlot_holds (s : State) (k : Nat) (x : Option Hold) : (s.withSlot k x).holds = s.holds.setSlot k x := rfl
@[simp] theorem State.withSlot_batt (s : State) (k : Nat) (x : Option Hold) : (s.withSlot k x).batt = s.batt := rfl
@[simp] theorem State.withSlot_rep (s : State) (k : Nat) (x : Option Hold) : (s.withSlot k x).rep = s.rep := rfl
@[simp] theorem State.withSlot_port (s : State) (k : Nat) (x : Option Hold) : (s.withSlot k x).port = s.port := rfl
@[simp] theorem State.withSlot_cmd (s : State) (k : Nat) (x : Option Hold) : (s.withSlot k x).cmd = s.cmd := rfl
@[simp] theorem State.withSlot_line (s : State) (k : Nat) (x : Option Hold) : (s.withSlot k x).line = s.line := rfl
@[simp] theorem State.withSlot_freeCount (s : State) (k : Nat) (x : Option Hold) : (s.withSlot k x).freeCount = s.freeCount := rfl
@[simp] theorem State.withSlot_paced (s : State) (k : Nat) (x : Option Hold) : (s.withSlot k x).paced = s.paced := rfl
@[simp] theorem State.withSlot_pending (s : State) (k : Nat) (x : Option Hold) : (s.withSlot k x).pending = s.pending := rfl

/-! ## State.withoutClose -/

@[simp] theorem State.withoutClose_powered (s : State) : (s.withoutClose).powered = s.powered := rfl
@[simp] theorem State.withoutClose_time (s : State) : (s.withoutClose).time = s.time := rfl
@[simp] theorem State.withoutClose_store (s : State) : (s.withoutClose).store = s.store := rfl
@[simp] theorem State.withoutClose_prot (s : State) : (s.withoutClose).prot = s.prot := rfl
@[simp] theorem State.withoutClose_seq (s : State) : (s.withoutClose).seq = s.seq := rfl
@[simp] theorem State.withoutClose_poles (s : State) : (s.withoutClose).poles = s.poles := rfl
@[simp] theorem State.withoutClose_holds (s : State) : (s.withoutClose).holds = { s.holds with close := none } := rfl
@[simp] theorem State.withoutClose_batt (s : State) : (s.withoutClose).batt = s.batt := rfl
@[simp] theorem State.withoutClose_rep (s : State) : (s.withoutClose).rep = s.rep := rfl
@[simp] theorem State.withoutClose_port (s : State) : (s.withoutClose).port = s.port := rfl
@[simp] theorem State.withoutClose_cmd (s : State) : (s.withoutClose).cmd = s.cmd := rfl
@[simp] theorem State.withoutClose_line (s : State) : (s.withoutClose).line = s.line := rfl
@[simp] theorem State.withoutClose_freeCount (s : State) : (s.withoutClose).freeCount = s.freeCount := rfl
@[simp] theorem State.withoutClose_paced (s : State) : (s.withoutClose).paced = s.paced := rfl
@[simp] theorem State.withoutClose_pending (s : State) : (s.withoutClose).pending = s.pending := rfl

/-! ## State.withdrawWarning -/

@[simp] theorem State.withdrawWarning_powered (s : State) : (s.withdrawWarning).powered = s.powered := rfl
@[simp] theorem State.withdrawWarning_time (s : State) : (s.withdrawWarning).time = s.time := rfl
@[simp] theorem State.withdrawWarning_store (s : State) : (s.withdrawWarning).store = s.store := rfl
@[simp] theorem State.withdrawWarning_prot (s : State) : (s.withdrawWarning).prot = s.prot := rfl
@[simp] theorem State.withdrawWarning_seq (s : State) : (s.withdrawWarning).seq = s.seq := rfl
@[simp] theorem State.withdrawWarning_poles (s : State) : (s.withdrawWarning).poles = s.poles := rfl
@[simp] theorem State.withdrawWarning_holds (s : State) : (s.withdrawWarning).holds = s.holds := rfl
@[simp] theorem State.withdrawWarning_batt (s : State) : (s.withdrawWarning).batt = s.batt := rfl
@[simp] theorem State.withdrawWarning_rep (s : State) : (s.withdrawWarning).rep = s.rep := rfl
@[simp] theorem State.withdrawWarning_port (s : State) : (s.withdrawWarning).port = s.port := rfl
@[simp] theorem State.withdrawWarning_cmd (s : State) : (s.withdrawWarning).cmd = s.cmd := rfl
@[simp] theorem State.withdrawWarning_line (s : State) : (s.withdrawWarning).line = { s.line with warningEnd := none } := rfl
@[simp] theorem State.withdrawWarning_freeCount (s : State) : (s.withdrawWarning).freeCount = s.freeCount := rfl
@[simp] theorem State.withdrawWarning_paced (s : State) : (s.withdrawWarning).paced = s.paced := rfl
@[simp] theorem State.withdrawWarning_pending (s : State) : (s.withdrawWarning).pending = s.pending := rfl

/-! ## State.idleCtx -/

@[simp] theorem State.idleCtx_powered (s : State) (p : PortId) : (s.idleCtx p).powered = s.powered := rfl
@[simp] theorem State.idleCtx_time (s : State) (p : PortId) : (s.idleCtx p).time = s.time := rfl
@[simp] theorem State.idleCtx_store (s : State) (p : PortId) : (s.idleCtx p).store = s.store := rfl
@[simp] theorem State.idleCtx_prot (s : State) (p : PortId) : (s.idleCtx p).prot = s.prot := rfl
@[simp] theorem State.idleCtx_seq (s : State) (p : PortId) : (s.idleCtx p).seq = s.seq := rfl
@[simp] theorem State.idleCtx_poles (s : State) (p : PortId) : (s.idleCtx p).poles = s.poles := rfl
@[simp] theorem State.idleCtx_holds (s : State) (p : PortId) : (s.idleCtx p).holds = s.holds := rfl
@[simp] theorem State.idleCtx_batt (s : State) (p : PortId) : (s.idleCtx p).batt = s.batt := rfl
@[simp] theorem State.idleCtx_rep (s : State) (p : PortId) : (s.idleCtx p).rep = s.rep := rfl
@[simp] theorem State.idleCtx_port (s : State) (p : PortId) : (s.idleCtx p).port = s.port := rfl
@[simp] theorem State.idleCtx_cmd (s : State) (p : PortId) : (s.idleCtx p).cmd = s.cmd.setCtx p .idle := rfl
@[simp] theorem State.idleCtx_line (s : State) (p : PortId) : (s.idleCtx p).line = s.line := rfl
@[simp] theorem State.idleCtx_freeCount (s : State) (p : PortId) : (s.idleCtx p).freeCount = s.freeCount := rfl
@[simp] theorem State.idleCtx_paced (s : State) (p : PortId) : (s.idleCtx p).paced = s.paced := rfl
@[simp] theorem State.idleCtx_pending (s : State) (p : PortId) : (s.idleCtx p).pending = s.pending := rfl

/-! ## State.countAccepted -/

@[simp] theorem State.countAccepted_powered (s : State) (p : RunPort) : (s.countAccepted p).powered = s.powered := rfl
@[simp] theorem State.countAccepted_time (s : State) (p : RunPort) : (s.countAccepted p).time = s.time := rfl
@[simp] theorem State.countAccepted_store (s : State) (p : RunPort) : (s.countAccepted p).store = s.store := rfl
@[simp] theorem State.countAccepted_prot (s : State) (p : RunPort) : (s.countAccepted p).prot = s.prot := rfl
@[simp] theorem State.countAccepted_seq (s : State) (p : RunPort) : (s.countAccepted p).seq = s.seq := rfl
@[simp] theorem State.countAccepted_poles (s : State) (p : RunPort) : (s.countAccepted p).poles = s.poles := rfl
@[simp] theorem State.countAccepted_holds (s : State) (p : RunPort) : (s.countAccepted p).holds = s.holds := rfl
@[simp] theorem State.countAccepted_batt (s : State) (p : RunPort) : (s.countAccepted p).batt = s.batt := rfl
@[simp] theorem State.countAccepted_rep (s : State) (p : RunPort) : (s.countAccepted p).rep = s.rep := rfl
@[simp] theorem State.countAccepted_port (s : State) (p : RunPort) : (s.countAccepted p).port = { s.port with accepted := s.port.accepted.set p (satInc (s.port.accepted.get p)) } := rfl
@[simp] theorem State.countAccepted_cmd (s : State) (p : RunPort) : (s.countAccepted p).cmd = s.cmd := rfl
@[simp] theorem State.countAccepted_line (s : State) (p : RunPort) : (s.countAccepted p).line = s.line := rfl
@[simp] theorem State.countAccepted_freeCount (s : State) (p : RunPort) : (s.countAccepted p).freeCount = s.freeCount := rfl
@[simp] theorem State.countAccepted_paced (s : State) (p : RunPort) : (s.countAccepted p).paced = s.paced := rfl
@[simp] theorem State.countAccepted_pending (s : State) (p : RunPort) : (s.countAccepted p).pending = s.pending := rfl

/-! ## State.countDiscarded -/

@[simp] theorem State.countDiscarded_powered (s : State) (p : RunPort) : (s.countDiscarded p).powered = s.powered := rfl
@[simp] theorem State.countDiscarded_time (s : State) (p : RunPort) : (s.countDiscarded p).time = s.time := rfl
@[simp] theorem State.countDiscarded_store (s : State) (p : RunPort) : (s.countDiscarded p).store = s.store := rfl
@[simp] theorem State.countDiscarded_prot (s : State) (p : RunPort) : (s.countDiscarded p).prot = s.prot := rfl
@[simp] theorem State.countDiscarded_seq (s : State) (p : RunPort) : (s.countDiscarded p).seq = s.seq := rfl
@[simp] theorem State.countDiscarded_poles (s : State) (p : RunPort) : (s.countDiscarded p).poles = s.poles := rfl
@[simp] theorem State.countDiscarded_holds (s : State) (p : RunPort) : (s.countDiscarded p).holds = s.holds := rfl
@[simp] theorem State.countDiscarded_batt (s : State) (p : RunPort) : (s.countDiscarded p).batt = s.batt := rfl
@[simp] theorem State.countDiscarded_rep (s : State) (p : RunPort) : (s.countDiscarded p).rep = s.rep := rfl
@[simp] theorem State.countDiscarded_port (s : State) (p : RunPort) : (s.countDiscarded p).port = { s.port with discarded := s.port.discarded.set p (satInc (s.port.discarded.get p)) } := rfl
@[simp] theorem State.countDiscarded_cmd (s : State) (p : RunPort) : (s.countDiscarded p).cmd = s.cmd := rfl
@[simp] theorem State.countDiscarded_line (s : State) (p : RunPort) : (s.countDiscarded p).line = s.line := rfl
@[simp] theorem State.countDiscarded_freeCount (s : State) (p : RunPort) : (s.countDiscarded p).freeCount = s.freeCount := rfl
@[simp] theorem State.countDiscarded_paced (s : State) (p : RunPort) : (s.countDiscarded p).paced = s.paced := rfl
@[simp] theorem State.countDiscarded_pending (s : State) (p : RunPort) : (s.countDiscarded p).pending = s.pending := rfl

/-! ## State.withFilters -/

@[simp] theorem State.withFilters_powered (s : State) (f : Inputs Filter) : (s.withFilters f).powered = s.powered := rfl
@[simp] theorem State.withFilters_time (s : State) (f : Inputs Filter) : (s.withFilters f).time = s.time := rfl
@[simp] theorem State.withFilters_store (s : State) (f : Inputs Filter) : (s.withFilters f).store = s.store := rfl
@[simp] theorem State.withFilters_prot (s : State) (f : Inputs Filter) : (s.withFilters f).prot = s.prot := rfl
@[simp] theorem State.withFilters_seq (s : State) (f : Inputs Filter) : (s.withFilters f).seq = s.seq := rfl
@[simp] theorem State.withFilters_poles (s : State) (f : Inputs Filter) : (s.withFilters f).poles = s.poles := rfl
@[simp] theorem State.withFilters_holds (s : State) (f : Inputs Filter) : (s.withFilters f).holds = s.holds := rfl
@[simp] theorem State.withFilters_batt (s : State) (f : Inputs Filter) : (s.withFilters f).batt = s.batt := rfl
@[simp] theorem State.withFilters_rep (s : State) (f : Inputs Filter) : (s.withFilters f).rep = s.rep := rfl
@[simp] theorem State.withFilters_port (s : State) (f : Inputs Filter) : (s.withFilters f).port = s.port := rfl
@[simp] theorem State.withFilters_cmd (s : State) (f : Inputs Filter) : (s.withFilters f).cmd = s.cmd := rfl
@[simp] theorem State.withFilters_line (s : State) (f : Inputs Filter) : (s.withFilters f).line = { s.line with filters := f } := rfl
@[simp] theorem State.withFilters_freeCount (s : State) (f : Inputs Filter) : (s.withFilters f).freeCount = s.freeCount := rfl
@[simp] theorem State.withFilters_paced (s : State) (f : Inputs Filter) : (s.withFilters f).paced = s.paced := rfl
@[simp] theorem State.withFilters_pending (s : State) (f : Inputs Filter) : (s.withFilters f).pending = s.pending := rfl

/-! ## State.askAlarm -/

@[simp] theorem State.askAlarm_powered (s : State) : (s.askAlarm).powered = s.powered := rfl
@[simp] theorem State.askAlarm_time (s : State) : (s.askAlarm).time = s.time := rfl
@[simp] theorem State.askAlarm_store (s : State) : (s.askAlarm).store = s.store := rfl
@[simp] theorem State.askAlarm_prot (s : State) : (s.askAlarm).prot = s.prot := rfl
@[simp] theorem State.askAlarm_seq (s : State) : (s.askAlarm).seq = s.seq := rfl
@[simp] theorem State.askAlarm_poles (s : State) : (s.askAlarm).poles = s.poles := rfl
@[simp] theorem State.askAlarm_holds (s : State) : (s.askAlarm).holds = s.holds := rfl
@[simp] theorem State.askAlarm_batt (s : State) : (s.askAlarm).batt = s.batt := rfl
@[simp] theorem State.askAlarm_rep (s : State) : (s.askAlarm).rep = s.rep := rfl
@[simp] theorem State.askAlarm_port (s : State) : (s.askAlarm).port = s.port := rfl
@[simp] theorem State.askAlarm_cmd (s : State) : (s.askAlarm).cmd = s.cmd := rfl
@[simp] theorem State.askAlarm_freeCount (s : State) : (s.askAlarm).freeCount = s.freeCount := rfl
@[simp] theorem State.askAlarm_paced (s : State) : (s.askAlarm).paced = s.paced := rfl
@[simp] theorem State.askAlarm_pending (s : State) : (s.askAlarm).pending = s.pending := rfl

/-! ## State.spend -/

@[simp] theorem State.spend_powered (n : Nat) (s : State) : (s.spend n).powered = s.powered := rfl
@[simp] theorem State.spend_time (n : Nat) (s : State) : (s.spend n).time = s.time := rfl
@[simp] theorem State.spend_store (n : Nat) (s : State) : (s.spend n).store = s.store := rfl
@[simp] theorem State.spend_prot (n : Nat) (s : State) : (s.spend n).prot = s.prot := rfl
@[simp] theorem State.spend_seq (n : Nat) (s : State) : (s.spend n).seq = s.seq := rfl
@[simp] theorem State.spend_poles (n : Nat) (s : State) : (s.spend n).poles = s.poles := rfl
@[simp] theorem State.spend_holds (n : Nat) (s : State) : (s.spend n).holds = s.holds := rfl
@[simp] theorem State.spend_batt (n : Nat) (s : State) : (s.spend n).batt = s.batt := rfl
@[simp] theorem State.spend_rep (n : Nat) (s : State) : (s.spend n).rep = s.rep := rfl
@[simp] theorem State.spend_port (n : Nat) (s : State) : (s.spend n).port = s.port := rfl
@[simp] theorem State.spend_cmd (n : Nat) (s : State) : (s.spend n).cmd = s.cmd := rfl
@[simp] theorem State.spend_line (n : Nat) (s : State) : (s.spend n).line = s.line := rfl
@[simp] theorem State.spend_pending (n : Nat) (s : State) : (s.spend n).pending = s.pending := rfl
@[simp] theorem State.spend_freeCount (n : Nat) (s : State) : (s.spend n).freeCount = s.freeCount + n := rfl
@[simp] theorem State.spend_paced (n : Nat) (s : State) : (s.spend n).paced = s.paced := rfl

end Sys2Proof.Machine
end

