-- ==== Sys2Proof/Laws/Frames.lean ====
section
/-! SUPPORT. What each shared operation leaves alone: one lemma per operation and block it does not change, each true by
definition, for every state and outcome. -/

namespace Sys2Proof.Machine

/-! ## raise -/

@[simp] theorem raise_powered (k : EventKind) (b : List Byte) (s : State) : (raise k b s).powered = s.powered := rfl
@[simp] theorem raise_time (k : EventKind) (b : List Byte) (s : State) : (raise k b s).time = s.time := rfl
@[simp] theorem raise_store (k : EventKind) (b : List Byte) (s : State) : (raise k b s).store = s.store := rfl
@[simp] theorem raise_prot (k : EventKind) (b : List Byte) (s : State) : (raise k b s).prot = s.prot := rfl
@[simp] theorem raise_seq (k : EventKind) (b : List Byte) (s : State) : (raise k b s).seq = s.seq := rfl
@[simp] theorem raise_poles (k : EventKind) (b : List Byte) (s : State) : (raise k b s).poles = s.poles := rfl
@[simp] theorem raise_holds (k : EventKind) (b : List Byte) (s : State) : (raise k b s).holds = s.holds := rfl
@[simp] theorem raise_batt (k : EventKind) (b : List Byte) (s : State) : (raise k b s).batt = s.batt := rfl
@[simp] theorem raise_cmd (k : EventKind) (b : List Byte) (s : State) : (raise k b s).cmd = s.cmd := rfl
@[simp] theorem raise_line (k : EventKind) (b : List Byte) (s : State) : (raise k b s).line = s.line := rfl
@[simp] theorem raise_freeCount (k : EventKind) (b : List Byte) (s : State) : (raise k b s).freeCount = s.freeCount := rfl
@[simp] theorem raise_paced (k : EventKind) (b : List Byte) (s : State) : (raise k b s).paced = s.paced := rfl
@[simp] theorem raise_pending (k : EventKind) (b : List Byte) (s : State) : (raise k b s).pending = s.pending := rfl

/-! ## complete -/

@[simp] theorem complete_powered (r : CmdRef) (a : Answer) (s : State) : (complete r a s).powered = s.powered := rfl
@[simp] theorem complete_time (r : CmdRef) (a : Answer) (s : State) : (complete r a s).time = s.time := rfl
@[simp] theorem complete_store (r : CmdRef) (a : Answer) (s : State) : (complete r a s).store = s.store := rfl
@[simp] theorem complete_prot (r : CmdRef) (a : Answer) (s : State) : (complete r a s).prot = s.prot := rfl
@[simp] theorem complete_seq (r : CmdRef) (a : Answer) (s : State) : (complete r a s).seq = s.seq := rfl
@[simp] theorem complete_poles (r : CmdRef) (a : Answer) (s : State) : (complete r a s).poles = s.poles := rfl
@[simp] theorem complete_holds (r : CmdRef) (a : Answer) (s : State) : (complete r a s).holds = s.holds := rfl
@[simp] theorem complete_batt (r : CmdRef) (a : Answer) (s : State) : (complete r a s).batt = s.batt := rfl
@[simp] theorem complete_rep (r : CmdRef) (a : Answer) (s : State) : (complete r a s).rep = s.rep := rfl
@[simp] theorem complete_line (r : CmdRef) (a : Answer) (s : State) : (complete r a s).line = s.line := rfl
@[simp] theorem complete_freeCount (r : CmdRef) (a : Answer) (s : State) : (complete r a s).freeCount = s.freeCount := rfl
@[simp] theorem complete_paced (r : CmdRef) (a : Answer) (s : State) : (complete r a s).paced = s.paced := rfl
@[simp] theorem complete_pending (r : CmdRef) (a : Answer) (s : State) : (complete r a s).pending = s.pending := rfl

/-! ## completeTwo -/

@[simp] theorem completeTwo_powered (r : CmdRef) (x y : List Byte) (s : State) : (completeTwo r x y s).powered = s.powered := rfl
@[simp] theorem completeTwo_time (r : CmdRef) (x y : List Byte) (s : State) : (completeTwo r x y s).time = s.time := rfl
@[simp] theorem completeTwo_store (r : CmdRef) (x y : List Byte) (s : State) : (completeTwo r x y s).store = s.store := rfl
@[simp] theorem completeTwo_prot (r : CmdRef) (x y : List Byte) (s : State) : (completeTwo r x y s).prot = s.prot := rfl
@[simp] theorem completeTwo_seq (r : CmdRef) (x y : List Byte) (s : State) : (completeTwo r x y s).seq = s.seq := rfl
@[simp] theorem completeTwo_poles (r : CmdRef) (x y : List Byte) (s : State) : (completeTwo r x y s).poles = s.poles := rfl
@[simp] theorem completeTwo_holds (r : CmdRef) (x y : List Byte) (s : State) : (completeTwo r x y s).holds = s.holds := rfl
@[simp] theorem completeTwo_batt (r : CmdRef) (x y : List Byte) (s : State) : (completeTwo r x y s).batt = s.batt := rfl
@[simp] theorem completeTwo_rep (r : CmdRef) (x y : List Byte) (s : State) : (completeTwo r x y s).rep = s.rep := rfl
@[simp] theorem completeTwo_line (r : CmdRef) (x y : List Byte) (s : State) : (completeTwo r x y s).line = s.line := rfl
@[simp] theorem completeTwo_freeCount (r : CmdRef) (x y : List Byte) (s : State) : (completeTwo r x y s).freeCount = s.freeCount := rfl
@[simp] theorem completeTwo_paced (r : CmdRef) (x y : List Byte) (s : State) : (completeTwo r x y s).paced = s.paced := rfl
@[simp] theorem completeTwo_pending (r : CmdRef) (x y : List Byte) (s : State) : (completeTwo r x y s).pending = s.pending := rfl

/-! ## completeFrames -/

@[simp] theorem completeFrames_powered (r : CmdRef) (l : List (List Byte)) (s : State) : (completeFrames r l s).powered = s.powered := rfl
@[simp] theorem completeFrames_time (r : CmdRef) (l : List (List Byte)) (s : State) : (completeFrames r l s).time = s.time := rfl
@[simp] theorem completeFrames_store (r : CmdRef) (l : List (List Byte)) (s : State) : (completeFrames r l s).store = s.store := rfl
@[simp] theorem completeFrames_prot (r : CmdRef) (l : List (List Byte)) (s : State) : (completeFrames r l s).prot = s.prot := rfl
@[simp] theorem completeFrames_seq (r : CmdRef) (l : List (List Byte)) (s : State) : (completeFrames r l s).seq = s.seq := rfl
@[simp] theorem completeFrames_poles (r : CmdRef) (l : List (List Byte)) (s : State) : (completeFrames r l s).poles = s.poles := rfl
@[simp] theorem completeFrames_holds (r : CmdRef) (l : List (List Byte)) (s : State) : (completeFrames r l s).holds = s.holds := rfl
@[simp] theorem completeFrames_batt (r : CmdRef) (l : List (List Byte)) (s : State) : (completeFrames r l s).batt = s.batt := rfl
@[simp] theorem completeFrames_rep (r : CmdRef) (l : List (List Byte)) (s : State) : (completeFrames r l s).rep = s.rep := rfl
@[simp] theorem completeFrames_line (r : CmdRef) (l : List (List Byte)) (s : State) : (completeFrames r l s).line = s.line := rfl
@[simp] theorem completeFrames_freeCount (r : CmdRef) (l : List (List Byte)) (s : State) : (completeFrames r l s).freeCount = s.freeCount := rfl
@[simp] theorem completeFrames_paced (r : CmdRef) (l : List (List Byte)) (s : State) : (completeFrames r l s).paced = s.paced := rfl
@[simp] theorem completeFrames_pending (r : CmdRef) (l : List (List Byte)) (s : State) : (completeFrames r l s).pending = s.pending := rfl

/-! ## frameReported -/

@[simp] theorem frameReported_powered (r : CmdRef) (s : State) : (frameReported r s).powered = s.powered := rfl
@[simp] theorem frameReported_time (r : CmdRef) (s : State) : (frameReported r s).time = s.time := rfl
@[simp] theorem frameReported_store (r : CmdRef) (s : State) : (frameReported r s).store = s.store := rfl
@[simp] theorem frameReported_prot (r : CmdRef) (s : State) : (frameReported r s).prot = s.prot := rfl
@[simp] theorem frameReported_seq (r : CmdRef) (s : State) : (frameReported r s).seq = s.seq := rfl
@[simp] theorem frameReported_poles (r : CmdRef) (s : State) : (frameReported r s).poles = s.poles := rfl
@[simp] theorem frameReported_holds (r : CmdRef) (s : State) : (frameReported r s).holds = s.holds := rfl
@[simp] theorem frameReported_batt (r : CmdRef) (s : State) : (frameReported r s).batt = s.batt := rfl
@[simp] theorem frameReported_rep (r : CmdRef) (s : State) : (frameReported r s).rep = s.rep := rfl
@[simp] theorem frameReported_line (r : CmdRef) (s : State) : (frameReported r s).line = s.line := rfl
@[simp] theorem frameReported_freeCount (r : CmdRef) (s : State) : (frameReported r s).freeCount = s.freeCount := rfl
@[simp] theorem frameReported_paced (r : CmdRef) (s : State) : (frameReported r s).paced = s.paced := rfl
@[simp] theorem frameReported_pending (r : CmdRef) (s : State) : (frameReported r s).pending = s.pending := rfl

/-! ## abortTest -/

@[simp] theorem abortTest_powered (c : TestCause) (s : State) : (abortTest c s).powered = s.powered := rfl
@[simp] theorem abortTest_time (c : TestCause) (s : State) : (abortTest c s).time = s.time := rfl
@[simp] theorem abortTest_store (c : TestCause) (s : State) : (abortTest c s).store = s.store := rfl
@[simp] theorem abortTest_prot (c : TestCause) (s : State) : (abortTest c s).prot = s.prot := rfl
@[simp] theorem abortTest_seq (c : TestCause) (s : State) : (abortTest c s).seq = s.seq := rfl
@[simp] theorem abortTest_poles (c : TestCause) (s : State) : (abortTest c s).poles = s.poles := rfl
@[simp] theorem abortTest_holds (c : TestCause) (s : State) : (abortTest c s).holds = s.holds := rfl
@[simp] theorem abortTest_line (c : TestCause) (s : State) : (abortTest c s).line = s.line := rfl
@[simp] theorem abortTest_freeCount (c : TestCause) (s : State) : (abortTest c s).freeCount = s.freeCount := rfl
@[simp] theorem abortTest_paced (c : TestCause) (s : State) : (abortTest c s).paced = s.paced := rfl
@[simp] theorem abortTest_pending (c : TestCause) (s : State) : (abortTest c s).pending = s.pending := rfl

/-! ## gradeTest -/

@[simp] theorem gradeTest_powered (s : State) : (gradeTest s).powered = s.powered := rfl
@[simp] theorem gradeTest_time (s : State) : (gradeTest s).time = s.time := rfl
@[simp] theorem gradeTest_store (s : State) : (gradeTest s).store = s.store := rfl
@[simp] theorem gradeTest_prot (s : State) : (gradeTest s).prot = s.prot := rfl
@[simp] theorem gradeTest_seq (s : State) : (gradeTest s).seq = s.seq := rfl
@[simp] theorem gradeTest_poles (s : State) : (gradeTest s).poles = s.poles := rfl
@[simp] theorem gradeTest_holds (s : State) : (gradeTest s).holds = s.holds := rfl
@[simp] theorem gradeTest_line (s : State) : (gradeTest s).line = s.line := rfl
@[simp] theorem gradeTest_freeCount (s : State) : (gradeTest s).freeCount = s.freeCount := rfl
@[simp] theorem gradeTest_paced (s : State) : (gradeTest s).paced = s.paced := rfl
@[simp] theorem gradeTest_pending (s : State) : (gradeTest s).pending = s.pending := rfl

/-! ## batteryTakesReading -/

@[simp] theorem batteryTakesReading_powered (v c t : Int) (s : State) : (batteryTakesReading v c t s).powered = s.powered := rfl
@[simp] theorem batteryTakesReading_time (v c t : Int) (s : State) : (batteryTakesReading v c t s).time = s.time := rfl
@[simp] theorem batteryTakesReading_store (v c t : Int) (s : State) : (batteryTakesReading v c t s).store = s.store := rfl
@[simp] theorem batteryTakesReading_prot (v c t : Int) (s : State) : (batteryTakesReading v c t s).prot = s.prot := rfl
@[simp] theorem batteryTakesReading_seq (v c t : Int) (s : State) : (batteryTakesReading v c t s).seq = s.seq := rfl
@[simp] theorem batteryTakesReading_poles (v c t : Int) (s : State) : (batteryTakesReading v c t s).poles = s.poles := rfl
@[simp] theorem batteryTakesReading_holds (v c t : Int) (s : State) : (batteryTakesReading v c t s).holds = s.holds := rfl
@[simp] theorem batteryTakesReading_line (v c t : Int) (s : State) : (batteryTakesReading v c t s).line = s.line := rfl
@[simp] theorem batteryTakesReading_freeCount (v c t : Int) (s : State) : (batteryTakesReading v c t s).freeCount = s.freeCount := rfl
@[simp] theorem batteryTakesReading_paced (v c t : Int) (s : State) : (batteryTakesReading v c t s).paced = s.paced := rfl
@[simp] theorem batteryTakesReading_pending (v c t : Int) (s : State) : (batteryTakesReading v c t s).pending = s.pending := rfl

/-! ## batteryTakesAc -/

@[simp] theorem batteryTakesAc_powered (x : Bool) (s : State) : (batteryTakesAc x s).powered = s.powered := rfl
@[simp] theorem batteryTakesAc_time (x : Bool) (s : State) : (batteryTakesAc x s).time = s.time := rfl
@[simp] theorem batteryTakesAc_store (x : Bool) (s : State) : (batteryTakesAc x s).store = s.store := rfl
@[simp] theorem batteryTakesAc_prot (x : Bool) (s : State) : (batteryTakesAc x s).prot = s.prot := rfl
@[simp] theorem batteryTakesAc_seq (x : Bool) (s : State) : (batteryTakesAc x s).seq = s.seq := rfl
@[simp] theorem batteryTakesAc_poles (x : Bool) (s : State) : (batteryTakesAc x s).poles = s.poles := rfl
@[simp] theorem batteryTakesAc_holds (x : Bool) (s : State) : (batteryTakesAc x s).holds = s.holds := rfl
@[simp] theorem batteryTakesAc_line (x : Bool) (s : State) : (batteryTakesAc x s).line = s.line := rfl
@[simp] theorem batteryTakesAc_freeCount (x : Bool) (s : State) : (batteryTakesAc x s).freeCount = s.freeCount := rfl
@[simp] theorem batteryTakesAc_paced (x : Bool) (s : State) : (batteryTakesAc x s).paced = s.paced := rfl
@[simp] theorem batteryTakesAc_pending (x : Bool) (s : State) : (batteryTakesAc x s).pending = s.pending := rfl

/-! ## beginShutdown -/

@[simp] theorem beginShutdown_powered (s : State) : (beginShutdown s).powered = s.powered := rfl
@[simp] theorem beginShutdown_time (s : State) : (beginShutdown s).time = s.time := rfl
@[simp] theorem beginShutdown_store (s : State) : (beginShutdown s).store = s.store := rfl
@[simp] theorem beginShutdown_prot (s : State) : (beginShutdown s).prot = s.prot := rfl
@[simp] theorem beginShutdown_seq (s : State) : (beginShutdown s).seq = s.seq := rfl
@[simp] theorem beginShutdown_poles (s : State) : (beginShutdown s).poles = s.poles := rfl
@[simp] theorem beginShutdown_holds (s : State) : (beginShutdown s).holds = s.holds := rfl
@[simp] theorem beginShutdown_line (s : State) : (beginShutdown s).line = s.line := rfl
@[simp] theorem beginShutdown_freeCount (s : State) : (beginShutdown s).freeCount = s.freeCount := rfl
@[simp] theorem beginShutdown_paced (s : State) : (beginShutdown s).paced = s.paced := rfl
@[simp] theorem beginShutdown_pending (s : State) : (beginShutdown s).pending = s.pending := rfl

/-! ## cancelWarning -/

@[simp] theorem cancelWarning_powered (x : Reason) (s : State) : (cancelWarning x s).powered = s.powered := rfl
@[simp] theorem cancelWarning_time (x : Reason) (s : State) : (cancelWarning x s).time = s.time := rfl
@[simp] theorem cancelWarning_store (x : Reason) (s : State) : (cancelWarning x s).store = s.store := rfl
@[simp] theorem cancelWarning_prot (x : Reason) (s : State) : (cancelWarning x s).prot = s.prot := rfl
@[simp] theorem cancelWarning_seq (x : Reason) (s : State) : (cancelWarning x s).seq = s.seq := rfl
@[simp] theorem cancelWarning_poles (x : Reason) (s : State) : (cancelWarning x s).poles = s.poles := rfl
@[simp] theorem cancelWarning_batt (x : Reason) (s : State) : (cancelWarning x s).batt = s.batt := rfl
@[simp] theorem cancelWarning_freeCount (x : Reason) (s : State) : (cancelWarning x s).freeCount = s.freeCount := rfl
@[simp] theorem cancelWarning_paced (x : Reason) (s : State) : (cancelWarning x s).paced = s.paced := rfl
@[simp] theorem cancelWarning_pending (x : Reason) (s : State) : (cancelWarning x s).pending = s.pending := rfl

/-! ## closeRefused -/

@[simp] theorem closeRefused_powered (x : Reason) (r : CloseRecord) (s : State) : (closeRefused x r s).powered = s.powered := rfl
@[simp] theorem closeRefused_time (x : Reason) (r : CloseRecord) (s : State) : (closeRefused x r s).time = s.time := rfl
@[simp] theorem closeRefused_store (x : Reason) (r : CloseRecord) (s : State) : (closeRefused x r s).store = s.store := rfl
@[simp] theorem closeRefused_prot (x : Reason) (r : CloseRecord) (s : State) : (closeRefused x r s).prot = s.prot := rfl
@[simp] theorem closeRefused_seq (x : Reason) (r : CloseRecord) (s : State) : (closeRefused x r s).seq = s.seq := rfl
@[simp] theorem closeRefused_poles (x : Reason) (r : CloseRecord) (s : State) : (closeRefused x r s).poles = s.poles := rfl
@[simp] theorem closeRefused_batt (x : Reason) (r : CloseRecord) (s : State) : (closeRefused x r s).batt = s.batt := rfl
@[simp] theorem closeRefused_freeCount (x : Reason) (r : CloseRecord) (s : State) : (closeRefused x r s).freeCount = s.freeCount := rfl
@[simp] theorem closeRefused_paced (x : Reason) (r : CloseRecord) (s : State) : (closeRefused x r s).paced = s.paced := rfl
@[simp] theorem closeRefused_pending (x : Reason) (r : CloseRecord) (s : State) : (closeRefused x r s).pending = s.pending := rfl

/-! ## closeEnds -/

@[simp] theorem closeEnds_powered (o : CloseOutcome) (x : PerPole (Option OpOutcome)) (s : State) : (closeEnds o x s).powered = s.powered := rfl
@[simp] theorem closeEnds_time (o : CloseOutcome) (x : PerPole (Option OpOutcome)) (s : State) : (closeEnds o x s).time = s.time := rfl
@[simp] theorem closeEnds_store (o : CloseOutcome) (x : PerPole (Option OpOutcome)) (s : State) : (closeEnds o x s).store = s.store := rfl
@[simp] theorem closeEnds_prot (o : CloseOutcome) (x : PerPole (Option OpOutcome)) (s : State) : (closeEnds o x s).prot = s.prot := rfl
@[simp] theorem closeEnds_seq (o : CloseOutcome) (x : PerPole (Option OpOutcome)) (s : State) : (closeEnds o x s).seq = s.seq := rfl
@[simp] theorem closeEnds_poles (o : CloseOutcome) (x : PerPole (Option OpOutcome)) (s : State) : (closeEnds o x s).poles = s.poles := rfl
@[simp] theorem closeEnds_batt (o : CloseOutcome) (x : PerPole (Option OpOutcome)) (s : State) : (closeEnds o x s).batt = s.batt := rfl
@[simp] theorem closeEnds_freeCount (o : CloseOutcome) (x : PerPole (Option OpOutcome)) (s : State) : (closeEnds o x s).freeCount = s.freeCount := rfl
@[simp] theorem closeEnds_paced (o : CloseOutcome) (x : PerPole (Option OpOutcome)) (s : State) : (closeEnds o x s).paced = s.paced := rfl
@[simp] theorem closeEnds_pending (o : CloseOutcome) (x : PerPole (Option OpOutcome)) (s : State) : (closeEnds o x s).pending = s.pending := rfl

/-! ## consultClose -/

@[simp] theorem consultClose_powered (k : Nat) (h : Hold) (s : State) : (consultClose k h s).powered = s.powered := rfl
@[simp] theorem consultClose_time (k : Nat) (h : Hold) (s : State) : (consultClose k h s).time = s.time := rfl
@[simp] theorem consultClose_store (k : Nat) (h : Hold) (s : State) : (consultClose k h s).store = s.store := rfl
@[simp] theorem consultClose_prot (k : Nat) (h : Hold) (s : State) : (consultClose k h s).prot = s.prot := rfl
@[simp] theorem consultClose_seq (k : Nat) (h : Hold) (s : State) : (consultClose k h s).seq = s.seq := rfl
@[simp] theorem consultClose_poles (k : Nat) (h : Hold) (s : State) : (consultClose k h s).poles = s.poles := rfl
@[simp] theorem consultClose_batt (k : Nat) (h : Hold) (s : State) : (consultClose k h s).batt = s.batt := rfl
@[simp] theorem consultClose_freeCount (k : Nat) (h : Hold) (s : State) : (consultClose k h s).freeCount = s.freeCount := rfl
@[simp] theorem consultClose_paced (k : Nat) (h : Hold) (s : State) : (consultClose k h s).paced = s.paced := rfl
@[simp] theorem consultClose_pending (k : Nat) (h : Hold) (s : State) : (consultClose k h s).pending = s.pending := rfl

/-! ## tripNotice -/

@[simp] theorem tripNotice_powered (s : State) : (tripNotice s).powered = s.powered := rfl
@[simp] theorem tripNotice_time (s : State) : (tripNotice s).time = s.time := rfl
@[simp] theorem tripNotice_store (s : State) : (tripNotice s).store = s.store := rfl
@[simp] theorem tripNotice_prot (s : State) : (tripNotice s).prot = s.prot := rfl
@[simp] theorem tripNotice_seq (s : State) : (tripNotice s).seq = s.seq := rfl
@[simp] theorem tripNotice_poles (s : State) : (tripNotice s).poles = s.poles := rfl
@[simp] theorem tripNotice_freeCount (s : State) : (tripNotice s).freeCount = s.freeCount := rfl
@[simp] theorem tripNotice_paced (s : State) : (tripNotice s).paced = s.paced := rfl
@[simp] theorem tripNotice_pending (s : State) : (tripNotice s).pending = s.pending := rfl

/-! ## endOperation -/

@[simp] theorem endOperation_powered (p : Pole) (c : Bool) (v : Verdict) (s : State) : (endOperation p c v s).powered = s.powered := rfl
@[simp] theorem endOperation_time (p : Pole) (c : Bool) (v : Verdict) (s : State) : (endOperation p c v s).time = s.time := rfl
@[simp] theorem endOperation_store (p : Pole) (c : Bool) (v : Verdict) (s : State) : (endOperation p c v s).store = s.store := rfl
@[simp] theorem endOperation_prot (p : Pole) (c : Bool) (v : Verdict) (s : State) : (endOperation p c v s).prot = s.prot := rfl
@[simp] theorem endOperation_seq (p : Pole) (c : Bool) (v : Verdict) (s : State) : (endOperation p c v s).seq = s.seq := rfl
@[simp] theorem endOperation_freeCount (p : Pole) (c : Bool) (v : Verdict) (s : State) : (endOperation p c v s).freeCount = s.freeCount := rfl
@[simp] theorem endOperation_paced (p : Pole) (c : Bool) (v : Verdict) (s : State) : (endOperation p c v s).paced = s.paced := rfl
@[simp] theorem endOperation_pending (p : Pole) (c : Bool) (v : Verdict) (s : State) : (endOperation p c v s).pending = s.pending := rfl

/-! ## enterLockout -/

@[simp] theorem enterLockout_powered (c : LockoutCause) (o : FaultOutcome) (s : State) : (enterLockout c o s).powered = s.powered := rfl
@[simp] theorem enterLockout_time (c : LockoutCause) (o : FaultOutcome) (s : State) : (enterLockout c o s).time = s.time := rfl
@[simp] theorem enterLockout_store (c : LockoutCause) (o : FaultOutcome) (s : State) : (enterLockout c o s).store = s.store := rfl
@[simp] theorem enterLockout_freeCount (c : LockoutCause) (o : FaultOutcome) (s : State) : (enterLockout c o s).freeCount = s.freeCount := rfl
@[simp] theorem enterLockout_paced (c : LockoutCause) (o : FaultOutcome) (s : State) : (enterLockout c o s).paced = s.paced := rfl
@[simp] theorem enterLockout_pending (c : LockoutCause) (o : FaultOutcome) (s : State) : (enterLockout c o s).pending = s.pending := rfl

/-! ## poleEvent -/

@[simp] theorem poleEvent_powered (f : State → State × List Completion) (s : State) : (poleEvent f s).powered = s.powered := rfl
@[simp] theorem poleEvent_time (f : State → State × List Completion) (s : State) : (poleEvent f s).time = s.time := rfl
@[simp] theorem poleEvent_store (f : State → State × List Completion) (s : State) : (poleEvent f s).store = s.store := rfl
@[simp] theorem poleEvent_pending (f : State → State × List Completion) (s : State) : (poleEvent f s).pending = s.pending := rfl

/-! ## operationSignal -/

@[simp] theorem operationSignal_powered (x : ElementSet) (s : State) : (operationSignal x s).powered = s.powered := rfl
@[simp] theorem operationSignal_time (x : ElementSet) (s : State) : (operationSignal x s).time = s.time := rfl
@[simp] theorem operationSignal_store (x : ElementSet) (s : State) : (operationSignal x s).store = s.store := rfl
@[simp] theorem operationSignal_pending (x : ElementSet) (s : State) : (operationSignal x s).pending = s.pending := rfl

/-! ## operatorTrip -/

@[simp] theorem operatorTrip_powered (c : Option CmdRef) (o : Option PortId) (m : PoleMask) (s : State) : (operatorTrip c o m s).powered = s.powered := rfl
@[simp] theorem operatorTrip_time (c : Option CmdRef) (o : Option PortId) (m : PoleMask) (s : State) : (operatorTrip c o m s).time = s.time := rfl
@[simp] theorem operatorTrip_store (c : Option CmdRef) (o : Option PortId) (m : PoleMask) (s : State) : (operatorTrip c o m s).store = s.store := rfl
@[simp] theorem operatorTrip_pending (c : Option CmdRef) (o : Option PortId) (m : PoleMask) (s : State) : (operatorTrip c o m s).pending = s.pending := rfl

/-! ## deadTimeEnds -/

@[simp] theorem deadTimeEnds_powered (s : State) : (deadTimeEnds s).powered = s.powered := rfl
@[simp] theorem deadTimeEnds_time (s : State) : (deadTimeEnds s).time = s.time := rfl
@[simp] theorem deadTimeEnds_store (s : State) : (deadTimeEnds s).store = s.store := rfl
@[simp] theorem deadTimeEnds_pending (s : State) : (deadTimeEnds s).pending = s.pending := rfl

/-! ## warningEnds -/

@[simp] theorem warningEnds_powered (s : State) : (warningEnds s).powered = s.powered := rfl
@[simp] theorem warningEnds_time (s : State) : (warningEnds s).time = s.time := rfl
@[simp] theorem warningEnds_store (s : State) : (warningEnds s).store = s.store := rfl
@[simp] theorem warningEnds_pending (s : State) : (warningEnds s).pending = s.pending := rfl

/-! ## ackExpires -/

@[simp] theorem ackExpires_powered (s : State) : (ackExpires s).powered = s.powered := rfl
@[simp] theorem ackExpires_time (s : State) : (ackExpires s).time = s.time := rfl
@[simp] theorem ackExpires_store (s : State) : (ackExpires s).store = s.store := rfl
@[simp] theorem ackExpires_prot (s : State) : (ackExpires s).prot = s.prot := rfl
@[simp] theorem ackExpires_seq (s : State) : (ackExpires s).seq = s.seq := rfl
@[simp] theorem ackExpires_poles (s : State) : (ackExpires s).poles = s.poles := rfl
@[simp] theorem ackExpires_holds (s : State) : (ackExpires s).holds = s.holds := rfl
@[simp] theorem ackExpires_batt (s : State) : (ackExpires s).batt = s.batt := rfl
@[simp] theorem ackExpires_cmd (s : State) : (ackExpires s).cmd = s.cmd := rfl
@[simp] theorem ackExpires_line (s : State) : (ackExpires s).line = s.line := rfl
@[simp] theorem ackExpires_freeCount (s : State) : (ackExpires s).freeCount = s.freeCount := rfl
@[simp] theorem ackExpires_paced (s : State) : (ackExpires s).paced = s.paced := rfl
@[simp] theorem ackExpires_pending (s : State) : (ackExpires s).pending = s.pending := rfl

/-! ## holdoffExpires -/

@[simp] theorem holdoffExpires_powered (s : State) : (holdoffExpires s).powered = s.powered := rfl
@[simp] theorem holdoffExpires_time (s : State) : (holdoffExpires s).time = s.time := rfl
@[simp] theorem holdoffExpires_store (s : State) : (holdoffExpires s).store = s.store := rfl
@[simp] theorem holdoffExpires_prot (s : State) : (holdoffExpires s).prot = s.prot := rfl
@[simp] theorem holdoffExpires_seq (s : State) : (holdoffExpires s).seq = s.seq := rfl
@[simp] theorem holdoffExpires_poles (s : State) : (holdoffExpires s).poles = s.poles := rfl
@[simp] theorem holdoffExpires_holds (s : State) : (holdoffExpires s).holds = s.holds := rfl
@[simp] theorem holdoffExpires_batt (s : State) : (holdoffExpires s).batt = s.batt := rfl
@[simp] theorem holdoffExpires_cmd (s : State) : (holdoffExpires s).cmd = s.cmd := rfl
@[simp] theorem holdoffExpires_line (s : State) : (holdoffExpires s).line = s.line := rfl
@[simp] theorem holdoffExpires_freeCount (s : State) : (holdoffExpires s).freeCount = s.freeCount := rfl
@[simp] theorem holdoffExpires_paced (s : State) : (holdoffExpires s).paced = s.paced := rfl
@[simp] theorem holdoffExpires_pending (s : State) : (holdoffExpires s).pending = s.pending := rfl

/-! ## reportTakesReady -/

@[simp] theorem reportTakesReady_powered (x : Bool) (s : State) : (reportTakesReady x s).powered = s.powered := rfl
@[simp] theorem reportTakesReady_time (x : Bool) (s : State) : (reportTakesReady x s).time = s.time := rfl
@[simp] theorem reportTakesReady_store (x : Bool) (s : State) : (reportTakesReady x s).store = s.store := rfl
@[simp] theorem reportTakesReady_prot (x : Bool) (s : State) : (reportTakesReady x s).prot = s.prot := rfl
@[simp] theorem reportTakesReady_seq (x : Bool) (s : State) : (reportTakesReady x s).seq = s.seq := rfl
@[simp] theorem reportTakesReady_poles (x : Bool) (s : State) : (reportTakesReady x s).poles = s.poles := rfl
@[simp] theorem reportTakesReady_holds (x : Bool) (s : State) : (reportTakesReady x s).holds = s.holds := rfl
@[simp] theorem reportTakesReady_batt (x : Bool) (s : State) : (reportTakesReady x s).batt = s.batt := rfl
@[simp] theorem reportTakesReady_cmd (x : Bool) (s : State) : (reportTakesReady x s).cmd = s.cmd := rfl
@[simp] theorem reportTakesReady_line (x : Bool) (s : State) : (reportTakesReady x s).line = s.line := rfl
@[simp] theorem reportTakesReady_freeCount (x : Bool) (s : State) : (reportTakesReady x s).freeCount = s.freeCount := rfl
@[simp] theorem reportTakesReady_paced (x : Bool) (s : State) : (reportTakesReady x s).paced = s.paced := rfl
@[simp] theorem reportTakesReady_pending (x : Bool) (s : State) : (reportTakesReady x s).pending = s.pending := rfl

/-! ## reportTakesBank -/

@[simp] theorem reportTakesBank_powered (b : Bank) (s : State) : (reportTakesBank b s).powered = s.powered := rfl
@[simp] theorem reportTakesBank_time (b : Bank) (s : State) : (reportTakesBank b s).time = s.time := rfl
@[simp] theorem reportTakesBank_store (b : Bank) (s : State) : (reportTakesBank b s).store = s.store := rfl
@[simp] theorem reportTakesBank_prot (b : Bank) (s : State) : (reportTakesBank b s).prot = s.prot := rfl
@[simp] theorem reportTakesBank_seq (b : Bank) (s : State) : (reportTakesBank b s).seq = s.seq := rfl
@[simp] theorem reportTakesBank_poles (b : Bank) (s : State) : (reportTakesBank b s).poles = s.poles := rfl
@[simp] theorem reportTakesBank_holds (b : Bank) (s : State) : (reportTakesBank b s).holds = s.holds := rfl
@[simp] theorem reportTakesBank_batt (b : Bank) (s : State) : (reportTakesBank b s).batt = s.batt := rfl
@[simp] theorem reportTakesBank_cmd (b : Bank) (s : State) : (reportTakesBank b s).cmd = s.cmd := rfl
@[simp] theorem reportTakesBank_line (b : Bank) (s : State) : (reportTakesBank b s).line = s.line := rfl
@[simp] theorem reportTakesBank_freeCount (b : Bank) (s : State) : (reportTakesBank b s).freeCount = s.freeCount := rfl
@[simp] theorem reportTakesBank_paced (b : Bank) (s : State) : (reportTakesBank b s).paced = s.paced := rfl
@[simp] theorem reportTakesBank_pending (b : Bank) (s : State) : (reportTakesBank b s).pending = s.pending := rfl

/-! ## refill -/

@[simp] theorem refill_powered (s : State) : (refill s).powered = s.powered := rfl
@[simp] theorem refill_time (s : State) : (refill s).time = s.time := rfl
@[simp] theorem refill_store (s : State) : (refill s).store = s.store := rfl
@[simp] theorem refill_prot (s : State) : (refill s).prot = s.prot := rfl
@[simp] theorem refill_seq (s : State) : (refill s).seq = s.seq := rfl
@[simp] theorem refill_poles (s : State) : (refill s).poles = s.poles := rfl
@[simp] theorem refill_holds (s : State) : (refill s).holds = s.holds := rfl
@[simp] theorem refill_batt (s : State) : (refill s).batt = s.batt := rfl
@[simp] theorem refill_cmd (s : State) : (refill s).cmd = s.cmd := rfl
@[simp] theorem refill_line (s : State) : (refill s).line = s.line := rfl
@[simp] theorem refill_freeCount (s : State) : (refill s).freeCount = s.freeCount := rfl
@[simp] theorem refill_paced (s : State) : (refill s).paced = s.paced := rfl
@[simp] theorem refill_pending (s : State) : (refill s).pending = s.pending := rfl

/-! ## periodicExpires -/

@[simp] theorem periodicExpires_powered (s : State) : (periodicExpires s).powered = s.powered := rfl
@[simp] theorem periodicExpires_time (s : State) : (periodicExpires s).time = s.time := rfl
@[simp] theorem periodicExpires_store (s : State) : (periodicExpires s).store = s.store := rfl
@[simp] theorem periodicExpires_prot (s : State) : (periodicExpires s).prot = s.prot := rfl
@[simp] theorem periodicExpires_seq (s : State) : (periodicExpires s).seq = s.seq := rfl
@[simp] theorem periodicExpires_poles (s : State) : (periodicExpires s).poles = s.poles := rfl
@[simp] theorem periodicExpires_holds (s : State) : (periodicExpires s).holds = s.holds := rfl
@[simp] theorem periodicExpires_batt (s : State) : (periodicExpires s).batt = s.batt := rfl
@[simp] theorem periodicExpires_cmd (s : State) : (periodicExpires s).cmd = s.cmd := rfl
@[simp] theorem periodicExpires_line (s : State) : (periodicExpires s).line = s.line := rfl
@[simp] theorem periodicExpires_freeCount (s : State) : (periodicExpires s).freeCount = s.freeCount := rfl
@[simp] theorem periodicExpires_paced (s : State) : (periodicExpires s).paced = s.paced := rfl
@[simp] theorem periodicExpires_pending (s : State) : (periodicExpires s).pending = s.pending := rfl

end Sys2Proof.Machine
end

