-- ==== Sys2Proof/Laws/Commands.lean ====
section
/-! SUPPORT. What taking, answering and pacing a command come to: the lemmas that proofs about commands cite instead of
unfolding the Command Unit. -/

namespace Sys2Proof.Machine

/-- A powered part takes the outcome. -/
theorem run_powered {s : State} {f : State → State} (h : s.powered = true) : run s f = .next (f s) := by
  simp [run, h]

/-- A part without supply takes nothing. -/
theorem run_unpowered {s : State} {f : State → State} (h : s.powered = false) : run s f = .next s := by
  simp [run, h]

/-- Every command that goes through `run` answers a next state. -/
theorem run_next (s : State) (f : State → State) : ∃ t, run s f = .next t := ⟨_, rfl⟩

/-- A frame that the port takes in is counted and handed on. -/
theorem arrive_taken {s : State} {p : RunPort} {n : Nat} {f : State → State} (h : s.takesIn p) (hn : n ≤ 48) :
    arrive p n f s = f (s.countAccepted p) := by
  unfold arrive
  rw [if_neg]
  rintro (⟨hp, hc⟩ | hlen)
  · exact hc (h.2 hp)
  · omega

/-- A frame that the crew port does not take in, or that is too long, is counted as discarded. -/
theorem arrive_discarded {s : State} {p : RunPort} {n : Nat} {f : State → State}
    (h : (p = .crew ∧ s.port.crewPresent ≠ .active) ∨ 48 < n) : arrive p n f s = s.countDiscarded p := by
  unfold arrive
  rw [if_pos h]

@[simp] theorem setCtx_ctx_same (c : CommandUnit) (p : PortId) (x : Context) : (c.setCtx p x).ctx p = x := by
  cases p <;> rfl

@[simp] theorem setCtx_setCtx (c : CommandUnit) (p : PortId) (x y : Context) :
    (c.setCtx p x).setCtx p y = c.setCtx p y := by
  cases p <;> rfl

@[simp] theorem setCtx_ctx_other (c : CommandUnit) (p : PortId) (x : Context) :
    (c.setCtx p x).ctx (PortId.other p) = c.ctx (PortId.other p) := by
  cases p <;> rfl

/-- R166: a command that a ready port's context takes is handed to its owner. -/
theorem command_ready {s : State} {p : PortId} {number : Half} {code : CommandCode}
    {owner : CmdRef → State → State} (h : s.ready p) (hp : permitted p code = true) :
    command p number code owner s = owner (s.nextRef p) (s.admitted p number code) := by
  unfold command
  rw [arrive_taken h.1 (by omega)]
  have h2 : (s.cmd.ctx p).executing = none := h.2
  simp only [dispatch, hp, Bool.not_true, Bool.false_eq_true, if_false, State.countAccepted_cmd, h2,
    Option.isSome_none]
  rfl

/-- R168: a command that finds its port's context EXECUTING is answered BUSY, and changes nothing else. -/
theorem command_busy {s : State} {p : PortId} {number : Half} {code : CommandCode} {owner : CmdRef → State → State}
    (h : s.takesIn p.run) (hp : permitted p code = true) (he : (s.cmd.ctx p).executing.isSome = true) :
    command p number code owner s =
      answerAlone p number (CommandCode.code code) (.plain .busy) (s.countAccepted p.run) := by
  unfold command
  rw [arrive_taken h (by omega)]
  simp [dispatch, hp, he]

/-- R167: a command its port has no right to is answered NOT_PERMITTED. -/
theorem command_notPermitted {s : State} {p : PortId} {number : Half} {code : CommandCode}
    {owner : CmdRef → State → State} (h : s.takesIn p.run) (hp : permitted p code = false) :
    command p number code owner s =
      answerAlone p number (CommandCode.code code) (.plain .notPermitted) (s.countAccepted p.run) := by
  unfold command
  rw [arrive_taken h (by omega)]
  simp [dispatch, hp]

@[simp] theorem admitted_ctx (s : State) (p : PortId) (n : Half) (c : CommandCode) :
    (s.admitted p n c).cmd.ctx p = takenContext n c s.cmd.nextSerial := by
  cases p <;> rfl

@[simp] theorem State.admitted_powered (s : State) (p : PortId) (n : Half) (c : CommandCode) :
    (s.admitted p n c).powered = s.powered := rfl

@[simp] theorem State.finished_powered (s : State) (r : CmdRef) (n : Half) (c : CommandCode) (a : Answer) :
    (s.finished r n c a).powered = s.powered := rfl

@[simp] theorem State.admitted_time (s : State) (p : PortId) (n : Half) (c : CommandCode) :
    (s.admitted p n c).time = s.time := rfl

@[simp] theorem State.finished_time (s : State) (r : CmdRef) (n : Half) (c : CommandCode) (a : Answer) :
    (s.finished r n c a).time = s.time := rfl

@[simp] theorem State.admitted_store (s : State) (p : PortId) (n : Half) (c : CommandCode) :
    (s.admitted p n c).store = s.store := rfl

@[simp] theorem State.finished_store (s : State) (r : CmdRef) (n : Half) (c : CommandCode) (a : Answer) :
    (s.finished r n c a).store = s.store := rfl

@[simp] theorem State.admitted_prot (s : State) (p : PortId) (n : Half) (c : CommandCode) :
    (s.admitted p n c).prot = s.prot := rfl

@[simp] theorem State.finished_prot (s : State) (r : CmdRef) (n : Half) (c : CommandCode) (a : Answer) :
    (s.finished r n c a).prot = s.prot := rfl

@[simp] theorem State.admitted_seq (s : State) (p : PortId) (n : Half) (c : CommandCode) :
    (s.admitted p n c).seq = s.seq := rfl

@[simp] theorem State.finished_seq (s : State) (r : CmdRef) (n : Half) (c : CommandCode) (a : Answer) :
    (s.finished r n c a).seq = s.seq := rfl

@[simp] theorem State.admitted_poles (s : State) (p : PortId) (n : Half) (c : CommandCode) :
    (s.admitted p n c).poles = s.poles := rfl

@[simp] theorem State.finished_poles (s : State) (r : CmdRef) (n : Half) (c : CommandCode) (a : Answer) :
    (s.finished r n c a).poles = s.poles := rfl

@[simp] theorem State.admitted_holds (s : State) (p : PortId) (n : Half) (c : CommandCode) :
    (s.admitted p n c).holds = s.holds := rfl

@[simp] theorem State.finished_holds (s : State) (r : CmdRef) (n : Half) (c : CommandCode) (a : Answer) :
    (s.finished r n c a).holds = s.holds := rfl

@[simp] theorem State.admitted_batt (s : State) (p : PortId) (n : Half) (c : CommandCode) :
    (s.admitted p n c).batt = s.batt := rfl

@[simp] theorem State.finished_batt (s : State) (r : CmdRef) (n : Half) (c : CommandCode) (a : Answer) :
    (s.finished r n c a).batt = s.batt := rfl

@[simp] theorem State.admitted_rep (s : State) (p : PortId) (n : Half) (c : CommandCode) :
    (s.admitted p n c).rep = s.rep := rfl

@[simp] theorem State.finished_rep (s : State) (r : CmdRef) (n : Half) (c : CommandCode) (a : Answer) :
    (s.finished r n c a).rep = s.rep := rfl

@[simp] theorem State.admitted_line (s : State) (p : PortId) (n : Half) (c : CommandCode) :
    (s.admitted p n c).line = s.line := rfl

@[simp] theorem State.finished_line (s : State) (r : CmdRef) (n : Half) (c : CommandCode) (a : Answer) :
    (s.finished r n c a).line = s.line := rfl

@[simp] theorem State.admitted_freeCount (s : State) (p : PortId) (n : Half) (c : CommandCode) :
    (s.admitted p n c).freeCount = s.freeCount := rfl
@[simp] theorem State.admitted_paced (s : State) (p : PortId) (n : Half) (c : CommandCode) :
    (s.admitted p n c).paced = s.paced := rfl

@[simp] theorem State.finished_freeCount (s : State) (r : CmdRef) (n : Half) (c : CommandCode) (a : Answer) :
    (s.finished r n c a).freeCount = s.freeCount := rfl
@[simp] theorem State.finished_paced (s : State) (r : CmdRef) (n : Half) (c : CommandCode) (a : Answer) :
    (s.finished r n c a).paced = s.paced := rfl

@[simp] theorem State.admitted_pending (s : State) (p : PortId) (n : Half) (c : CommandCode) :
    (s.admitted p n c).pending = s.pending := rfl

@[simp] theorem State.finished_pending (s : State) (r : CmdRef) (n : Half) (c : CommandCode) (a : Answer) :
    (s.finished r n c a).pending = s.pending := rfl

@[simp] theorem State.admitted_now (s : State) (p : PortId) (n : Half) (c : CommandCode) :
    (s.admitted p n c).now = s.now := rfl

@[simp] theorem State.nextRef_port (s : State) (p : PortId) : (s.nextRef p).port = p := rfl

@[simp] theorem State.finished_cmd (s : State) (r : CmdRef) (n : Half) (c : CommandCode) (a : Answer) :
    (s.finished r n c a).cmd = s.cmd.setCtx r.port .idle := rfl

/-- A state whose Command Unit is that of `admitted` holds the command. -/
theorem holding_admitted {s x : State} {p : PortId} {n : Half} {c : CommandCode}
    (h : x.cmd = (s.admitted p n c).cmd) :
    x.holding (s.nextRef p) = some { code := c, number := n, serial := s.cmd.nextSerial, rest := [] } := by
  have hc : (x.cmd.ctx p) = takenContext n c s.cmd.nextSerial := by rw [h, admitted_ctx]
  simp [State.holding, State.nextRef, hc, takenContext]

/-- R169: the answer of a command whose context has not been touched since it was taken. -/
theorem complete_admitted {s x : State} {p : PortId} {n : Half} {c : CommandCode} (a : Answer)
    (h : x.cmd = (s.admitted p n c).cmd) :
    complete (s.nextRef p) a x = x.finished (s.nextRef p) n c a := by
  have hc : (x.cmd.ctx p) = takenContext n c s.cmd.nextSerial := by rw [h, admitted_ctx]
  have hd : (x.cmd.ctx (s.nextRef p).port).discard = false := by
    show (x.cmd.ctx p).discard = false
    rw [hc]; rfl
  unfold complete
  rw [holding_admitted h]
  simp only [hd, Bool.false_eq_true, if_false]
  rfl

/-- R169: a command whose owner answers at once, after an effect `f` that leaves the contexts alone. -/
theorem command_answered {s : State} {p : PortId} {n : Half} {c : CommandCode} {owner : CmdRef → State → State}
    {a : Answer} {f : State → State} (h : s.ready p) (hp : permitted p c = true)
    (ho : owner (s.nextRef p) (s.admitted p n c) = complete (s.nextRef p) a (f (s.admitted p n c)))
    (hf : (f (s.admitted p n c)).cmd = (s.admitted p n c).cmd) :
    run s (command p n c owner) = .next (s.answered p n c a f) := by
  rw [run_powered h.1.1, command_ready h hp, ho, complete_admitted a hf]
  rfl

/-- The owner takes the command (R166 step 5). -/
theorem command_owner {s : State} {p : PortId} {n : Half} {c : CommandCode} {owner : CmdRef → State → State}
    (h : s.ready p) (hp : permitted p c = true) :
    run s (command p n c owner) = .next (owner (s.nextRef p) (s.admitted p n c)) := by
  rw [run_powered h.1.1, command_ready h hp]

/-- R163: the two frames of an answer whose context has not been touched since it was taken. -/
theorem completeTwo_admitted {s : State} {p : PortId} {n : Half} {c : CommandCode} (x y : List Byte) :
    completeTwo (s.nextRef p) x y (s.admitted p n c) = s.answeredTwice p n c x y := by
  unfold completeTwo
  rw [holding_admitted rfl]
  rfl

/-- R170: a multi-frame answer of a single frame is complete at once. -/
theorem completeFrames_one {s x : State} {p : PortId} {n : Half} {c : CommandCode} (d : List Byte)
    (h : x.cmd = (s.admitted p n c).cmd) :
    completeFrames (s.nextRef p) [d] x = x.finished (s.nextRef p) n c (.done d) := by
  unfold completeFrames
  rw [holding_admitted h]
  rfl

@[simp] theorem hand_dropped (q : PortUnit) (p : PortId) (f : OutFrame) : (q.hand p f).2 = true ↔ q.drops p := by
  cases p
  · simp only [PortUnit.hand, PortUnit.handReply, PortUnit.drops]
    split <;> simp_all
  · simp only [PortUnit.hand, PortUnit.handCrew, PortUnit.drops]
    split <;> simp_all

/-- R170: a multi-frame answer whose first frame is not dropped waits with the rest. -/
theorem completeFrames_many {s x : State} {p : PortId} {n : Half} {c : CommandCode} (d e : List Byte)
    (rest : List (List Byte)) (h : x.cmd = (s.admitted p n c).cmd) (hd : ¬ x.port.drops p) :
    completeFrames (s.nextRef p) (d :: e :: rest) x =
      { x with
        port := (x.port.hand p { frame := resultFrame p n (CommandCode.code c) true (.done d),
                                 tag := .result (some (s.nextRef p)) }).1,
        cmd := x.cmd.setCtx p
          { executing := some { code := c, number := n, serial := s.cmd.nextSerial, rest := e :: rest },
            discard := false, frameOut := true } } := by
  unfold completeFrames
  rw [holding_admitted h]
  have hf : ∀ f : OutFrame, (x.port.hand p f).2 = false := by
    intro f
    have := hand_dropped x.port p f
    cases hb : (x.port.hand p f).2
    · rfl
    · exact absurd (this.mp hb) hd
  simp [handFrames, sendResult, State.nextRef, hf, State.onlyAnswer]

/-- An expiry that is due is taken (R179, log 4). -/
theorem expires_run {s : State} {f : State → Timer} {g : State → State} (h : s.expires (f s)) :
    run s (onExpiry f g) = .next (g s) := by
  obtain ⟨hp, e, he, hl⟩ := h
  rw [run_powered hp]
  unfold onExpiry
  rw [if_pos]
  rw [he]
  simpa [Timer.due] using hl

/-- An expiry of a timer that is stopped, or that has not been reached, has no effect (log 4). -/
theorem not_expires_run {s : State} {f : State → Timer} {g : State → State} (h : ¬ s.expires (f s)) :
    run s (onExpiry f g) = .next s := by
  cases hp : s.powered
  · exact run_unpowered hp
  · rw [run_powered hp]
    unfold onExpiry
    rw [if_neg]
    intro hd
    apply h
    cases he : f s with
    | none => simp [he, Timer.due] at hd
    | some e => exact ⟨hp, e, rfl, by simpa [he, Timer.due] using hd⟩

/-- R169: the outcome of a command that its context holds, with the discard mark clear. -/
theorem complete_held {s : State} {p : PortId} {e : Executing} (a : Answer) (h : (s.cmd.ctx p).executing = some e)
    (hd : (s.cmd.ctx p).discard = false) :
    complete ⟨p, e.serial⟩ a s = s.finished ⟨p, e.serial⟩ e.number e.code a := by
  have hh : s.holding ⟨p, e.serial⟩ = some e := by simp [State.holding, h]
  unfold complete
  rw [hh]
  simp only [hd, Bool.false_eq_true, if_false]
  rfl

/-- R169, R173: whatever its mark, a command's context is IDLE after its outcome. -/
theorem complete_idle {s : State} {r : CmdRef} {e : Executing} (a : Answer) (h : s.holding r = some e) :
    (complete r a s).cmd.ctx r.port = .idle := by
  unfold complete
  rw [h]
  simp only
  split <;> simp [State.onlyAnswer, State.idleCtx, sendResult]

/-- R169: an outcome for a command that no context holds is discarded. -/
theorem complete_unheld {s : State} {r : CmdRef} (a : Answer) (h : s.holding r = none) : complete r a s = s := by
  unfold complete
  rw [h]
  rfl

/-- R158, R161, R170: the end of a frame that paces no answer tells no one anything. -/
theorem frameEnded_plain (s : State) (f : OutFrame)
    (h : f.tag = .reply ∨ f.tag = .notice ∨ f.tag = .result none ∨
      ∃ r, f.tag = .result (some r) ∧ (s.holding r = none ∨ (s.cmd.ctx r.port).frameOut = false)) :
    frameEnded f.tag s = s := by
  rcases h with h | h | h | ⟨r, h, h2⟩
  · rw [h]; rfl
  · rw [h]; rfl
  · rw [h]; rfl
  · rw [h]
    simp only [frameEnded, frameReported]
    rcases h2 with h2 | h2
    · rw [h2]; rfl
    · cases hh : s.holding r <;> simp [h2, State.onlyAnswer]

end Sys2Proof.Machine
end

