-- ==== Sys2Proof/Laws/Layout.lean ====
section
/-! SUPPORT. How the numbers that a layout of 08 holds are read from its bytes, and when R179 lets a sample or a reading
be taken. -/

namespace Sys2Proof.Machine

/-! ## Fields of a layout (R164) -/

/-- A field before the end of the first part is read there. -/
theorem numberAt_append_left {a : List Byte} (b : List Byte) {i n : Nat} (h : i + n ≤ a.length) :
    numberAt (a ++ b) i n = numberAt a i n := by
  unfold numberAt
  rw [List.drop_append_of_le_length (by omega), List.take_append_of_le_length (by rw [List.length_drop]; omega)]

/-- A field past the end of the first part is read in the second. -/
theorem numberAt_append_right {a : List Byte} (b : List Byte) {i : Nat} (n : Nat) (h : a.length ≤ i) :
    numberAt (a ++ b) i n = numberAt b (i - a.length) n := by
  unfold numberAt
  rw [List.drop_append, List.drop_eq_nil_of_le h, List.nil_append]

/-- One byte. -/
@[simp] theorem numberAt_byte (x : Byte) (d : List Byte) : numberAt (x :: d) 0 1 = x.toNat := by
  simp [numberAt]

/-- Two bytes of a 16-bit value. -/
@[simp] theorem numberAt_be16 (v : Half) : numberAt (be16 v) 0 2 = v.toNat := by
  simp [numberAt, be16]
  omega

/-- Four bytes of a 32-bit value. -/
@[simp] theorem numberAt_be32 (v : Word) : numberAt (be32 v) 0 4 = v.toNat := by
  simp [numberAt, be32]
  omega

/-- A one-byte quantity. -/
@[simp] theorem numberAt_u8 (v : Nat) : numberAt (u8 v) 0 1 = fitted 1 v := by
  unfold u8 fitted
  rw [numberAt_byte]
  split <;> simp_all

/-- A two-byte quantity. -/
@[simp] theorem numberAt_u16 (v : Nat) : numberAt (u16 v) 0 2 = fitted 2 v := by
  unfold u16 fitted
  rw [numberAt_be16]
  split <;> simp_all

/-- A four-byte quantity. -/
@[simp] theorem numberAt_u32 (v : Nat) : numberAt (u32 v) 0 4 = fitted 4 v := by
  unfold u32 fitted
  rw [numberAt_be32]
  split <;> simp_all

@[simp] theorem be16_length (v : Half) : (be16 v).length = 2 := rfl
@[simp] theorem be32_length (v : Word) : (be32 v).length = 4 := rfl
@[simp] theorem u8_length (v : Nat) : (u8 v).length = 1 := rfl
@[simp] theorem u16_length (v : Nat) : (u16 v).length = 2 := rfl
@[simp] theorem u32_length (v : Nat) : (u32 v).length = 4 := rfl
@[simp] theorem absentBytes_length (k n : Nat) : (absentBytes k n).length = n := by simp [absentBytes]

/-- A set of up to eight members. -/
theorem bits_toNat {l : List Bool} (h : l.length ≤ 8) : (bits l).toNat = setNumber l := by
  match l, h with
  | [], _ => rfl
  | [a], _ => revert a; decide
  | [a, b], _ => revert a b; decide
  | [a, b, c], _ => revert a b c; decide
  | [a, b, c, d], _ => revert a b c d; decide
  | [a, b, c, d, e], _ => revert a b c d e; decide
  | [a, b, c, d, e, f], _ => revert a b c d e f; decide
  | [a, b, c, d, e, f, g], _ => revert a b c d e f g; decide
  | [a, b, c, d, e, f, g, i], _ => revert a b c d e f g i; decide

/-! ## The pace of samples and readings (R179) -/

/-- A sample falls due at an even count at which none has been taken. -/
theorem State.sampleDue_iff (s : State) : s.sampleDue = true ↔ s.now % 2 = 0 ∧ s.paced.sampled = false := by
  simp [State.sampleDue]

/-- A reading falls due at a non-zero multiple of 100 at which none has been taken. -/
theorem State.readingDue_iff (s : State) :
    s.readingDue = true ↔ s.now % 100 = 0 ∧ s.now ≠ 0 ∧ s.paced.read = false := by
  simp [State.readingDue, and_assoc]

end Sys2Proof.Machine
end

