-- ==== Sys2Proof/Laws/Reports.lean ====
section
/-! SUPPORT. What raising an event comes to (R128): suppressed; taken while the transmitter makes no selection and no crew
is attached; and what it never changes. -/

namespace Sys2Proof.Machine

/-- R128 step 2: a suppressed event has no effect. -/
theorem raise_suppressed {k : EventKind} {body : List Byte} {s : State} (h : s.store.active.priority k = none) :
    raise k body s = s := by
  simp only [raise, h]
  rfl

/-- Taking an event outside IDLE and WAIT_BUDGET with no crew attached works on the queue and its marks alone. -/
theorem raise_quiet (k : EventKind) (body : List Byte) {s : State} (h1 : s.rep.tx ≠ .idle)
    (h2 : s.rep.tx ≠ .waitBudget) (h3 : s.rep.crewPresent ≠ .active) :
    ∃ (q : List ReportEntry) (n : Half) (o b : Bool),
      raise k body s =
        { s with rep := { s.rep with queue := q, nextNumber := n, overrun := o, backlog := b } } := by
  unfold raise
  split
  · exact ⟨_, _, _, _, rfl⟩
  · split
    · simp only [placeEntry, sendNotice, ReportUnit.append, selectionIfOpen, h1, h2, h3, if_false, or_self,
        State.onlyReport]
      exact ⟨_, _, _, _, rfl⟩
    · split
      · simp only [placeEntry, sendNotice, ReportUnit.append, ReportUnit.markLoss, selectionIfOpen, h1, h2, h3,
          if_false, or_self, State.onlyReport]
        exact ⟨_, _, _, _, rfl⟩
      · simp only [ReportUnit.markLoss, State.onlyReport]
        exact ⟨_, _, _, _, rfl⟩

end Sys2Proof.Machine
end

