-- ==== Sys2Proof/Laws/Operations.lean ====
section
/-! SUPPORT. What the shared operations of the mechanisms, the test and the store come to. -/

namespace Sys2Proof.Machine

/-! ## The load test (R120) -/

/-- CHARGER_FAULT is an event: the battery record stays. -/
@[simp] theorem raiseChargerFault_batt (c : FaultCondition) (s : State) : (raiseChargerFault c s).batt = s.batt := rfl

/-- A notice that finds no test has no effect. -/
theorem abortTest_none {s : State} (c : TestCause) (h : s.batt.test = none) : abortTest c s = s := by
  simp only [abortTest, h]
  rfl

/-- R116, R118: a test that falls due changes the battery record alone. -/
theorem testDue_keeps (s : State) : testDue s = { s with batt := (testDue s).batt } := by
  unfold testDue
  split <;> rfl

/-- R116: a due time reached changes the battery record alone, and is then none. -/
theorem dueTimeReached_keeps (s : State) : dueTimeReached s = { s with batt := (dueTimeReached s).batt } := by
  unfold dueTimeReached testDue
  dsimp only
  split
  · rfl
  · split <;> rfl

/-- R116: after the due time is reached there is none. -/
@[simp] theorem dueTimeReached_nextDue (s : State) : (dueTimeReached s).batt.nextDue = none := by
  unfold dueTimeReached testDue
  dsimp only
  split
  · rfl
  · split <;> rfl

/-- Log 20: a due time reached while the retry wait runs on, or as a scheduled test starts, only becomes none. -/
theorem dueTimeReached_idle {s : State} (h : (waitRunsOn s || scheduledNow s) = true) :
    dueTimeReached s = { s with batt := { s.batt with nextDue := none } } := if_pos h

/-- R120: after an ending notice no test runs. -/
@[simp] theorem abortTest_test (c : TestCause) (s : State) : (abortTest c s).batt.test = none := by
  unfold abortTest
  cases h : s.batt.test with
  | none => exact h
  | some x =>
    have told : ∀ t : State, t.batt.test = none →
        (if c = .abort then t else answerTest x.origin (.failed (testRecordBytes (x.record .aborted (some c)))) t).batt.test
          = none := by
      intro t ht
      split
      · exact ht
      · cases x.origin <;> simpa [answerTest] using ht
    have left : ∀ b : Battery, b.test = none →
        (startRetry x.origin (chargerLeavesTest { s with batt := b })).batt.test = none := by
      intro b hb
      have entry : (b.entry s.store.active).test = none := by
        unfold Battery.entry
        split
        · exact hb
        · split <;> exact hb
      unfold startRetry chargerLeavesTest
      split <;> split <;> simp_all
    exact told _ (left _ rfl)

/-! ## The store's write queue (R22) -/

/-- R22: after a request its image is being written or waits to be. -/
theorem requestWrite_queued (i : ImageId) (s : State) :
    (requestWrite i s).store.inFlight.map ImageWrite.image = some i ∨ i ∈ (requestWrite i s).store.waiting := by
  unfold requestWrite
  split
  · left
    cases i <;> rfl
  · split
    · right; assumption
    · right; simp

/-- R22: a request changes neither bank, nor any slot of the hold table, nor the operator close record. -/
theorem requestWrite_keeps (i : ImageId) (s : State) :
    (requestWrite i s).store.active = s.store.active ∧ (requestWrite i s).store.shadow = s.store.shadow ∧
    (requestWrite i s).holds.slots = s.holds.slots ∧ (requestWrite i s).holds.lever = s.holds.lever ∧
    (requestWrite i s).holds.close = s.holds.close := by
  unfold requestWrite
  split
  · cases i <;> exact ⟨rfl, rfl, rfl, rfl, rfl⟩
  · split <;> exact ⟨rfl, rfl, rfl, rfl, rfl⟩

/-! ## Trip orders (R72, R76) -/

/-- A pole that a trip order has reached: a trip in flight, or OPEN. -/
def PoleRecord.driven (r : PoleRecord) : Prop := r.tripping ∨ r.position = .opened

/-- R72: an order on a pole at rest that reads OPEN completes SUCCESS at once. -/
theorem PoleRecord.order_atOnce {r : PoleRecord} (b : Bank) (now : Nat) (hp : r.position = .opened)
    (hm : r.mech = .idle ∨ r.mech = .failed) :
    r.order b now = ({ r with last := some .success }, some (false, .success)) := by
  unfold PoleRecord.order
  rcases hm with h | h <;> rw [h] <;> exact if_pos hp

/-- R72: an order on a pole at rest that does not read OPEN begins its first pulse. -/
theorem PoleRecord.order_begins {r : PoleRecord} (b : Bank) (now : Nat) (hp : r.position ≠ .opened)
    (hm : r.mech = .idle ∨ r.mech = .failed) : r.order b now = (r.beginTrip b now, none) := by
  unfold PoleRecord.order
  rcases hm with h | h <;> rw [h] <;> exact if_neg hp

/-- R72: an order on a pole with a trip in flight changes nothing. -/
theorem PoleRecord.order_tripping {r : PoleRecord} (b : Bank) (now : Nat)
    (hm : r.mech = .tripPulse ∨ r.mech = .tripWait ∨ r.mech = .tripRetry) : r.order b now = (r, none) := by
  unfold PoleRecord.order
  rcases hm with h | h | h <;> rw [h]

/-- R76: an order on a pole with a close in flight aborts the close and begins the trip. -/
theorem PoleRecord.order_closing {r : PoleRecord} (b : Bank) (now : Nat)
    (hm : r.mech = .closePulse ∨ r.mech = .closeWait) :
    r.order b now =
      ({ { r with last := some .aborted }.beginTrip b now with heldOpen := r.position = .opened },
        some (true, .aborted)) := by
  unfold PoleRecord.order
  rcases hm with h | h <;> rw [h]

/-- With no completion to take nothing changes. -/
@[simp] theorem settle_nil (n : Nat) (s : State) : settle n [] s = s := by cases n <;> rfl

/-- R72, R76: a pole's record after a trip order: driven, its position and discovery as they were. -/
theorem PoleRecord.order_driven (r : PoleRecord) (b : Bank) (now : Nat) :
    (r.order b now).1.driven ∧ (r.order b now).1.position = r.position ∧
    (r.order b now).1.discovered = r.discovered := by
  unfold PoleRecord.order PoleRecord.driven PoleRecord.tripping
  cases hm : r.mech <;> simp [PoleRecord.beginTrip, PoleRecord.tripPulse, hm]
  all_goals by_cases hp : r.position = .opened <;> simp [hp]

@[simp] theorem State.poleRec_withPole_same (s : State) (p : Pole) (r : PoleRecord) :
    (s.withPole p r).poleRec p = r := by
  cases p <;> rfl

@[simp] theorem State.poleRec_withPole_other (s : State) (p q : Pole) (r : PoleRecord) (h : q ≠ p) :
    (s.withPole p r).poleRec q = s.poleRec q := by
  cases p <;> cases q <;> first | exact absurd rfl h | rfl

/-- R72: one trip order: the pole is driven, the others are as they were. -/
theorem orderTrip_driven (p : Pole) (s : State) :
    ((orderTrip p s).1.poleRec p).driven ∧ ((orderTrip p s).1.poleRec p).position = (s.poleRec p).position ∧
    ∀ q, q ≠ p → (orderTrip p s).1.poleRec q = s.poleRec q := by
  have h := PoleRecord.order_driven ((tripNotice s).poleRec p) (tripNotice s).store.active (tripNotice s).now
  refine ⟨?_, ?_, ?_⟩
  · simpa [orderTrip] using h.1
  · simp only [orderTrip, State.poleRec_withPole_same]
    exact h.2.1
  · intro q hq
    simp only [orderTrip]
    rw [State.poleRec_withPole_other _ _ _ _ hq]
    rfl

/-! ## The close gate (R84, R85) -/

/-- R84: a close notice does not change what the gate judges. -/
theorem gateQuery_abortTest (mask : PoleMask) (c : TestCause) (s : State) :
    gateQuery mask (abortTest c s) = gateQuery mask s := by
  have level : (abortTest c s).batt.level = s.batt.level := by
    unfold abortTest
    cases h : s.batt.test with
    | none => rfl
    | some x =>
      have entry : ∀ b : Battery, (b.entry s.store.active).level = b.level := by
        intro b
        unfold Battery.entry
        split
        · rfl
        · split <;> rfl
      have left : ∀ b : Battery, b.level = s.batt.level →
          (startRetry x.origin (chargerLeavesTest { s with batt := b })).batt.level = s.batt.level := by
        intro b hb
        unfold startRetry chargerLeavesTest
        split <;> split <;> simp_all
      have told : ∀ t : State, t.batt.level = s.batt.level →
          (if c = .abort then t else answerTest x.origin (.failed (testRecordBytes (x.record .aborted (some c)))) t).batt.level
            = s.batt.level := by
        intro t ht
        split
        · exact ht
        · cases x.origin <;> simpa [answerTest] using ht
      exact told _ (left _ rfl)
  unfold gateQuery gateConditions
  rw [level]
  rfl

/-- R84: a refused close request begins no pulse. -/
theorem closeRequest_refused {mask : PoleMask} {s : State} {g : GateReason} (h : gateQuery mask s = some g) :
    closeRequest mask s = (abortTest .close s, some g) := by
  simp only [closeRequest, gateQuery_abortTest, h]

/-- R85: an admitted close request begins the pulses of its mask. -/
theorem closeRequest_admitted {mask : PoleMask} {s : State} (h : gateQuery mask s = none) :
    closeRequest mask s = (beginCloses mask (abortTest .close s), none) := by
  simp only [closeRequest, gateQuery_abortTest, h]

/-- R77, R85: a pole of the mask begins its close; another stays. -/
theorem beginCloses_pole (mask : PoleMask) (s : State) (p : Pole) :
    (beginCloses mask s).poleRec p =
      if mask.get p = true then (s.poleRec p).beginClose s.store.active s.now else s.poleRec p := by
  cases p <;> rfl

/-! ## TRIP raised (R129, R64) -/

theorem raiseTrip_given (m : PoleMask) (n : Nat) (r : Half) (e : ElementSet) (ms : Nat) (s : State) :
    raiseTrip m n r e (some ms) s = raise .trip (tripBody m n r e ms) s := rfl

theorem raiseTrip_absent (m : PoleMask) (n : Nat) (r : Half) (e : ElementSet) (s : State) :
    raiseTrip m n r e none s =
      raise .trip (tripBody m n r e (Config.absentClearing s.freeCount)) (s.spend 1) := rfl

end Sys2Proof.Machine
end

