-- ==== Sys2Proof/Laws/Output.lean ====
section
/-! SUPPORT. The frames of a port's output: what is handed over is in it, and stays in it while frames are handed over and
events are raised. -/

namespace Sys2Proof.Machine

/-- R157, R159: the radio line beginning its next frame takes no reply out of the output. -/
theorem mem_radioBegin {q : PortUnit} {f : OutFrame} {p : PortId} (h : f ∈ q.output p) :
    f ∈ (q.radioBegin).output p := by
  unfold PortUnit.radioBegin
  split
  · exact h
  · rename_i hc
    have hline : q.radioLine = none := by
      cases hl : q.radioLine with
      | none => rfl
      | some x => simp [hl] at hc
    split <;> rename_i hp
    · cases p <;> simp_all [PortUnit.output]
    · split <;> cases p <;> simp_all [PortUnit.output]

/-- R161: the crew line beginning its next frame takes nothing out of the output. -/
theorem mem_crewBegin {q : PortUnit} {f : OutFrame} {p : PortId} (h : f ∈ q.output p) :
    f ∈ (q.crewBegin).output p := by
  unfold PortUnit.crewBegin
  split
  · exact h
  · rename_i hc
    split <;> cases p <;> simp_all [PortUnit.output]

/-- R158, R161: a frame handed over leaves every output's frames in it. -/
theorem mem_hand {q : PortUnit} {f : OutFrame} {p : PortId} (o : PortId) (g : OutFrame) (h : f ∈ q.output p) :
    f ∈ ((q.hand o g).1).output p := by
  cases o
  · simp only [PortUnit.hand, PortUnit.handReply]
    split
    · refine mem_radioBegin ?_
      cases p
      · simp only [PortUnit.output, List.mem_append] at h ⊢
        rcases h with h | h
        · exact Or.inl h
        · exact Or.inr (Or.inl h)
      · exact h
    · exact h
  · simp only [PortUnit.hand, PortUnit.handCrew]
    split
    · exact h
    · refine mem_crewBegin ?_
      cases p
      · exact h
      · simp only [PortUnit.output, List.mem_append] at h ⊢
        rcases h with h | h
        · exact Or.inl h
        · exact Or.inr (Or.inl h)

/-- R158, R161: a frame handed over and not dropped is in its port's output. -/
theorem hand_mem {q : PortUnit} {o : PortId} (g : OutFrame) (h : ¬ q.drops o) : g ∈ ((q.hand o g).1).output o := by
  cases o
  · simp only [PortUnit.drops, Nat.not_le] at h
    simp only [PortUnit.hand, PortUnit.handReply, if_pos h]
    exact mem_radioBegin (by simp [PortUnit.output])
  · simp only [PortUnit.drops] at h
    simp only [PortUnit.hand, PortUnit.handCrew, if_neg h]
    exact mem_crewBegin (by simp [PortUnit.output])

/-- R159: a REPORT frame handed over leaves every output's frames in it. -/
theorem mem_handReport {q : PortUnit} {f : OutFrame} {p : PortId} (g : OutFrame) (h : f ∈ q.output p) :
    f ∈ (q.handReport g).output p :=
  mem_radioBegin (q := { q with handedReport := some g }) (by cases p <;> exact h)

/-- R128: an event raised leaves every output's frames in it. -/
theorem mem_raise {s : State} {f : OutFrame} {p : PortId} (k : EventKind) (b : List Byte) (h : f ∈ s.port.output p) :
    f ∈ (raise k b s).port.output p := by
  have pass : ∀ t : State, f ∈ t.port.output p → f ∈ (selectionIfOpen t).port.output p := by
    intro t ht
    unfold selectionIfOpen selectionPass
    split
    · split
      · exact ht
      · split
        · exact mem_handReport _ ht
        · exact ht
    · exact ht
  have place : ∀ (q : Priority) (r : ReportUnit), f ∈ (placeEntry k q b r s).port.output p := by
    intro q r
    unfold placeEntry sendNotice
    refine pass _ ?_
    split
    · exact mem_hand .crew _ h
    · exact h
  unfold raise
  show f ∈ PortUnit.output (State.port _) p
  split
  · exact h
  · split
    · exact place _ _
    · split
      · exact place _ _
      · exact h

/-- R169: without the discard mark, and not dropped, an answered command's RESULT is in its port's output. -/
theorem complete_mem {s : State} {r : CmdRef} {e : Executing} (a : Answer) (h : s.holding r = some e)
    (hd : (s.cmd.ctx r.port).discard = false) (hr : ¬ s.port.drops r.port) :
    ({ frame := resultFrame r.port e.number (CommandCode.code e.code) false a, tag := .result (some r) } : OutFrame) ∈
      (complete r a s).port.output r.port := by
  simp only [complete, h, hd, State.onlyAnswer, Bool.false_eq_true, if_false]
  exact hand_mem _ hr

end Sys2Proof.Machine
end

