-- ==== Sys2Proof/Laws/Sequence.lean ====
section
/-! SUPPORT. Commands one after another, and the sequence as LOCKOUT leaves it. -/

namespace Sys2Proof.Machine

/-! ## Commands one after another -/

@[simp] theorem execAll_nil (s : State) : execAll [] s = .next s := rfl

theorem execAll_cons {i : Instr} {s t : State} (rest : List Instr) (h : exec i s = .next t) :
    execAll (i :: rest) s = execAll rest t := by
  simp only [execAll, h]

theorem execAll_append {l : List Instr} {s t : State} (m : List Instr) (h : execAll l s = .next t) :
    execAll (l ++ m) s = execAll m t := by
  induction l generalizing s with
  | nil => cases h; rfl
  | cons i rest ih =>
    simp only [List.cons_append, execAll] at h ⊢
    cases hi : exec i s with
    | next u => rw [hi] at h; exact ih h
    | fault f => rw [hi] at h; cases h
    | refused r => rw [hi] at h; cases h

/-! ## LOCKOUT entered (R63, R46) -/

/-- R65, R66: the fault list after an update of the open record, one record at a time. -/
theorem updateOpen_faults (q : Sequence) (f : FaultRecord → FaultRecord) :
    (q.updateOpen f).faults = q.faults.map fun x => if q.openRecord = some x.number then f x else x := by
  unfold Sequence.updateOpen
  cases h : q.openRecord with
  | none => simp
  | some n => simp [eq_comm]

/-- R65, R66: an update of the open record changes the fault list alone. -/
theorem updateOpen_eq (q : Sequence) (f : FaultRecord → FaultRecord) :
    q.updateOpen f = { q with faults := (q.updateOpen f).faults } := by
  obtain ⟨_, _, _, _, _, _, _, opened, _⟩ := q
  cases opened <;> rfl

/-- R63: the sequence that LOCKOUT leaves, entered with outcome LOCKOUT, in the words of the statements. -/
theorem enterLockout_seq (cause : LockoutCause) (s : State) :
    (enterLockout cause .lockout s).seq = s.seq.lockedOut cause := by
  simp only [enterLockout, State.onlySequence, raise_seq, State.withSeq, Sequence.closeRecord]
  rw [updateOpen_eq, updateOpen_faults]
  rfl

/-- R63: with no open record, LOCKOUT leaves the fault list as it was. -/
theorem lockedOut_faults_none {q : Sequence} (cause : LockoutCause) (h : q.openRecord = none) :
    (q.lockedOut cause).faults = q.faults := by
  simp [Sequence.lockedOut, h]

end Sys2Proof.Machine
end

