-- ==== Sys2Proof/Tests/Slice0.lean ====
section
/-! SUPPORT. The model's own tests: ill-formed commands that the form test refuses, received runs written out byte by
byte, one-step checks, and for every statement with hypotheses a concrete state and operands that meet them, clause by
clause. -/

set_option maxRecDepth 100000
set_option Elab.async false

namespace Sys2Proof.Tests

open Sys2Proof Sys2Proof.Machine

/-! ## Helpers -/

/-- The next state of an outcome. -/
def nx (o : Host.Outcome State Fault Refusal) : Option State :=
  match o with
  | .next t => some t
  | _ => none

/-- `State.ready` as a test. -/
def isReady (s : State) (p : PortId) : Bool :=
  s.powered && (decide (p = .radio) || decide (s.port.crewPresent = .active)) && (s.cmd.ctx p).executing.isNone

/-- `State.takesIn` as a test. -/
def isIn (s : State) (p : RunPort) : Bool :=
  s.powered && (decide (p ≠ .crew) || decide (s.port.crewPresent = .active))

/-- `State.expires` as a test. -/
def isDue (s : State) (t : Timer) : Bool := s.powered && t.due s.now

theorem in_of {s : State} {p : RunPort} (h : isIn s p = true) : s.takesIn p := by
  simp only [isIn, Bool.and_eq_true, Bool.or_eq_true, decide_eq_true_eq] at h
  exact ⟨h.1, fun hp => h.2.resolve_left fun hn => hn hp⟩

theorem ready_of {s : State} {p : PortId} (h : isReady s p = true) : s.ready p := by
  simp only [isReady, Bool.and_eq_true, Bool.or_eq_true, decide_eq_true_eq, Option.isNone_iff_eq_none] at h
  refine ⟨⟨h.1.1, fun hp => ?_⟩, h.2⟩
  cases p
  · exact absurd hp (by decide)
  · exact h.1.2.resolve_left (by decide)

theorem expires_of {s : State} {t : Timer} (h : isDue s t = true) : s.expires t := by
  simp only [isDue, Bool.and_eq_true] at h
  cases t with
  | none => exact absurd h.2 (by simp [Timer.due])
  | some e => exact ⟨h.1, e, rfl, by simpa [Timer.due] using h.2⟩

theorem last_of {s : State} {p : Pole} {k : TripKind} (h : s.seq.state = .tripping)
    (hp : s.seq.ctx.tripsOut.get p = some k) (hq : ∀ q ∈ [Pole.a, .b, .c], q ≠ p → s.seq.ctx.tripsOut.get q = none)
    (hc : ∀ q ∈ [Pole.a, .b, .c], s.seq.ctx.closesOut.get q = false) : s.lastTrip p k :=
  ⟨h, hp, fun q => hq q (by cases q <;> decide), fun q => hc q (by cases q <;> decide)⟩

/-- After reset, with a crew attached, the radio ready, the report queue empty. -/
def live : State :=
  { State.reset with
    port := { State.reset.port with radioReady := .active, crewPresent := .active }
    cmd := { State.reset.cmd with crewPresent := .active }
    rep := { State.reset.rep with queue := [], tx := .idle, radioReady := .active, crewPresent := .active } }

/-- A pole read OPEN. -/
def openPole : PoleRecord := { PoleRecord.initial with position := .opened, discovered := true }

/-- A pole read CLOSED. -/
def closedPole : PoleRecord := { PoleRecord.initial with position := .closed, discovered := true }

/-- `live`, locked out with its poles OPEN and nothing that bars a close. -/
def closable : State :=
  { live with
    poles := { live.poles with pole := .all openPole, handle := .inactive, storeVoltage := 2400 }
    prot := { live.prot with linkUp := true }
    holds := { live.holds with leverAccepted := true } }

/-- A command under way. -/
def task (code : CommandCode) (rest : List (List Byte)) : Executing :=
  { code := code, number := 7, serial := 0, rest := rest }

/-- A port's context EXECUTING a command. -/
def serving (p : PortId) (e : Executing) (frameOut : Bool) (s : State) : State :=
  { s with cmd := { s.cmd.setCtx p { executing := some e, discard := false, frameOut := frameOut } with
                    nextSerial := 1 } }

/-- A radio hold of all three poles. -/
def someHold (tag : Half) : Hold :=
  { origin := .radio, tag := tag, scope := .full, profile := true, setTag := 0 }

/-- The same hold in slots 1 to `n`, under tags 1 to `n`. -/
def holdingTo (n : Nat) (s : State) : State :=
  { s with holds := { s.holds with
    slots := Vector.ofFn fun k => if k.val < n then some (someHold (BitVec.ofNat 16 (k.val + 1))) else none } }

/-- The operator close record of a CLOSE on the crew port, its timer due. -/
def record (phase : ClosePhase) : CloseRecord :=
  { cmd := ⟨.crew, 0⟩, number := 7, mask := .full, phase := phase, warningEnd := 0,
    timer := if phase = .warning then some 0 else none }

/-- A load test under way, its timer due. -/
def loadTest (origin : TestOrigin) : LoadTest :=
  { origin := origin, startTag := 0, startVoltage := 27000, minVoltage := 25000, timer := some 0 }

/-- A report entry. -/
def entry (n : Half) (p : Priority) (inFlight : Bool) : ReportEntry :=
  { number := n, priority := p, kind := .start, tag := 0, timeSet := false, body := [], cost := 1,
    attempts := if inFlight then 1 else 0, channel := none, resume := .primary, allowance := 2, inFlight := inFlight,
    overrunCarried := false }

/-- `live` with a report queue and a transmitter state, every radio timer due. -/
def reporting (q : List ReportEntry) (tx : TxState) : State :=
  { live with rep := { live.rep with
    queue := q, tx := tx, ackTimer := some 0, holdoffTimer := some 0, refillTimer := some 0,
    periodicTimer := some 0 } }

/-- `closable` with pole A at work. -/
def working (r : PoleRecord) : State := closable.withPole .a r

/-- A pole at a mechanism state and position, every timer due. -/
def atWork (m : Mech) (p : Position) : PoleRecord :=
  { PoleRecord.initial with position := p, discovered := true, mech := m, pulse := some 0, window := some 0,
                            gap := some 0 }

/-- `closable` with its poles CLOSED, in a sequence state, phase A's element one step from OPERATED. -/
def struck (st : SeqState) : State :=
  { closable with
    poles := { closable.poles with pole := .all closedPole }
    prot := { closable.prot with elements := { PerChannel.all Element.rest with
      a := { Element.rest with state := .timing, acc := 2 ^ 30 - 1 } } }
    seq := { closable.seq with state := st } }

/-- A frame with 20,000 on phase A. -/
def strike : Instr :=
  .measure 5 ⟨⟨20000, .valid⟩, ⟨0, .valid⟩, ⟨0, .valid⟩, ⟨0, .valid⟩⟩ ⟨⟨1, .valid⟩, ⟨1, .valid⟩, ⟨1, .valid⟩⟩

/-- `working` on the last order outstanding of a sequence state: a trip in TRIPPING, a close in CLOSING. -/
def lastOrder (st : SeqState) (r : PoleRecord) : State :=
  { working r with seq := { closable.seq with
    state := st
    ctx := { ShotContext.empty with
      tripsOut := if st = .tripping then ⟨some .fault, none, none⟩ else ⟨none, none, none⟩
      closesOut := if st = .closing then .single .a else .none } } }

/-! ## The form test -/

theorem test_wf_reply_empty : Instr.wf (.relayReply 1 []) = false := by decide
theorem test_wf_reply_port : Instr.wf (.relayReply 1 [2]) = false := by decide
theorem test_wf_reply_long : Instr.wf (.relayReply 1 (List.replicate 49 0)) = false := by decide
theorem test_wf_relay_long : Instr.wf (.relay .radio 1 (List.replicate 49 0)) = false := by decide
theorem test_wf_run_good :
    Instr.wf (.runDiscarded .radio (RawFrame.bytes ⟨0, 3, 9, 0, [1]⟩)) = false := by decide +kernel
theorem test_wf_bad_spells : Instr.wf (.badCommand .radio 1 [1]) = false := by decide
theorem test_wf_bad_long : Instr.wf (.badCommand .radio 1 (List.replicate 49 0)) = false := by decide +kernel
theorem test_wf_load_none : Instr.wf (.tableLoad .radio 1 0 0 []) = false := by decide
theorem test_wf_load_long : Instr.wf (.tableLoad .radio 1 0 0 (List.replicate 10 ⟨1, 0⟩)) = false := by decide
theorem test_wf_aux_none : Instr.wf (.auxChange .a ⟨none, none⟩) = false := by decide
theorem test_wf_good : Instr.wf (.tableLoad .crew 1 0 0 [⟨1, 5⟩]) = true := by decide

/-! ## Runs written out (08) -/

/-- 08: the check of the nine digits is 29B1. -/
theorem test_crc : crc16 [0x31, 0x32, 0x33, 0x34, 0x35, 0x36, 0x37, 0x38, 0x39] = 0x29B1#16 := by decide +kernel

/-- STATUS number 0x0102 on the radio port: part, COMMAND, number, flags, length 1, code 1, check. -/
theorem test_run_status :
    decodeRun .radio ([0, 3, 1, 2, 0, 1, 1] ++ be16 (crc16 [0, 3, 1, 2, 0, 1, 1])) =
      some (.status .radio 0x0102) := by decide +kernel

/-- TRIP of poles A and C on the crew port; the flags byte is not judged. -/
theorem test_run_trip :
    decodeRun .crew ([0, 3, 0, 5, 0xFF, 2, 8, 5] ++ be16 (crc16 [0, 3, 0, 5, 0xFF, 2, 8, 5])) =
      some (.trip .crew 5 5) := by decide +kernel

/-- TABLE_LOAD of one pair: table 3, record 0, field 2, value 0x01020304. -/
theorem test_run_load :
    decodeRun .radio ([0, 3, 0, 1, 0, 8, 3, 3, 0, 2, 1, 2, 3, 4] ++
        be16 (crc16 [0, 3, 0, 1, 0, 8, 3, 3, 0, 2, 1, 2, 3, 4])) =
      some (.tableLoad .radio 1 3 0 [⟨2, 0x01020304⟩]) := by decide +kernel

/-- MEASURE: currents 1 to 4 with marks VALID, OVERRANGE, INVALID, VALID; voltages 5 to 7, all VALID. -/
theorem test_run_measure :
    decodeRun .tank ([0, 0, 0, 9, 0, 16, 0, 1, 0, 2, 0, 3, 0, 4, 0x18, 0, 5, 0, 6, 0, 7, 0] ++
        be16 (crc16 [0, 0, 0, 9, 0, 16, 0, 1, 0, 2, 0, 3, 0, 4, 0x18, 0, 5, 0, 6, 0, 7, 0])) =
      some (.measure 9 ⟨⟨1, .valid⟩, ⟨2, .overrange⟩, ⟨3, .invalid⟩, ⟨4, .valid⟩⟩
        ⟨⟨5, .valid⟩, ⟨6, .valid⟩, ⟨7, .valid⟩⟩) := by decide +kernel

/-- R151: a REPORT_ACK on the crew port is not accepted there. -/
theorem test_run_ack_crew :
    decodeRun .crew ([0, 6, 0, 1, 0, 0] ++ be16 (crc16 [0, 6, 0, 1, 0, 0])) = none := by decide +kernel

/-- A run whose check is wrong. -/
theorem test_run_check : decodeRun .radio [0, 3, 1, 2, 0, 1, 1, 0, 0] = none := by decide +kernel

/-! ## One step -/

/-- R187: reset is what POWER_ON leaves on the contents of log 1. -/
theorem test_reset : nx (exec .powerOn { State.reset with powered := false }) = some State.reset := by decide +kernel

/-- R21: a loss of power leaves the images. -/
theorem test_power_loss : (nx (exec .powerLoss live)).map (fun t => (t.powered, t.store.nv)) =
    some (false, live.store.nv) := by decide +kernel

/-- A step takes the front command and leaves the rest. -/
theorem test_step_front : (nx (step { live with pending := [.alarmEnd, .doorOpen] })).map State.pending =
    some [.doorOpen] := by decide +kernel

/-- A step on an empty queue is a millisecond; at 60 s the refill falls due. -/
theorem test_step_tick :
    (nx (step { live with time := { live.time with baseCount := 59999 } })).map
      (fun t => (t.time.baseCount, t.time.timeTag, t.pending)) = some (60000, 1, [.refillTimerExpiry]) := by
  decide +kernel

/-- R100: a CLOSE that nothing bars stands in WARNING, its tone on. -/
theorem test_close : (nx (exec (.close .radio 1 7) closable)).map
    (fun t => (t.holds.close.map CloseRecord.phase, t.outputs.sounder)) = some (some .warning, .warning) := by
  decide +kernel

/-- R101: the gate admits it at the warning's end: three close coils. -/
theorem test_warning_end :
    (nx (exec .warningTimerExpiry { closable with holds := { closable.holds with close := some (record .warning) } })).map
      (fun t => (t.outputs.close, t.seq.state)) = some (⟨true, true, true⟩, .closing) := by decide +kernel

/-- R60, R72: an operator trip of a pole read CLOSED and one read OPEN: one coil, one success at once. -/
theorem test_trip : (nx (exec (.trip .radio 1 3) (working closedPole))).map
    (fun t => (t.outputs.trip, t.seq.operatorTrips.map OperatorTrip.waiting)) =
      some (⟨true, false, false⟩, [⟨true, false, false⟩]) := by decide +kernel

/-- R27, R38: the first frame restores the link; a current above pickup leaves IDLE. -/
theorem test_measure :
    (nx (exec (.measure 5 ⟨⟨20000, .valid⟩, ⟨0, .valid⟩, ⟨0, .valid⟩, ⟨0, .valid⟩⟩
      ⟨⟨1, .valid⟩, ⟨1, .valid⟩, ⟨1, .valid⟩⟩) live)).map
      (fun t => (t.prot.linkUp, t.prot.elements.a.state, t.prot.episode.isSome)) = some (true, .timing, true) := by
  decide +kernel

/-- R41 to R43: the last of two trapped exceptions is recorded, LATEST set, and SAMPLE_EXCEPTION raised where it rises
and not where it stands; a frame with none clears LATEST and keeps the record. -/
theorem test_exception :
    let bank := live.store.active.set 1 0 11 1
    let s : State := { closable with
      store := { live.store with active := bank }
      rep := { live.rep with tx := .disabled }
      prot := { closable.prot with linkTimer := some 100, latest := { closable.prot.latest with number := 4 } } }
    let stood : State := { s with prot := { s.prot with latestFlag := true } }
    let frame : Mark → Instr := fun m =>
      .measure 5 ⟨⟨0, .invalid⟩, ⟨0, m⟩, ⟨0, .valid⟩, ⟨0, .valid⟩⟩ (.all ⟨1, .valid⟩)
    let leaves := fun (i : Instr) (u : State) (x : Option (ExceptionKind × Channel)) (latest : Bool) (sent : List Byte) =>
      (nx (exec i u)).any fun t => decide (t.prot.exception.map (fun e => (e.kind, e.channel)) = x) &&
        decide (t.prot.latestFlag = latest) && decide (t.rep.queue.flatMap ReportEntry.body = sent)
    leaves (frame .overrange) s (some (.overrange, .b)) true [1, 1, 0, 5, 0, 0, 0, 0] ∧
    leaves (frame .valid) s (some (.invalidSample, .a)) true [0, 0, 0, 5, 0, 0, 0, 0] ∧
    leaves (frame .overrange) stood (some (.overrange, .b)) true [] ∧
    leaves (.measure 5 (.all ⟨0, .valid⟩) (.all ⟨1, .valid⟩)) stood none false [] := by
  decide +kernel

/-- R93 step 4, R115 step 1, R55, R63: in DEAD_TIME a hold of a port, the lever's hold and SHUTDOWN_PENDING give LOCKOUT
at once, with HOLD, HOLD and SUPPLY; in RECLAIM none of them does. -/
theorem test_dead_time_left :
    let at' : SeqState → State := fun st => { closable with
      time := { live.time with baseCount := 100 }
      seq := { closable.seq with state := st, cause := .lastShot, shot := 2, deadTimer := some 900 } }
    let leaves := fun (i : Instr) (st : SeqState) (u : SeqState) (c : LockoutCause) (shot : Nat) (timer : Timer) =>
      (nx (exec i (at' st))).any fun t => decide (t.seq.state = u) && decide (t.seq.cause = c) &&
        decide (t.seq.shot = shot) && decide (t.seq.deadTimer = timer)
    ∀ x ∈ [(Instr.holdSet .crew 1 9 7 0, LockoutCause.hold), (.holdLeverChange true, .hold),
        (.cabinetReading 21600 0 2400 20, .supply)],
      leaves x.1 .deadTime .lockout x.2 1 none ∧ leaves x.1 .reclaim .reclaim .lastShot 2 (some 900) := by
  decide +kernel

/-- CLOSING after an operator close, pole A's close the last order, the close waiting for a mask; the crew's CLOSE waits. -/
def operatorClosing (waiting : PoleMask) (r : PoleRecord) : State :=
  let base := lastOrder .closing r
  { serving .crew (task .close []) false base with
    holds := { base.holds with close := some (record .pulsing) }
    seq := { base.seq with
      afterClose := true
      operatorClose := some { mask := .full, waiting := waiting, outcomes := ⟨none, none, some .success⟩ } } }

/-- LOCKOUT with pole A's trip at work and the crew's TRIP of it waiting. -/
def operatorTripping (r : PoleRecord) : State :=
  let base := serving .crew (task .trip []) false (working r)
  { base with seq := { base.seq with
    operatorTrips := [{ cmd := some ⟨.crew, 0⟩, mask := .single .a, waiting := .single .a, outcomes := .all none,
                        inLockout := true }] } }

/-- R60, R61: the last completion of a TRIP taken in LOCKOUT gives the cause OPERATOR, the context IDLE and the RESULT:
DONE with SUCCESS, FAILED with FAILED. -/
theorem test_trip_ends :
    (nx (exec (.tripPulseEnd .a) (operatorTripping (atWork .tripPulse .opened)))).map (fun t =>
      (t.seq.cause, t.cmd.crew, t.port.crewLine.map fun f => f.frame.payload)) =
      some (.operator, .idle, some [8, 0, 0, 0, 255, 255]) ∧
    (nx (exec (.tripWindowExpiry .a) (operatorTripping { atWork .tripWait .closed with attempt := 2 }))).map (fun t =>
      (t.seq.cause, t.cmd.crew, t.port.crewList.map fun f => f.frame.payload.take 2)) =
      some (.operator, .idle, [[8, 1]]) := by decide +kernel

/-- R62, R105: with pole B's close still out the operator close waits on; at its last close the record goes and the CLOSE
is answered. -/
theorem test_close_ends :
    (nx (exec (.closePulseEnd .a) (operatorClosing ⟨true, true, false⟩ (atWork .closePulse .closed)))).map (fun t =>
      (t.holds.close.isSome, t.seq.operatorClose.map fun c => c.waiting)) =
      some (true, some ⟨false, true, false⟩) ∧
    (nx (exec (.closePulseEnd .a) (operatorClosing (.single .a) (atWork .closePulse .closed)))).map (fun t =>
      (t.holds.close, t.seq.operatorClose, t.cmd.crew, t.port.crewLine.map fun f => f.frame.payload)) =
      some (none, none, .idle, some [9, 0, 0, 0, 255, 0]) ∧
    (nx (exec (.closeWindowExpiry .a) (operatorClosing (.single .a) (atWork .closeWait .opened)))).map (fun t =>
      (t.holds.close, t.seq.cause, t.cmd.crew)) = some (none, .mechFail, .idle) := by decide +kernel

/-- R62, R76, R105: a TRIP from the radio makes the last close of the crew's CLOSE trip-free: the record goes and the CLOSE
is answered. -/
theorem test_close_trip_free :
    (nx (exec (.trip .radio 1 1) (operatorClosing (.single .a) (atWork .closeWait .unknown)))).map (fun t =>
      (t.seq.state, t.holds.close, t.cmd.crew, t.port.crewList.map fun f => f.frame.payload.take 2)) =
      some (.tripping, none, .idle, [[9, 1]]) := by decide +kernel

/-- R100, log 22: with a warning delay of 0 a CLOSE begins its pulses in its own step and asks for no tone. -/
theorem test_close_at_once :
    let s : State := { closable with store := { closable.store with active := closable.store.active.set 2 0 5 0 } }
    s.store.active.warningDelay .crew = 0 ∧
    (nx (exec (.close .crew 1 3) s)).map (fun t =>
      (t.seq.state, t.holds.close.map CloseRecord.phase, t.line.warningEnd, t.outputs.close)) =
      some (.closing, some .pulsing, none, ⟨true, true, false⟩) := by decide +kernel

/-- R190, R45, log 17: the third discovery on three CLOSED poles takes the initial LOCKOUT to RESET, and leaves a LOCKOUT
(START) that a warm restart has entered since. -/
theorem test_start_decision :
    let third : State := { live with
      poles := { live.poles with pole := { PerPole.all closedPole with a := PoleRecord.initial } } }
    let restarted : State := { third with seq := { third.seq with initial := false, lamp := true } }
    let seen := fun (u : State) => (nx (exec (.auxChange .a ⟨some true, some false⟩) u)).map fun t =>
      (t.seq.state, t.seq.lamp, t.seq.decided, t.rep.queue.length)
    seen third = some (.reset, false, true, 0) ∧ seen restarted = some (.lockout, true, true, 0) := by decide +kernel

/-- R183: the flags of HOLD_LEVER, CREW_PRESENT and RADIO_READY, and CREW_ATTACHED, at a change under an enabled mask. -/
theorem test_flags :
    let f := { live.line.filters with cabinet := .all { Filter.initial with accepted := .inactive } }
    let s : State := { live with line := { live.line with filters := f, masks := .all true } }
    (nx (exec (.holdLeverChange true) s)).map (fun t => t.line.radioFlags.holdLever && t.line.crewFlags.holdLever) =
      some true ∧
    (nx (exec (.crewPresentChange true) s)).map (fun t => (t.line.radioFlags.crewPresent && t.line.crewFlags.crewPresent,
      t.rep.queue.map ReportEntry.kind)) = some (true, [.crewAttached]) ∧
    (nx (exec (.radioReadyChange true) s)).map (fun t => t.line.radioFlags.radioReady && t.line.crewFlags.radioReady) =
      some true := by decide +kernel

/-- R48 to R50, R56, R58, R59, R64: an operation signal in each sequence state orders the three trips. -/
theorem test_signals : ([SeqState.reset, .tripping, .deadTime, .closing, .reclaim, .lockout].map fun st =>
    (nx (exec strike (struck st))).map fun t => (t.seq.state, t.outputs.trip)) =
      List.replicate 5 (some (.tripping, ⟨true, true, true⟩)) ++ [some (.lockout, ⟨true, true, true⟩)] := by
  decide +kernel

/-- R91, R94: a crew hold takes slot 1 and its image write starts. -/
theorem test_hold_set : (nx (exec (.holdSet .crew 1 9 7 0) closable)).map
    (fun t => (t.holds.slot 1 |>.map Hold.tag, t.store.inFlight.map ImageWrite.image, t.store.nv.hold)) =
      some (some 9, some .hold, none) := by decide +kernel

/-- R176: STATUS is answered in two frames, the first with CONTINUE. -/
theorem test_status : (nx (exec (.status .crew 3) live)).map
    (fun t => (t.port.crewLine.toList ++ t.port.crewList).map fun f => (f.frame.flags.more, f.frame.payload.length)) =
      some [(true, 39), (false, 41)] := by decide +kernel

/-- 08, R177: STATUS of `live`: LOCKOUT, cause START, three poles UNKNOWN and IDLE, no outcome; a count that does not
fit is sent as 0 with its range flag. -/
theorem test_status_layout :
    let full : State := { live with port := { live.port with gaps := 65536 } }
    (statusFirst live).take 3 = [5, 8, 1] ∧ ((statusFirst live).drop 9).take 6 = [128, 128, 128, 255, 255, 255] ∧
    ((statusFirst full).drop 33).take 3 = [0, 0, 64] ∧ (statusSecond live).length = 38 ∧
    (batteryFirst live).length = 31 ∧ (batterySecond live).length = 20 ∧
    fitted 2 65535 = 65535 ∧ fitted 2 65536 = 0 := by
  decide +kernel

/-- R71, R109, R185, R186: the lines of a part that trips pole A, charges in FLOAT, tests, and is asked for both
tones. -/
theorem test_outputs :
    ({ working (atWork .tripPulse .closed) with
      batt := { live.batt with charger := .float, test := some (loadTest .scheduled), shutdown := .waiting }
      line := { live.line with warningEnd := some 5, alarmEnd := some 9 } } : State).outputs =
      { trip := ⟨true, false, false⟩, close := ⟨false, false, false⟩, storeCharge := false, chargerEnable := true,
        chargerBoost := false, testLoad := true, shutdown := false, lockoutLamp := false, sounder := .warning } := by
  decide +kernel

/-- R166: an unknown code is answered BAD_COMMAND with that code. -/
theorem test_bad_command : (nx (exec (.badCommand .crew 3 [200]) live)).map
    (fun t => t.port.crewLine.map fun f => f.frame.payload) = some (some [200, 5, 0]) := by decide +kernel

/-- R181: a filter of count 3 accepts at the third equal reading. -/
theorem test_filter :
    ((Filter.initial.sample 3 true).1.sample 3 true).1.accepted = .notYet ∧
    (((Filter.initial.sample 3 true).1.sample 3 true).1.sample 3 true).1.accepted = .active := by decide +kernel

/-- R181, R182: a sample in which the one input MANUAL_TRIP accepts has the effect of its change row. -/
theorem test_sample_one_change :
    let still : Inputs Filter :=
      { aux := .all ⟨⟨.active, none, 0, 3⟩, ⟨.active, none, 0, 3⟩⟩, cabinet := .all ⟨.active, none, 0, 3⟩ }
    let handle := fun (f : Filter) => { still with cabinet := { still.cabinet with manualTrip := f } }
    let s := fun (f : Filter) => ({ closable with line := { closable.line with filters := handle f } } : State)
    let before := s ⟨.inactive, some true, 2, 3⟩
    (nx (exec (.lineSample ⟨.all ⟨true, true⟩, .all true⟩) before)).map
        (fun t => ({ t with paced := live.paced } : State)) =
      nx (exec (.manualTripChange true) (s ⟨.inactive, none, 0, 3⟩)) ∧
    (nx (exec (.lineSample ⟨.all ⟨true, true⟩, .all true⟩) before)).map (fun t => t.poles.handle) = some .active := by
  decide +kernel

/-- R128 step 5, R138: an event raised in IDLE is sent; in WAIT_BUDGET, with no budget, it waits. -/
theorem test_event_raised :
    (raise .start [] live).rep.tx = .awaitAck ∧ (raise .start [] live).rep.queue.map (·.inFlight) = [true] ∧
    (let poor : State := { live with rep := { live.rep with tx := .waitBudget, budget := 0 } }
     (raise .start [] poor).rep.tx = .waitBudget ∧
       (raise .start [] poor).rep.queue.map (·.inFlight) = [false]) := by
  decide +kernel

/-- R98: bytes 2 and 3 of the summary with the record in WARNING and in PULSING. -/
theorem test_hold_summary :
    let h := fun p => ({ live.holds with close := some { record p with warningEnd := 700 } } : HoldUnit)
    (holdListSummary 0 100 (h .warning)).drop 2 = [2, 88] ∧ (holdListSummary 0 100 (h .pulsing)).drop 2 = [0, 0] := by
  decide +kernel

/-- R19, R20: an exchange for half the capacity, another test interval, another period and a lower ceiling. -/
theorem test_bank_swap :
    let bank := (((live.store.shadow.set 4 0 1 12000).set 4 0 14 5).set 5 0 4 10).set 5 0 5 10
    let s : State := { closable with store := { live.store with shadow := bank } }
    validate bank = none ∧
    (nx (exec (.bankSwap .crew 1) s)).map (fun t =>
      ((t.batt.coulomb, t.batt.estimated, t.batt.nextDue), t.rep.budget, t.rep.periodicTimer,
        t.rep.queue.map ReportEntry.kind)) =
      some ((s.batt.coulomb / 2, true, some 432000000), 9, some 600000, [.bankSwapped]) := by
  decide +kernel

/-! ## What meets each statement's hypotheses -/

theorem witness_StepOnEmptyQueueIsOneMillisecond :
    live.pending = [] ∧ live.powered = true ∧ ({ live with powered := false } : State).powered = false ∧
    (281474976710654 + 1 < 2 ^ 48) ∧ 2 ^ 48 ≤ 281474976710655 + 1 := by decide +kernel

theorem witness_NextStateAlways :
    ({ live with powered := false } : State).powered = false ∧ Instr.alarmEnd ≠ .powerOn ∧
    expiryTimer .alarmEnd = some (fun s => s.line.alarmEnd) ∧ ¬ live.expires live.line.alarmEnd :=
  ⟨by decide +kernel, by decide, rfl, by rintro ⟨_, e, he, _⟩; cases he⟩

theorem witness_SupplyOnAndOff :
    live.powered = true ∧ live.store.nv.hold = some (Vector.replicate 7 none) ∧
    (let lost : State := { live with store := { live.store with nv := { settings := none, hold := none } } }
     lost.store.nv.hold = none ∧ (nx (exec .powerOn lost)).map (fun t =>
       (t.rep.queue.map fun e => (e.number, e.kind, e.body), t.rep.nextNumber, t.rep.periodicTimer)) =
         some ([(1, .defaultsInUse, [0, 0, 0, 0, 0]), (2, .storeHold, [1, 7]), (3, .start, [1, 1])], 4,
           some 3600000)) := by decide +kernel

theorem witness_FieldKeepsItsValue :
    fieldExists 0 7 26 = true ∧ fieldExists 0 7 27 = false ∧ fieldExists 7 1 16 = true ∧ fieldExists 8 0 1 = false ∧
    (7, 1, 16) ≠ ((0, 7, 26) : Nat × Nat × Nat) := by decide

/-- R10: point 5 of a curve of 4 points is passed over, point 4 is not; nor is the last point of a curve of 12. -/
theorem witness_ValidationFindsFirstFailure :
    let row : Nat → FieldRow := fun f => ⟨0, 0, f, 105, 4000, 150, false⟩
    let full := defaultBank.set 0 0 1 12
    passesAt (defaultBank.set 0 0 7 0) (row 7) = true ∧ passesAt (defaultBank.set 0 0 6 0) (row 6) = false ∧
    passesAt (full.set 0 0 14 0) (row 14) = false := by decide +kernel

theorem witness_TableLoadWritesShadow :
    live.ready .radio ∧ live.store.owner ≠ some .crew ∧ fieldExists 3 0 1 = true ∧ fieldExists 3 0 10 = false ∧
    ({ live with store := live.store.claim .crew 0 } : State).ready .radio ∧
    (live.store.claim .crew 0).owner = some (PortId.other .radio) ∧
    1 ≤ [FieldPair.mk 1 5].length ∧ (List.replicate 9 (FieldPair.mk 1 5)).length ≤ 9 :=
  ⟨ready_of (by decide +kernel), by decide +kernel, by decide, by decide, ready_of (by decide +kernel), by decide +kernel,
    by decide, by decide⟩

/-- Fields 1 to 8 in one frame, 1 to 9 in two; table 9 does not exist. -/
theorem witness_TableReadAnswersCopy :
    live.ready .crew ∧ ¬ live.port.drops .crew ∧ fieldExists 3 0 1 = true ∧ fieldExists 3 0 8 = true ∧
    fieldExists 3 0 9 = true ∧ fieldExists 9 0 1 = false ∧ (List.range' 1 8).length = 8 ∧
    8 < (List.range' 1 9).length := by
  refine ⟨ready_of (by decide +kernel), ?_, by decide, by decide, by decide, by decide, by decide, by decide⟩
  simp only [PortUnit.drops]
  decide +kernel

theorem witness_BankCopyAndRelease :
    (∀ o : Option PortId, ({ live with store := { live.store with owner := o } } : State).ready .radio) ∧
    live.store.owner = none ∧ live.store.ownerTimer = none ∧ (some PortId.radio ≠ some (PortId.other .radio)) := by
  refine ⟨?_, by decide +kernel, by decide +kernel, by decide⟩
  intro o
  exact ready_of rfl

/-- The first reason of R18, and the last: a shadow that fails validation. -/
theorem witness_BankSwapRefused :
    let owned : State := { live with store := live.store.claim .crew 0 }
    let invalid : State := { live with store := { live.store with shadow := defaultBank.set 1 0 1 0 } }
    owned.ready .radio ∧ owned.store.owner = some (PortId.other .radio) ∧ invalid.ready .radio ∧
    swapBar .radio invalid = some (.refused .shadowInvalid [1, 0, 1]) :=
  ⟨ready_of (by decide +kernel), by decide +kernel, ready_of (by decide +kernel), by decide +kernel⟩

theorem witness_BankSwapExchanges :
    live.ready .radio ∧ live.store.owner ≠ some (PortId.other .radio) ∧ live.seq.state = .lockout ∧
    (∀ q, (live.poleRec q).mech = .idle) ∧ live.holds.close = none ∧
    (∀ x, (live.prot.elements.get x).state = .idle) ∧ live.batt.test = none ∧ live.store.inFlight = none ∧
    live.store.waiting = [] ∧ validate live.store.shadow = none := by
  refine ⟨ready_of (by decide +kernel), by decide +kernel, by decide +kernel, ?_, by decide +kernel, ?_,
    by decide +kernel, by decide +kernel, by decide +kernel, by decide +kernel⟩
  · intro q; cases q <;> decide +kernel
  · intro x; cases x <;> decide +kernel

/-- A BANK_SWAP that waits for its write with none pending; a HOLD_SET that waits for its write with one pending. -/
theorem witness_StoreWriteCompletes :
    let swap : State := { serving .radio (task .bankSwap []) false live with store := { live.store with
      inFlight := some (.settings defaultBank), swapWaiter := some ⟨.radio, 0⟩ } }
    let hold : State := { serving .crew (task .holdSet []) false live with
      store := { live.store with inFlight := some (.hold live.holds.slots), waiting := [.settings] }
      holds := { live.holds with waiters := [⟨⟨.crew, 0⟩, 1, true⟩] } }
    swap.powered = true ∧ swap.store.waiting = [] ∧ swap.store.swapWaiter = some ⟨.radio, 0⟩ ∧
    swap.holding ⟨.radio, 0⟩ = some (task .bankSwap []) ∧ hold.powered = true ∧
    hold.store.waiting = [.settings] ∧ hold.holding ⟨.crew, 0⟩ = some (task .holdSet []) ∧
    ImageId.hold ∉ hold.store.waiting.head? ∧ live.store.inFlight = none := by decide +kernel

/-- At pickup 200: at it, just below, at the dropout 190, and below it. -/
theorem witness_ElementStepByBand :
    200 ≤ 200 ∧ 200 * 95 / 100 ≤ 199 ∧ 199 < 200 ∧ 200 * 95 / 100 ≤ 190 ∧ 190 < 200 ∧ 189 < 200 * 95 / 100 ∧
    2 ^ 30 ≤ 0 + 2 ^ 31 / 2 ∧ 0 + 2 ^ 31 / 3 < 2 ^ 30 := by decide

theorem witness_CurveTimeInterpolates :
    let points : List (Nat × Nat) := [(100, 9000), (200, 3000), (400, 1000)]
    (∀ i (h : i + 1 < points.length), points[i].1 < points[i + 1].1) ∧
    (∀ i (h : i + 1 < points.length), points[i + 1].2 ≤ points[i].2) ∧
    curveTime points 100 = 9000 ∧ curveTime points 400 = 1000 ∧ curveTime points 300 = 2000 := by
  refine ⟨?_, ?_, by decide, by decide, by decide⟩
  · intro i h
    have : i = 0 ∨ i = 1 := by simp at h; omega
    rcases this with rfl | rfl <;> simp
  · intro i h
    have : i = 0 ∨ i = 1 := by simp at h; omega
    rcases this with rfl | rfl <;> simp

theorem witness_MeasureUpdatesRecordAndLink : live.powered = true ∧ State.reset.powered = true := by decide +kernel

/-- A quiet frame, one whose current leaves an element TIMING, and one that makes it OPERATED: with no
pole OPEN, and in DEAD_TIME with all of them OPEN. -/
theorem witness_MeasureStepsElements :
    (∀ st p, ¬ ((struck st).poleRec p).openAtRest) ∧
    (let opened : State := { struck .deadTime with poles := closable.poles }
     (∀ p, (opened.poleRec p).openAtRest) ∧
       (nx (exec strike opened)).map (fun t => (t.seq.state, t.seq.cause)) = some (.lockout, .evolving)) ∧
    (∀ st, (struck st).prot.elements.a.state ≠ .operated) ∧
    (phaseStep defaultBank 1 false (evaluateCurrent true ⟨20000, .valid⟩) (struck .reset).prot.elements.a
      0).element.state = .operated ∧
    live.powered = true ∧
    (phaseStep live.store.active 1 false (evaluateCurrent true ⟨0, .valid⟩) .rest 0).element.state = .idle ∧
    (groundStep live.store.active 1 false (evaluateCurrent true ⟨0, .valid⟩) .rest).element.state = .idle ∧
    (phaseStep live.store.active 1 false (evaluateCurrent true ⟨2000, .valid⟩) .rest 0).element.state = .timing := by
  refine ⟨?_, ⟨?_, by decide +kernel⟩, ?_, by decide +kernel, by decide +kernel, by decide +kernel, by decide +kernel,
    by decide +kernel⟩
  · intro st p
    simp only [PoleRecord.openAtRest]
    cases p <;> exact fun h => absurd h.1 (by show Position.closed ≠ .opened; decide)
  · intro p; cases p <;> exact ⟨rfl, Or.inl rfl⟩
  · intro st
    show ElementState.timing ≠ .operated
    decide

theorem witness_LinkTimerLosesLink :
    let s : State := { live with prot := { live.prot with linkUp := true, linkTimer := some 0 } }
    s.expires s.prot.linkTimer := expires_of (by decide +kernel)

theorem witness_ReadsAnswerAtOnce :
    (∀ x : Option ExceptionEntry, ({ live with prot := { live.prot with exception := x } } : State).ready .crew) ∧
    live.ready .radio ∧ live.prot.exception = none ∧ live.prot.latestFlag = false :=
  ⟨fun _ => ready_of (by rfl), ready_of (by decide +kernel), by decide +kernel, by decide +kernel⟩

theorem witness_FlagsChangeUserFlags : live.ready .crew ∧ (3#8).toNat ≤ 3 ∧ 3 < (4#8).toNat :=
  ⟨ready_of (by decide +kernel), by decide, by decide⟩

/-- Two records; four holds and five. -/
theorem witness_ReadsAnswerInFrames :
    let r : FaultRecord := { number := 1, startTag := 0, shots := 1, maxima := .all 0, elements := .none,
                             lastMask := .none, clearing := 0, outcome := none, cause := none }
    let s : State := { holdingTo 5 live with seq := { live.seq with faults := [r, { r with number := 2 }] } }
    s.ready .crew ∧ ¬ s.port.drops .crew ∧ s.seq.faults.filter (fun r => r.number = 9) = [] ∧
    (s.seq.faults.drop (2 - 1)).length = 1 ∧ (s.seq.faults.drop (2 - 8)).length = 2 ∧ 4 < s.holds.table.length ∧
    (holdingTo 4 live).holds.table.length ≤ 4 := by
  refine ⟨ready_of (by decide +kernel), ?_, by decide +kernel, by decide +kernel, by decide +kernel, by decide +kernel,
    by decide +kernel⟩
  simp only [PortUnit.drops]
  decide +kernel

/-- A reclose of pole A that the gate admits, and one that a hold refuses. -/
theorem witness_DeadTimerRecloses :
    let s : State := { closable with seq := { closable.seq with
      state := .deadTime, deadTimer := some 0, ctx := { ShotContext.empty with reclose := .single .a } } }
    s.expires s.seq.deadTimer ∧ gateQuery s.seq.ctx.reclose s = none ∧
    (holdingTo 1 s).expires s.seq.deadTimer ∧ gateQuery s.seq.ctx.reclose (holdingTo 1 s) = some .hold :=
  ⟨expires_of (by decide +kernel), by decide +kernel, expires_of (by decide +kernel), by decide +kernel⟩

theorem witness_ReclaimTimerResets :
    let s : State := { live with seq := { live.seq with state := .reclaim, reclaimTimer := some 0 } }
    s.expires s.seq.reclaimTimer := expires_of (by decide +kernel)

theorem witness_TripTakenInAnyState :
    closable.ready .crew ∧ (8#8).toNat > 7 ∧ (0#8).toNat = 0 ∧ (7#8).toNat ≤ 7 ∧
    (∀ q, closable.seq.ctx.tripsOut.get q = none) ∧ (atWork .tripPulse .closed).tripping ∧
    (∀ q, (closable.poleRec q).openAtRest) ∧ ¬ closedPole.openAtRest := by
  refine ⟨ready_of (by decide +kernel), by decide, by decide, by decide, ?_, Or.inl rfl, ?_, ?_⟩
  · intro q; cases q <;> rfl
  · intro q; cases q <;> exact ⟨rfl, Or.inl rfl⟩
  · intro h; cases h.1

/-- Each clause in its own mechanism state; the default bank enables the retry. -/
theorem witness_TripTimersEnd :
    (∀ m pos, (working (atWork m pos)).expires ((working (atWork m pos)).poleRec .a).pulse) ∧
    (∀ m pos, (working (atWork m pos)).expires ((working (atWork m pos)).poleRec .a).window) ∧
    (∀ m pos, (working (atWork m pos)).expires ((working (atWork m pos)).poleRec .a).gap) ∧
    (∀ m pos, ((working (atWork m pos)).poleRec .a).mech = m ∧ ((working (atWork m pos)).poleRec .a).position = pos ∧
      ((working (atWork m pos)).poleRec .a).attempt = 1) ∧
    ((working { atWork .tripPulse .closed with windowHeld := true, attempt := 2 }).poleRec .a).attempt ≠ 1 ∧
    closable.store.active.retryEnable = true ∧
    (let s := lastOrder .tripping (atWork .tripPulse .opened)
     s.expires (s.poleRec .a).pulse ∧ s.seq.ctx.tripsOut = ⟨some .fault, none, none⟩ ∧
       s.seq.ctx.closesOut.isEmpty = true ∧ s.seq.ctx.failed.isEmpty = true ∧
       s.lastTrip .a .fault ∧
       (nx (exec (.tripPulseEnd .a) s)).map (fun t => (t.seq.state, t.seq.cause)) = some (.lockout, .lastShot)) ∧
    (let s := lastOrder .tripping { atWork .tripWait .closed with attempt := 2 }
     s.lastTrip .a .fault ∧ s.expires (s.poleRec .a).window ∧
       (nx (exec (.tripWindowExpiry .a) s)).map (fun t => (t.seq.state, t.seq.cause)) = some (.lockout, .mechFail) ∧
       (nx (exec (.tripWindowExpiry .a) (s.withPole .b closedPole))).map (fun t => (t.seq.state, t.seq.ctx.tripsOut)) =
         some (.tripping, ⟨none, some .fault, none⟩)) :=
  ⟨fun _ _ => expires_of rfl, fun _ _ => expires_of rfl, fun _ _ => expires_of rfl, fun _ _ => ⟨rfl, rfl, rfl⟩,
    by decide +kernel, by decide +kernel,
    ⟨expires_of (by decide +kernel), by decide +kernel, by decide +kernel, by decide +kernel,
      last_of rfl rfl (by decide +kernel) (by decide +kernel), by decide +kernel⟩,
    last_of rfl rfl (by decide +kernel) (by decide +kernel), expires_of (by decide +kernel), by decide +kernel,
    by decide +kernel⟩

theorem witness_ClosePulseAndWindow :
    (∀ m pos, (working (atWork m pos)).expires ((working (atWork m pos)).poleRec .a).pulse) ∧
    (∀ m pos, (working (atWork m pos)).expires ((working (atWork m pos)).poleRec .a).window) ∧
    ((working (atWork .closePulse .closed)).poleRec .a).windowHeld = false ∧
    ((working { atWork .closePulse .opened with windowHeld := true }).poleRec .a).windowHeld = true ∧
    (lastOrder .closing (atWork .closePulse .closed)).seq.ctx.closesOut = .single .a ∧
    (nx (exec (.closePulseEnd .a) (lastOrder .closing (atWork .closePulse .closed)))).map (fun t => t.seq.state) =
      some .reclaim ∧
    (nx (exec (.closeWindowExpiry .a) (lastOrder .closing (atWork .closeWait .opened)))).map (fun t => t.seq.cause) =
      some .mechFail :=
  ⟨fun _ _ => expires_of rfl, fun _ _ => expires_of rfl, rfl, rfl, rfl, by decide +kernel, by decide +kernel⟩

theorem witness_MechResetClearsFailed :
    let busy := working { atWork .tripPulse .closed with failed := true }
    let clear := working { atWork .failed .closed with failed := true }
    busy.ready .crew ∧ (busy.poleRec .a).failed = true ∧ (busy.poleRec .a).tripping ∧ clear.ready .crew ∧
    (∀ p, (clear.poleRec p).failed = true → ¬ (clear.poleRec p).tripping) := by
  refine ⟨ready_of (by decide +kernel), rfl, Or.inl rfl, ready_of (by decide +kernel), ?_⟩
  intro p _
  simp only [PoleRecord.tripping]
  cases p <;> decide +kernel

/-- First acceptances of one contact and then of the other; a reading that completes a close; readings that end TRIPPING
and CLOSING; a pole that opens by itself; the third discovery. -/
theorem witness_AuxChangeDecodesPosition :
    (let shut : Contacts (Option Bool) := ⟨some true, some false⟩
     let parted : Contacts (Option Bool) := ⟨some false, some true⟩
     let jammed : State := lastOrder .closing (atWork .closePulse .opened)
     let decided : State := { working closedPole with seq := { closable.seq with decided := true } }
     (nx (exec (.auxChange .a parted) (lastOrder .tripping (atWork .tripRetry .closed)))).map
         (fun t => (t.seq.state, t.seq.cause)) = some (.lockout, .lastShot) ∧
       (nx (exec (.auxChange .a shut) jammed)).map (fun t => t.seq.state) = some .reclaim ∧
       (nx (exec (.auxChange .a shut) { jammed with seq := { jammed.seq with
         ctx := { jammed.seq.ctx with closeFailed := true } } })).map (fun t => t.seq.cause) = some .mechFail ∧
       (nx (exec (.auxChange .a parted) decided)).map (fun t => t.rep.queue.map fun e => (e.kind, e.body)) =
         some [(.positionChange, [0, 1, 0])]) ∧
    (let read : Contacts (Option Bool) := ⟨some true, some false⟩
     let third : State := { live with
       poles := { live.poles with pole := { PerPole.all closedPole with a := PoleRecord.initial } } }
     (nx (exec (.auxChange .a read) (working (atWork .closeWait .opened)))).map (fun t => (t.poleRec .a).last) =
         some (some .success) ∧
       third.seq.decided = false ∧
       (nx (exec (.auxChange .a read) third)).map (fun t => (t.seq.decided, t.seq.state)) = some (true, .reset)) ∧
    live.powered = true ∧ (live.line.filters.aux.get .a).a.accepted = .notYet ∧
    (InputLevel.active ≠ .notYet ∧ InputLevel.inactive ≠ .notYet) := by decide +kernel

theorem witness_CabinetReadingTaken :
    live.powered = true ∧ ¬ (live.now % 100 = 0 ∧ live.now ≠ 0) ∧
    (let s : State := { live with time := { live.time with baseCount := 100 } }
     s.now % 100 = 0 ∧ s.now ≠ 0 ∧ s.batt.test = none ∧
       ({ s with batt := { s.batt with test := some (loadTest .scheduled) } } : State).batt.test.isSome = true ∧
       ([ChargerState.off, .bulk, .absorb, .float, .fault].map fun c =>
         let u : State := { s with batt := { s.batt with charger := c, absorbEntry := some 0 } }
         (nx (exec (.cabinetReading 28800 0 2400 20) u)).map fun t => t.batt.charger) =
           [some .off, some .absorb, some .float, some .float, some .fault] ∧
       (nx (exec (.cabinetReading 30001 0 2400 20) s)).map (fun t => t.batt.charger) = some .fault ∧
       (nx (exec (.cabinetReading 21601 0 2400 20) s)).map (fun t => t.batt.shutdown) = some .none ∧
       (nx (exec (.cabinetReading 21600 0 2400 20) s)).map (fun t => t.batt.shutdown) = some .waiting) := by
  decide +kernel

/-- A second reading at one count has no effect; under a test a reading below the test abort voltage ends it, and one
too cold waits as the pending fault. -/
theorem witness_CabinetReadingTaken_test :
    let s : State := { live with time := { live.time with baseCount := 100 } }
    let again : State := { s with paced := { s.paced with read := true } }
    let tested : State := { s with batt := { s.batt with charger := .test, test := some (loadTest .scheduled) } }
    s.paced.read = false ∧ again.paced.read = true ∧
    nx (exec (.cabinetReading 28800 0 2400 20) again) = some again ∧
    tested.batt.charger = .test ∧ tested.batt.test = some (loadTest .scheduled) ∧
    tested.store.active.testAbortVoltage = 23800 ∧
    (nx (exec (.cabinetReading 23799 0 2400 20) tested)).map
      (fun t => (t.batt.test, t.batt.lastTest.map TestRecord.cause)) = some (none, some (some .lowVoltage)) ∧
    (nx (exec (.cabinetReading 23800 0 2400 (-21)) tested)).map
      (fun t => (t.batt.test.map LoadTest.minVoltage, t.batt.pendingFault, t.batt.charger)) =
        some (some 23800, some .temperatureLow, .test) := by
  decide +kernel

theorem witness_DecayLowersAccumulator : defaultBank.resetTime 0 = 1000 ∧ 0 < 8 ∧ defaultBank.resetTime 7 = 1000 := by
  decide +kernel

/-- A hold replaced, a hold placed in an empty slot, a full table, a tag of 0. -/
theorem witness_HoldSetPlaces :
    (∀ n, (holdingTo n closable).ready .radio) ∧ (holdingTo 1 closable).holds.find .radio 1 = some 1 ∧
    (holdingTo 1 closable).holds.find .radio 2 = none ∧ (holdingTo 1 closable).holds.firstEmpty = some 2 ∧
    (holdingTo 7 closable).holds.find .radio 8 = none ∧
    (holdingTo 7 closable).holds.slots.toList.all Option.isSome = true :=
  ⟨fun _ => ready_of rfl, by decide +kernel, by decide +kernel, by decide +kernel, by decide +kernel, by decide +kernel⟩

theorem witness_HoldClearRemoves :
    (holdingTo 7 closable).ready .radio ∧ (holdingTo 7 closable).holds.find .radio 7 = some 7 ∧
    (holdingTo 7 closable).holds.find .radio 8 = none ∧ closable.ready .crew ∧
    closable.holds.find .store 0 = none :=
  ⟨ready_of (by decide +kernel), by decide +kernel, by decide +kernel, ready_of (by decide +kernel), by decide +kernel⟩

theorem witness_HoldLeverPlacesOrRemoves :
    live.powered = true ∧ live.line.filters.cabinet.holdLever.accepted ≠ .active ∧
    live.line.filters.cabinet.holdLever.accepted ≠ .inactive ∧
    (record .warning).phase = .warning ∧ (record .warning).mask.isEmpty = false := by decide +kernel

theorem witness_CloseRefusedAtOnce :
    closable.ready .crew ∧ (0#8).toNat = 0 ∧ 7 < (8#8).toNat ∧ live.ready .crew ∧ live.holds.leverAccepted = false ∧
    (holdingTo 1 closable).ready .radio ∧ gateQuery .full (holdingTo 1 closable) = some .hold :=
  ⟨ready_of (by decide +kernel), by decide, by decide, ready_of (by decide +kernel), by decide +kernel,
    ready_of (by decide +kernel), by decide +kernel⟩

theorem witness_CloseOpensWarning :
    closable.ready .radio ∧ closable.holds.leverAccepted = true ∧ closable.holds.close = none ∧
    closable.seq.state = .lockout ∧ gateQuery .full closable = none ∧ 0 < closable.store.active.warningDelay .radio :=
  ⟨ready_of (by decide +kernel), by decide +kernel, by decide +kernel, by decide +kernel, by decide +kernel,
    by decide +kernel⟩

theorem witness_WarningTimerAsksGate :
    let s : State := { closable with holds := { closable.holds with close := some (record .warning) } }
    s.expires (record .warning).timer ∧ s.holds.close = some (record .warning) ∧ gateQuery .full s = none ∧
    (holdingTo 1 s).expires (record .warning).timer ∧ gateQuery .full (holdingTo 1 s) = some .hold :=
  ⟨expires_of (by decide +kernel), rfl, by decide +kernel, expires_of (by decide +kernel), by decide +kernel⟩

/-- A part at rest on which a test may start; one on which condition 1 fails; timers due. -/
theorem witness_TestStarts :
    let fit : State := { closable with
      batt := { closable.batt with charger := .float, ac := .active, nextDue := some 0, retryWait := some 0 }
      seq := { closable.seq with state := .reset } }
    fit.ready .crew ∧ testBar fit = none ∧ fit.batt.test = none ∧ fit.expires fit.batt.nextDue ∧
    fit.expires fit.batt.retryWait ∧ closable.ready .crew ∧ testBar closable = some 1 ∧
    ({ fit with batt := { fit.batt with retryWait := none } } : State).expires fit.batt.nextDue ∧
    ({ fit with batt := { fit.batt with test := some (loadTest .scheduled) } } : State).ready .crew ∧
    fit.now < 1 ∧ ({ fit with batt := { fit.batt with retryWait := some 1 } } : State).expires fit.batt.nextDue ∧
    scheduledNow (startTest .scheduled fit) = true ∧ (startTest .scheduled fit).expires fit.batt.nextDue :=
  ⟨ready_of (by decide +kernel), by decide +kernel, by decide +kernel, expires_of (by decide +kernel),
    expires_of (by decide +kernel), ready_of (by decide +kernel), by decide +kernel, expires_of (by decide +kernel),
    ready_of (by decide +kernel), by decide +kernel, expires_of (by decide +kernel), by decide +kernel,
    expires_of (by decide +kernel)⟩

theorem witness_DurationTimerGrades :
    let x := loadTest (.command ⟨.crew, 0⟩ 7)
    let s : State := serving .crew (task .batteryTest []) false { live with batt := { live.batt with test := some x } }
    s.expires x.timer ∧ s.batt.test = some x ∧ s.holding ⟨.crew, 0⟩ = some (task .batteryTest []) :=
  ⟨expires_of (by decide +kernel), rfl, by decide +kernel⟩

theorem witness_PlainExpiries :
    let s : State := { live with
      store := { live.store with ownerTimer := some 0 }
      batt := { live.batt with faultClear := some 0, shutdown := .waiting, shutdownTimer := some 0 }
      line := { live.line with alarmEnd := some 0, warningEnd := some 0 } }
    s.expires s.store.ownerTimer ∧ s.expires s.batt.faultClear ∧ s.expires s.batt.shutdownTimer ∧
    s.batt.shutdown = .waiting ∧ s.expires s.line.alarmEnd ∧ s.expires s.line.warningEnd :=
  ⟨expires_of (by decide +kernel), expires_of (by decide +kernel), expires_of (by decide +kernel), rfl,
    expires_of (by decide +kernel), expires_of (by decide +kernel)⟩

/-- A first acceptance of each level; a loss under a test; the level already accepted. -/
theorem witness_AcChangeMovesCharger :
    let f := { live.line.filters with cabinet := { live.line.filters.cabinet with
      acPresent := { Filter.initial with accepted := .active } } }
    let tested : State := { live with
      line := { live.line with filters := f }
      batt := { live.batt with charger := .test, test := some (loadTest .scheduled) } }
    live.powered = true ∧ live.line.filters.cabinet.acPresent.accepted ≠ .active ∧
    live.line.filters.cabinet.acPresent.accepted ≠ .inactive ∧ live.batt.charger ≠ .test ∧ tested.powered = true ∧
    tested.line.filters.cabinet.acPresent.accepted = .active ∧
    tested.line.filters.cabinet.acPresent.accepted ≠ .inactive ∧ tested.batt.charger = .test ∧
    tested.batt.test = some (loadTest .scheduled) := by decide +kernel

/-- A kind that the report map suppresses; a queue with room; full queues of ROUTINE, NORMAL and URGENT entries. -/
theorem witness_EventsAreQueued :
    let full := fun p => reporting ((List.range 64).map fun k => entry (BitVec.ofNat 16 (k + 1)) p false) .disabled
    (defaultBank.set 5 0 7 3).priority .start = none ∧ live.store.active.priority .start = some .normal ∧
    live.rep.queue.length < 64 ∧ live.rep.tx = .idle ∧ (reporting [] .disabled).rep.tx ≠ .idle ∧
    (full .routine).rep.queue.length = 64 ∧ (full .normal).rep.queue.length = 64 ∧
    (full .normal).rep.queue.any (fun e => decide (e.priority = .routine)) = false ∧
    (full .normal).rep.queue.head? = some (entry 1 .normal false) ∧
    (full .routine).rep.queue.head? = some (entry 1 .routine false) ∧ (full .urgent).rep.queue.length = 64 ∧
    (full .urgent).rep.queue.any (fun e => decide (e.priority = .routine)) = false ∧
    (full .urgent).rep.queue.any (fun e => decide (e.priority = .normal)) = false := by decide +kernel

theorem witness_RefillAndSelection :
    let s := reporting [entry 1 .urgent false, entry 2 .normal false] .waitBudget
    s.expires s.rep.refillTimer ∧ (entry 1 .urgent false).inFlight = false ∧ s.batt.level = .normal ∧
    (s.rep.queue.map ReportEntry.number).Nodup ∧ (entry 1 .urgent false).cost ≤ s.rep.budget ∧ live.rep.queue = [] :=
  ⟨expires_of (by decide +kernel), rfl, by decide +kernel, by decide +kernel, by decide +kernel, by decide +kernel⟩

theorem witness_ReportTimersEnd :
    let s := reporting [entry 1 .urgent true] .awaitAck
    s.expires s.rep.ackTimer ∧ s.rep.tx = .awaitAck ∧
    s.rep.queue.find? (·.inFlight) = some (entry 1 .urgent true) ∧ 0 < (entry 1 .urgent true).allowance ∧
    ({ entry 1 .urgent true with allowance := 0, resume := .alternate } : ReportEntry).allowance = 0 ∧
    s.expires s.rep.holdoffTimer ∧ s.expires s.rep.periodicTimer :=
  ⟨expires_of (by decide +kernel), rfl, by decide +kernel, by decide, rfl, expires_of (by decide +kernel),
    expires_of (by decide +kernel)⟩

theorem witness_AckRemovesEntry :
    let s := reporting [entry 1 .urgent true, entry 2 .normal false] .awaitAck
    s.powered = true ∧ (∀ e ∈ s.rep.queue, e.number = 2 → e.attempts = 0) ∧ entry 1 .urgent true ∈ s.rep.queue ∧
    (s.rep.queue.map ReportEntry.number).Nodup ∧ 1 ≤ (entry 1 .urgent true).attempts := by decide +kernel

/-- Services 0, 15 and 16, one allowed and one not; a queue with room and a full one; replies to each port. -/
theorem witness_RelayPassesOrIsAnswered :
    let allow : Word → State := fun v => { live with store := { live.store with active := defaultBank.set 7 0 16 v } }
    let full : State := { allow 1 with port := { live.port with tankQueue := List.replicate 4 (relayFrame .radio 1 [0]) } }
    (allow 0).takesIn .radio ∧ (allow 0).store.active.relayAllowed .radio 15 = false ∧ (allow 1).takesIn .radio ∧
    (allow 1).store.active.relayAllowed .radio 15 = true ∧ (allow 1).port.tankQueue.length < 4 ∧ full.takesIn .radio ∧
    4 ≤ full.port.tankQueue.length ∧ 15 < (16#8).toNat ∧ (0#8) = PortId.code .radio ∧ (1#8) = PortId.code .crew ∧
    1 < (2#8).toNat :=
  ⟨in_of (by decide +kernel), by decide +kernel, in_of (by decide +kernel), by decide +kernel, by decide +kernel,
    in_of (by decide +kernel), by decide +kernel, by decide, rfl, rfl, by decide⟩

theorem witness_BadRunsAndCommands :
    live.powered = true ∧ decodeRun .tank [1, 2, 3] = none ∧ State.reset.port.crewPresent ≠ .active ∧
    [1#8, 2, 3, 4, 5, 6, 7].length < 8 ∧ 56 < (List.replicate 57 0#8).length ∧
    decodeRun .radio (RawFrame.bytes ⟨0, 6, 9, 0, []⟩) = some (.reportAck 9) ∧ live.takesIn .crew ∧
    parseCommand .crew 1 [23] = none ∧ 22 < (23#8).toNat :=
  ⟨by decide +kernel, by decide +kernel, by decide +kernel, by decide, by decide, by decide +kernel, in_of (by decide +kernel),
    by decide, by decide⟩

/-- A plain frame, a REPORT and the last frame but one of a paced answer, each on its line. -/
theorem witness_TransmissionEnds :
    let out : FrameTag → OutFrame := fun g => { frame := relayFrame .radio 1 [], tag := g }
    let on : FrameTag → State := fun g => { live with
      port := { live.port with radioLine := some (out g), crewLine := some (out g), tankBusy := true }
      rep := { live.rep with handed := some { id := 4, number := 1, frame := relayFrame .radio 1 [] } } }
    let read : PortId → State := fun p => serving p (task .tableRead [[1]]) true (on (.result (some ⟨p, 0⟩)))
    live.powered = true ∧ live.port.tankBusy = false ∧ live.port.radioLine = none ∧ live.port.crewLine = none ∧
    (on .reply).powered = true ∧ (on .reply).port.radioLine = some (out .reply) ∧ (on .reply).port.tankBusy = true ∧
    (out (.report 4)).tag = .report 4 ∧
    (∀ p ∈ [PortId.radio, .crew], (read p).holding ⟨p, 0⟩ = some (task .tableRead [[1]]) ∧
      ((read p).cmd.ctx p).frameOut = true) ∧ (task .tableRead [[1]]).rest = [[1]] ∧
    (task .tableRead [[1], [2]]).rest = [1] :: [2] :: [] ∧
    live.port.radioPending.length < 4 ∧ live.port.crewPresent = .active ∧ live.port.crewList.length < 8 := by
  decide +kernel

theorem witness_RightsThenBusy :
    live.takesIn .radio ∧ live.takesIn .crew ∧ commandPayload (.status .crew 1) = some (.crew, 1, [1]) ∧
    Instr.wf (.status .crew 1) = true ∧ (serving .crew (task .trip []) false live).takesIn .crew ∧
    ((serving .crew (task .trip []) false live).cmd.ctx .crew).executing.isSome = true :=
  ⟨in_of (by decide +kernel), in_of (by decide +kernel), rfl, rfl, in_of (by decide +kernel), by decide +kernel⟩

/-- An IDLE context; a read, a TRIP, a CLOSE in each phase and a test under way. -/
theorem witness_AbortEndsOrIsRefused :
    let busy : CommandCode → State := fun c => serving .crew (task c []) false
      { live with
        batt := { live.batt with test := some (loadTest (.command ⟨.crew, 0⟩ 7)) }
        holds := { live.holds with close := some (record .warning) } }
    let pulsing : State := { busy .close with holds := { live.holds with close := some (record .pulsing) } }
    (∀ c, (busy c).takesIn .crew) ∧ pulsing.takesIn .crew ∧ (live.cmd.ctx .crew).executing = none ∧
    (∀ c, ((busy c).cmd.ctx .crew).executing = some (task c []) ∧ ((busy c).cmd.ctx .crew).discard = false) ∧
    (busy .close).holds.close = some (record .warning) ∧ (record .warning).phase = .warning ∧
    pulsing.holds.close = some (record .pulsing) ∧ (record .pulsing).phase = .pulsing ∧
    (busy .batteryTest).batt.test = some (loadTest (.command ⟨.crew, 0⟩ 7)) :=
  ⟨fun _ => in_of rfl, in_of rfl, rfl, fun _ => ⟨rfl, rfl⟩, rfl, rfl, rfl, rfl, rfl⟩

/-- First acceptances; a detach that finds a CLOSE in each phase and a read; a fall of RADIO_READY. -/
theorem witness_CrewAndRadioChanges :
    let f := { live.line.filters with cabinet := { live.line.filters.cabinet with
      crewPresent := { Filter.initial with accepted := .active }
      radioReady := { Filter.initial with accepted := .active } } }
    let on : State := { live with line := { live.line with filters := f } }
    let closing : ClosePhase → State := fun ph =>
      { serving .crew (task .close []) false on with holds := { on.holds with close := some (record ph) } }
    live.powered = true ∧ live.line.filters.cabinet.crewPresent.accepted ≠ .active ∧
    on.line.filters.cabinet.crewPresent.accepted ≠ .inactive ∧ on.cmd.crew.executing = none ∧
    (closing .warning).cmd.crew.executing = some (task .close []) ∧ (closing .warning).cmd.crew.frameOut = false ∧
    (closing .warning).holds.close = some (record .warning) ∧ (closing .pulsing).holds.close = some (record .pulsing) ∧
    (record .warning).cmd.port = .crew ∧ (record .pulsing).phase = .pulsing ∧
    (∀ c ∈ [CommandCode.tableRead, .faultRead, .holdList],
      (serving .crew (task c [[1]]) true on).cmd.crew.executing = some (task c [[1]]) ∧
      (serving .crew (task c [[1]]) true on).cmd.crew.frameOut = true ∧
      (nx (exec (.crewPresentChange false) (serving .crew (task c [[1]]) true on))).map (fun t => t.cmd.crew) =
        some .idle) ∧
    live.line.filters.cabinet.radioReady.accepted ≠ .active ∧ (reporting [] .disabled).rep.tx = .disabled ∧
    on.line.filters.cabinet.radioReady.accepted ≠ .inactive ∧ on.rep.tx ≠ .disabled := by decide +kernel

/-- First acceptances of the handle and the door; a door closed before, under an enabled mask. -/
theorem witness_HandleAndDoor :
    let f := { live.line.filters with cabinet := { live.line.filters.cabinet with
      door := { Filter.initial with accepted := .inactive } } }
    let shut : State := { live with line := { live.line with filters := f } }
    live.powered = true ∧ live.line.filters.cabinet.manualTrip.accepted ≠ .active ∧
    live.line.filters.cabinet.manualTrip.accepted ≠ .inactive ∧ live.seq.ctx.tripsOut.get .a = none ∧
    live.line.filters.cabinet.door.accepted = .notYet ∧ shut.powered = true ∧
    shut.line.filters.cabinet.door.accepted = .inactive ∧ shut.line.masks.door = true := by decide +kernel

theorem witness_TimeAndMasksSet :
    live.ready .radio ∧ live.ready .crew ∧ (∀ i : MaskInput, (i.get (PerMask.all 2#8)).toNat ≤ 2) ∧
    2 < (MaskInput.door.get (PerMask.all 3#8)).toNat := by
  refine ⟨ready_of (by decide +kernel), ready_of (by decide +kernel), ?_, by decide⟩
  intro i; cases i <;> decide

/-- An odd count; an even one, where filters that have accepted nothing take their first reading without accepting; a
second sample at one count. -/
theorem witness_LineSampleStepsFilters :
    live.paced.sampled = false ∧
    (let again : State := { live with paced := { live.paced with sampled := true } }
     nx (exec (.lineSample ⟨.all ⟨true, true⟩, .all true⟩) again) = some again) ∧
    live.powered = true ∧ ({ live with time := { live.time with baseCount := 1 } } : State).now % 2 = 1 ∧
    live.now % 2 = 0 ∧ (Filter.initial.sample 2 true).1.accepted = Filter.initial.accepted := by decide +kernel

theorem witness_RestartRefusedOrTaken :
    closable.ready .crew ∧ restartBar closable = none ∧ (working (atWork .tripPulse .closed)).ready .crew ∧
    restartBar (working (atWork .tripPulse .closed)) = some .poleBusy :=
  ⟨ready_of (by decide +kernel), by decide +kernel, ready_of (by decide +kernel), by decide +kernel⟩

/-- Reset meets every invariant, and steps. -/
theorem witness_invariants :
    State.reset.activeValid ∧ State.reset.rep.ok ∧ State.reset.listsBounded ∧ State.reset.store.queueOk ∧
    State.reset.loadAlone ∧ State.reset.countsBounded ∧ State.reset.cmd.framesOk ∧
    (nx (step State.reset)).isSome = true := by
  refine ⟨?_, ?_, ?_, ?_, ?_, ?_, ?_, by decide +kernel⟩
  · simp only [State.activeValid]; decide +kernel
  · simp only [ReportUnit.ok]; decide +kernel
  · simp only [State.listsBounded]; decide +kernel
  · simp only [SettingStore.queueOk]
    refine ⟨?_, by decide +kernel, by decide +kernel⟩
    intro w hw; cases hw
  · intro h; cases h
  · simp only [State.countsBounded]; decide +kernel
  · intro p h; cases p <;> cases h

theorem witness_ActiveBankStaysValid : State.reset.activeValid := witness_invariants.1

theorem witness_QueuesStayWithinBounds :
    State.reset.rep.ok ∧ State.reset.listsBounded ∧ State.reset.countsBounded ∧ State.reset.cmd.framesOk :=
  ⟨witness_invariants.2.1, witness_invariants.2.2.1, witness_invariants.2.2.2.2.2.1, witness_invariants.2.2.2.2.2.2.1⟩

theorem witness_StoreAndHoldTableStayOk : State.reset.store.queueOk ∧ State.reset.holdsOk := by
  refine ⟨witness_invariants.2.2.2.1, ?_⟩
  have free : slotsOk (Vector.replicate 7 none) := by
    constructor
    · intro h hh
      exact absurd hh (by simp)
    · intro i j h k hi
      have hm := List.mem_of_getElem? hi
      exact absurd hm (by simp)
  refine ⟨?_, free, ?_, ?_⟩
  · intro h hh
    cases hh
  · intro v hv
    cases hv
    exact free
  · intro w v hw
    cases hw

/-- The warning's end on `closable` energises pole A's close coil. -/
theorem witness_ClosesAreGuarded :
    let s : State := { closable with holds := { closable.holds with close := some (record .warning) } }
    (nx (exec .warningTimerExpiry s)).map (fun t => (t.poleRec .a).mech) = some .closePulse ∧
    (s.poleRec .a).mech ≠ .closePulse ∧ State.reset.loadAlone :=
  ⟨by decide +kernel, by decide +kernel, witness_invariants.2.2.2.2.1⟩

theorem witness_FramesReadBack :
    Instr.wf (.holdSet .crew 1 2 7 1) = true ∧
    encodeFrame (.holdSet .crew 1 2 7 1) = some (.crew, ⟨0, 3, 1, 0, [11, 0, 2, 7, 1]⟩) := by decide

end Sys2Proof.Tests
end

section
/-! PROOFS. What the store and the hold table go through in a step: the part of the state that holds them, the moves by
which a step can change it, and that every command makes no others. -/

namespace Sys2Proof.Machine

/-! ## The vault: the part of the state that R12, R21, R22 and R89 speak of -/

/-- The active bank, the nonvolatile images with their write queue, and the hold table. -/
structure Vault where
  active : Bank
  nv : Nonvolatile
  inFlight : Option ImageWrite
  waiting : List ImageId
  lever : Option Hold
  slots : Vector (Option Hold) 7

/-- The vault of a state. -/
def State.vault (s : State) : Vault :=
  { active := s.store.active, nv := s.store.nv, inFlight := s.store.inFlight, waiting := s.store.waiting,
    lever := s.holds.lever, slots := s.holds.slots }

/-- R21: a write starts. -/
def Vault.start (v : Vault) : ImageId → Vault
  | .settings => { v with inFlight := some (.settings v.active), nv := { v.nv with settings := none } }
  | .hold => { v with inFlight := some (.hold v.slots), nv := { v.nv with hold := none } }

/-- R22: a write requested. -/
def Vault.request (v : Vault) (i : ImageId) : Vault :=
  if v.inFlight.isNone then v.start i
  else if i ∈ v.waiting then v
  else { v with waiting := v.waiting ++ [i] }

/-- R21: the write in flight has run to completion. -/
def Vault.finish (v : Vault) : ImageWrite → Vault
  | .settings b => { v with inFlight := none, nv := { v.nv with settings := some b } }
  | .hold h => { v with inFlight := none, nv := { v.nv with hold := some h } }

/-- R22: the write at the head of the pending list starts. -/
def Vault.startNext (v : Vault) : Vault :=
  match v.waiting with
  | i :: rest => Vault.start { v with waiting := rest } i
  | [] => v

/-- R89: a slot's contents stand beside those of the other slots: no LEVER hold, no second hold with one origin and
tag. -/
def fitsBeside (v : Vector (Option Hold) 7) (k : Nat) (x : Option Hold) : Prop :=
  ∀ h, x = some h → h.origin ≠ .lever ∧
    ∀ (j : Nat) (g : Hold), j ≠ k → v.toList[j]? = some (some g) → ¬ (g.origin = h.origin ∧ g.tag = h.tag)

/-- One thing that a step can do to the vault. -/
inductive Vault.Move : Vault → Vault → Prop where
  /-- R18, R19, R23: a bank that passes becomes active. -/
  | adopt (v : Vault) (b : Bank) (h : b.valid = true) : Move v { v with active := b }
  /-- R22: a write is requested. -/
  | request (v : Vault) (i : ImageId) : Move v (v.request i)
  /-- R22: a write completes, and the next begins. -/
  | written (v : Vault) (w : ImageWrite) (h : v.inFlight = some w) : Move v (v.finish w).startNext
  /-- R95: the lever hold is placed or removed. -/
  | lever (v : Vault) (x : Option Hold) (h : ∀ y, x = some y → y.origin = .lever) : Move v { v with lever := x }
  /-- R91 to R93, R97: a hold is placed or removed. -/
  | slot (v : Vault) (k : Nat) (x : Option Hold) (h : slotsOk v.slots → fitsBeside v.slots k x) :
      Move v { v with slots := v.slots.setIfInBounds k x }
  /-- R21, R187: a supply lost or applied: an active bank that passes, an empty queue, an empty table. -/
  | cold (v : Vault) (b : Bank) (h : b.valid = true) :
      Move v { v with active := b, inFlight := none, waiting := [], lever := none, slots := Vector.replicate 7 none }
  /-- R97: the hold table restored from its image. -/
  | restore (v : Vault) (x : Vector (Option Hold) 7) (h : v.nv.hold = some x) : Move v { v with slots := x }

/-- Moves one after another, or none. -/
def Vault.Leads : Vault → Vault → Prop := Relation.ReflTransGen Vault.Move

theorem Vault.Leads.refl (v : Vault) : v.Leads v := Relation.ReflTransGen.refl

theorem Vault.Leads.trans {u v w : Vault} (h : u.Leads v) (k : v.Leads w) : u.Leads w := Relation.ReflTransGen.trans h k

theorem Vault.Leads.of_eq {v w : Vault} (h : w = v) : v.Leads w := h ▸ .refl v

theorem Vault.Leads.of_move {v w : Vault} (h : v.Move w) : v.Leads w := Relation.ReflTransGen.single h

/-! ## The operations that leave the vault as it stands -/

theorem vault_congr {s t : State} (hs : t.store = s.store) (hl : t.holds.lever = s.holds.lever)
    (hk : t.holds.slots = s.holds.slots) : t.vault = s.vault := by
  simp only [State.vault, hs, hl, hk]

@[simp] theorem raise_vault (k : EventKind) (b : List Byte) (s : State) : (raise k b s).vault = s.vault := rfl
@[simp] theorem complete_vault (r : CmdRef) (a : Answer) (s : State) : (complete r a s).vault = s.vault := rfl
@[simp] theorem completeTwo_vault (r : CmdRef) (x y : List Byte) (s : State) :
    (completeTwo r x y s).vault = s.vault := rfl
@[simp] theorem completeFrames_vault (r : CmdRef) (l : List (List Byte)) (s : State) :
    (completeFrames r l s).vault = s.vault := rfl
@[simp] theorem frameReported_vault (r : CmdRef) (s : State) : (frameReported r s).vault = s.vault := rfl
@[simp] theorem answerAlone_vault (p : PortId) (n : Half) (c : Byte) (a : Answer) (s : State) :
    (answerAlone p n c a s).vault = s.vault := rfl
@[simp] theorem abortTest_vault (c : TestCause) (s : State) : (abortTest c s).vault = s.vault := rfl
@[simp] theorem withSeq_vault (s : State) (q : Sequence) : (s.withSeq q).vault = s.vault := rfl
@[simp] theorem spend_vault (n : Nat) (s : State) : (s.spend n).vault = s.vault := rfl
@[simp] theorem askAlarm_vault (s : State) : s.askAlarm.vault = s.vault := rfl
@[simp] theorem withoutClose_vault (s : State) : s.withoutClose.vault = s.vault := rfl
@[simp] theorem withdrawWarning_vault (s : State) : s.withdrawWarning.vault = s.vault := rfl
@[simp] theorem idleCtx_vault (s : State) (p : PortId) : (s.idleCtx p).vault = s.vault := rfl
@[simp] theorem withPole_vault (s : State) (p : Pole) (r : PoleRecord) : (s.withPole p r).vault = s.vault := rfl
@[simp] theorem countAccepted_vault (s : State) (p : RunPort) : (s.countAccepted p).vault = s.vault := rfl
@[simp] theorem countDiscarded_vault (s : State) (p : RunPort) : (s.countDiscarded p).vault = s.vault := rfl

/-! An operation marked with the blocks it changes leaves the vault alone where the hold table under it stays. -/

theorem onlyClose_vault {s t : State} (h : t.vault = s.vault) : (s.onlyClose t).vault = s.vault := by
  simp only [State.vault, Vault.mk.injEq] at h ⊢
  exact ⟨rfl, rfl, rfl, rfl, h.2.2.2.2⟩

theorem onlySequence_vault {s t : State} (h : t.vault = s.vault) : (s.onlySequence t).vault = s.vault :=
  onlyClose_vault h

theorem onlyPoles_vault {s t : State} (h : t.vault = s.vault) : (s.onlyPoles t).vault = s.vault :=
  onlyClose_vault h

theorem onlyNotice_vault {s t : State} (h : t.vault = s.vault) : (s.onlyNotice t).vault = s.vault :=
  onlyClose_vault h

/-! ## The operator close record -/

@[simp] theorem cancelWarning_vault (x : Reason) (s : State) : (cancelWarning x s).vault = s.vault := by
  refine onlyClose_vault ?_
  split
  · split <;> rfl
  · rfl

@[simp] theorem closeRefused_vault (x : Reason) (r : CloseRecord) (s : State) :
    (closeRefused x r s).vault = s.vault := rfl

@[simp] theorem closeEnds_vault (o : CloseOutcome) (x : PerPole (Option OpOutcome)) (s : State) :
    (closeEnds o x s).vault = s.vault := by
  refine onlyClose_vault ?_
  split <;> rfl

@[simp] theorem consultClose_vault (k : Nat) (h : Hold) (s : State) : (consultClose k h s).vault = s.vault := by
  refine onlyClose_vault ?_
  split
  · split
    · split <;> simp
    · rfl
  · rfl

@[simp] theorem tripNotice_vault (s : State) : (tripNotice s).vault = s.vault := onlyNotice_vault (by simp)

/-! ## The Pole Drive -/

@[simp] theorem endOperation_vault (p : Pole) (c : Bool) (v : Verdict) (s : State) :
    (endOperation p c v s).vault = s.vault := by
  refine onlyPoles_vault ?_
  split <;> rfl

@[simp] theorem orderTrip_vault (p : Pole) (s : State) : (orderTrip p s).1.vault = s.vault := by
  simp [orderTrip]

@[simp] theorem orderTrips_vault (m : PoleMask) (s : State) : (orderTrips m s).1.vault = s.vault := by
  have one : ∀ (acc : State × List Completion) (p : Pole),
      (if m.get p then ((orderTrip p acc.1).1, acc.2 ++ (orderTrip p acc.1).2) else acc).1.vault = acc.1.vault := by
    intro acc p
    split <;> simp
  exact ((one _ .c).trans (one _ .b)).trans (one _ .a)

@[simp] theorem takePosition_vault (p : Pole) (x : Position) (s : State) : (takePosition p x s).1.vault = s.vault := by
  simp only [takePosition]
  split
  · dsimp only
    split <;> rfl
  · simp

@[simp] theorem missedAttempt_vault (p : Pole) (s : State) : (missedAttempt p s).1.vault = s.vault := by
  simp only [missedAttempt]
  split <;> simp

@[simp] theorem tripPulseEnds_vault (p : Pole) (s : State) : (tripPulseEnds p s).1.vault = s.vault := by
  simp only [tripPulseEnds]
  split
  · rfl
  · split
    · simp
    · split <;> simp

@[simp] theorem tripWindowExpires_vault (p : Pole) (s : State) : (tripWindowExpires p s).1.vault = s.vault := by
  simp only [tripWindowExpires]
  split <;> simp

@[simp] theorem gapEnds_vault (p : Pole) (s : State) : (gapEnds p s).vault = s.vault := by
  simp only [gapEnds]
  split <;> rfl

@[simp] theorem closePulseEnds_vault (p : Pole) (s : State) : (closePulseEnds p s).1.vault = s.vault := by
  simp only [closePulseEnds]
  split
  · rfl
  · split
    · simp
    · split <;> simp

@[simp] theorem closeWindowExpires_vault (p : Pole) (s : State) : (closeWindowExpires p s).1.vault = s.vault := by
  simp only [closeWindowExpires]
  split <;> simp

@[simp] theorem beginCloses_vault (m : PoleMask) (s : State) : (beginCloses m s).vault = s.vault := rfl

@[simp] theorem closeRequest_vault (m : PoleMask) (s : State) : (closeRequest m s).1.vault = s.vault := by
  unfold closeRequest
  dsimp only
  split <;> simp

@[simp] theorem poleTakesReading_vault (x : Nat) (s : State) : (poleTakesReading x s).vault = s.vault := by
  simp only [poleTakesReading]
  split
  · rfl
  · split <;> rfl

/-! ## The Sequence Controller -/

@[simp] theorem enterLockout_vault (c : LockoutCause) (o : FaultOutcome) (s : State) :
    (enterLockout c o s).vault = s.vault := rfl

@[simp] theorem handCloseOutcome_vault (o : CloseOutcome) (s : State) : (handCloseOutcome o s).vault = s.vault := by
  unfold handCloseOutcome
  split
  · split <;> simp
  · rfl

@[simp] theorem enterDeadTime_vault (s : State) : (enterDeadTime s).vault = s.vault := rfl

@[simp] theorem raiseTrip_vault (m : PoleMask) (n : Nat) (r : Half) (e : ElementSet) (c : Option Nat) (s : State) :
    (raiseTrip m n r e c s).vault = s.vault := by
  cases c <;> rfl

@[simp] theorem reportTrip_vault (s : State) : (reportTrip s).vault = s.vault := by
  unfold reportTrip
  split
  · rfl
  · simp

@[simp] theorem trippingEnds_vault (s : State) : (trippingEnds s).1.vault = s.vault := by
  unfold trippingEnds
  dsimp only
  split
  · simp
  · split <;> simp

@[simp] theorem operatorTripEnds_vault (t : OperatorTrip) (s : State) : (operatorTripEnds t s).vault = s.vault := by
  unfold operatorTripEnds
  dsimp only
  split <;> split <;> rfl

@[simp] theorem operatorTripsEnd_vault (l : List OperatorTrip) (s : State) :
    (operatorTripsEnd l s).vault = s.vault := by
  induction l generalizing s with
  | nil => rfl
  | cons t rest ih => exact (ih _).trans (operatorTripEnds_vault t s)

@[simp] theorem operatorTripsTake_vault (p : Pole) (o : OpOutcome) (s : State) :
    (operatorTripsTake p o s).vault = s.vault := by
  simp [operatorTripsTake]

@[simp] theorem raiseMaxima_vault (s : State) : (raiseMaxima s).vault = s.vault := by
  unfold raiseMaxima
  split <;> rfl

@[simp] theorem tripCompleted_vault (p : Pole) (o : OpOutcome) (s : State) : (tripCompleted p o s).vault = s.vault := by
  unfold tripCompleted
  dsimp only
  split
  · rfl
  · split
    · exact raiseMaxima_vault _
    · rfl

@[simp] theorem lockoutTripDone_vault (s : State) : (lockoutTripDone s).vault = s.vault := by
  unfold lockoutTripDone
  dsimp only
  split <;> rfl

@[simp] theorem endIfSettled_vault (s : State) : (endIfSettled s).1.vault = s.vault := by
  unfold endIfSettled
  split <;> simp

@[simp] theorem closingEnds_vault (s : State) : (closingEnds s).vault = s.vault := by
  unfold closingEnds
  split <;> simp

@[simp] theorem takeCompletion_vault (c : Completion) (s : State) : (takeCompletion c s).1.vault = s.vault := by
  unfold takeCompletion
  split
  · unfold takeCloseCompletion
    split
    · rfl
    · dsimp only
      split
      · split <;> simp
      · simp
  · simp [takeTripCompletion]

@[simp] theorem settle_vault (n : Nat) (l : List Completion) (s : State) : (settle n l s).vault = s.vault := by
  induction n generalizing l s with
  | zero => rfl
  | succ n ih =>
    cases l with
    | nil => rfl
    | cons c rest => exact (ih _ _).trans (takeCompletion_vault c s)

@[simp] theorem settled_vault (x : State × List Completion) : (settled x).vault = x.1.vault := settle_vault _ _ _

/-- R78: a step of the Pole Drive leaves the vault alone where the Pole Drive's own part does. -/
theorem poleEvent_vault {f : State → State × List Completion} {s : State} (h : (f s).1.vault = s.vault) :
    (poleEvent f s).vault = s.vault :=
  onlySequence_vault ((settled_vault _).trans h)

@[simp] theorem orderFault_vault (m : PoleMask) (s : State) : (orderFault m s).1.vault = s.vault := by
  simp [orderFault]

@[simp] theorem beginShot_vault (n : Nat) (e : ElementSet) (c : Option EndCause) (s : State) :
    (beginShot n e c s).1.vault = s.vault := by
  simp [beginShot]

@[simp] theorem startRecord_vault (n : Nat) (e : ElementSet) (s : State) : (startRecord n e s).vault = s.vault := rfl

@[simp] theorem recordSignal_vault (e : ElementSet) (s : State) : (recordSignal e s).vault = s.vault := by
  simp [recordSignal]

@[simp] theorem joinElements_vault (e : ElementSet) (s : State) : (joinElements e s).vault = s.vault := rfl

@[simp] theorem takeSignal_vault (e : ElementSet) (s : State) : (takeSignal e s).1.vault = s.vault := by
  unfold takeSignal
  cases s.seq.state with
  | reset => simp [signalInReset]
  | tripping => simp [signalInTripping]
  | deadTime => simp [signalInDeadTime]
  | closing => simp only [signalInClosing]; split <;> simp
  | reclaim => exact (beginShot_vault _ _ _ _).trans (by split <;> simp)
  | lockout => simp [signalInLockout]

@[simp] theorem operationSignal_vault (e : ElementSet) (s : State) : (operationSignal e s).vault = s.vault :=
  onlySequence_vault (by simp)

@[simp] theorem operatorTrip_vault (c : Option CmdRef) (o : Option PortId) (m : PoleMask) (s : State) :
    (operatorTrip c o m s).vault = s.vault :=
  onlySequence_vault (by simp)

@[simp] theorem closeAdmitted_vault (m : PoleMask) (s : State) : (closeAdmitted m s).vault = s.vault := rfl

@[simp] theorem sequenceTakesHold_vault (k : Nat) (m : PoleMask) (s : State) :
    (sequenceTakesHold k m s).vault = s.vault := by
  unfold sequenceTakesHold
  split
  · rfl
  · split <;> rfl
  · rfl

@[simp] theorem sequenceTakesLevel_vault (s : State) : (sequenceTakesLevel s).vault = s.vault := by
  unfold sequenceTakesLevel
  split <;> rfl

@[simp] theorem deadTimeEnds_vault (s : State) : (deadTimeEnds s).vault = s.vault := by
  refine onlySequence_vault ?_
  dsimp only
  split <;> simp

@[simp] theorem reclaimEnds_vault (s : State) : (reclaimEnds s).vault = s.vault := rfl

@[simp] theorem decideIfDiscovered_vault (s : State) : (decideIfDiscovered s).vault = s.vault := by
  unfold decideIfDiscovered
  split
  · unfold startDecision
    dsimp only
    split
    · rfl
    · split <;> rfl
  · rfl

/-! ## The operator close -/

@[simp] theorem warningEnds_vault (s : State) : (warningEnds s).vault = s.vault := by
  refine onlySequence_vault ?_
  split
  · rename_i r _
    split
    · have asked : ∀ x : CloseRecord,
          (closeRequest r.mask { s with holds := { s.holds with close := some x } }).1.vault = s.vault :=
        fun x => (closeRequest_vault r.mask { s with holds := { s.holds with close := some x } }).trans rfl
      dsimp only
      split
      · exact (closeRefused_vault _ _ _).trans (asked _)
      · exact (closeAdmitted_vault _ _).trans (asked _)
    · rfl
  · rfl

@[simp] theorem closeTaken_vault (r : CmdRef) (n : Half) (m : PoleMask) (s : State) :
    (closeTaken r n m s).vault = s.vault := by
  unfold closeTaken
  dsimp only
  split
  · exact (warningEnds_vault _).trans rfl
  · rfl

/-! ## Reports and ends of transmission -/

@[simp] theorem selectionPass_vault (s : State) : (selectionPass s).vault = s.vault := by
  unfold selectionPass
  split
  · rfl
  · split <;> rfl

@[simp] theorem selectionIfOpen_vault (s : State) : (selectionIfOpen s).vault = s.vault := by
  unfold selectionIfOpen
  split
  · exact selectionPass_vault s
  · rfl

@[simp] theorem reportAcked_vault (n : Half) (s : State) : (reportAcked n s).vault = s.vault := by
  unfold reportAcked
  split <;> rfl

@[simp] theorem frameEnded_vault (x : FrameTag) (s : State) : (frameEnded x s).vault = s.vault := by
  unfold frameEnded
  split
  · rfl
  · rfl
  · unfold reportTransmitted
    split
    · split <;> rfl
    · rfl
  · rfl
  · rfl

@[simp] theorem radioTxEnds_vault (s : State) : (radioTxEnds s).vault = s.vault := by
  unfold radioTxEnds
  split
  · exact frameEnded_vault _ _
  · rfl

@[simp] theorem crewTxEnds_vault (s : State) : (crewTxEnds s).vault = s.vault := by
  unfold crewTxEnds
  split
  · exact frameEnded_vault _ _
  · rfl

/-! ## The Line Unit -/

@[simp] theorem raiseLineEvent_vault (i : MaskInput) (x : Bool) (s : State) :
    (raiseLineEvent i x s).vault = s.vault := by
  unfold raiseLineEvent
  split <;> rfl

@[simp] theorem lineEffect_vault (i : MaskInput) (x : Bool) (s : State) : (lineEffect i x s).vault = s.vault := by
  unfold lineEffect
  split
  · exact raiseLineEvent_vault _ _ _
  · exact raiseLineEvent_vault _ _ _

@[simp] theorem lineTakes_vault (i : MaskInput) (x : Accepted) (s : State) : (lineTakes i x s).vault = s.vault := by
  unfold lineTakes
  split <;> simp

@[simp] theorem setMask_vault (i : MaskInput) (on : Bool) (s : State) : (setMask i on s).vault = s.vault := by
  unfold setMask
  dsimp only
  split
  · exact lineEffect_vault _ _ _
  · rfl

@[simp] theorem setMasks_vault (m : PerMask Bool) (s : State) : (setMasks m s).vault = s.vault := by
  simp [setMasks]

@[simp] theorem takeContacts_vault (p : Pole) (s : State) : (takeContacts p s).vault = s.vault := by
  unfold takeContacts
  dsimp only
  split
  · rfl
  · exact (decideIfDiscovered_vault _).trans (poleEvent_vault (takePosition_vault _ _ _))

@[simp] theorem takeManualTrip_vault (x : Accepted) (s : State) : (takeManualTrip x s).vault = s.vault := by
  unfold takeManualTrip
  dsimp only
  split
  · exact (lineTakes_vault _ _ _).trans (operatorTrip_vault _ _ _ _)
  · exact lineTakes_vault _ _ _

@[simp] theorem takeDoor_vault (x : Accepted) (s : State) : (takeDoor x s).vault = s.vault := lineTakes_vault _ _ _

@[simp] theorem takeAcPresent_vault (x : Accepted) (s : State) : (takeAcPresent x s).vault = s.vault :=
  lineTakes_vault _ _ _

@[simp] theorem takeRadioReady_vault (x : Accepted) (s : State) : (takeRadioReady x s).vault = s.vault :=
  lineTakes_vault _ _ _

@[simp] theorem commandTakesCrew_vault (x : Bool) (s : State) : (commandTakesCrew x s).vault = s.vault := by
  have close : ∀ t : State, (detachClose t).vault = t.vault := by
    intro t
    unfold detachClose
    split
    · split <;> rfl
    · rfl
  unfold commandTakesCrew
  dsimp only
  split
  · rfl
  · unfold detachCommand
    split
    · rfl
    · split
      · rfl
      · rfl
      · exact close _
      · rfl
      · rfl
      · rfl

@[simp] theorem reportDropped_vault (l : List OutFrame) (s : State) : (reportDropped l s).vault = s.vault := by
  induction l generalizing s with
  | nil => rfl
  | cons f rest ih => exact (ih _).trans (frameEnded_vault _ _)

@[simp] theorem portTakesCrew_vault (x : Bool) (s : State) : (portTakesCrew x s).vault = s.vault := by
  unfold portTakesCrew
  split
  · rfl
  · exact reportDropped_vault _ _

@[simp] theorem takeCrewPresent_vault (x : Accepted) (s : State) : (takeCrewPresent x s).vault = s.vault := by
  have told := (portTakesCrew_vault x.level (commandTakesCrew x.level s)).trans (commandTakesCrew_vault _ _)
  exact (lineTakes_vault _ _ _).trans told

/-! ## Measurement, readings and the load test -/

@[simp] theorem levelStep_vault (s : State) : (levelStep s).vault = s.vault := by
  unfold levelStep levelChanges
  dsimp only
  split
  · rfl
  · have told : ∀ b : Battery, (selectionIfOpen (sequenceTakesLevel { s with batt := b })).vault = s.vault :=
      fun b => (selectionIfOpen_vault _).trans (sequenceTakesLevel_vault _)
    split
    · exact told _
    · exact told _

@[simp] theorem readingTaken_vault (v c : Int) (x : Half) (t : Int) (s : State) :
    (readingTaken v c x t s).vault = s.vault := by
  unfold readingTaken
  dsimp only
  rw [poleTakesReading_vault]
  split
  · rfl
  · exact levelStep_vault _

@[simp] theorem dueTimeReached_vault (s : State) : (dueTimeReached s).vault = s.vault := by
  rw [dueTimeReached_keeps]
  rfl

@[simp] theorem retryWaitEnds_vault (s : State) : (retryWaitEnds s).vault = s.vault := by
  unfold retryWaitEnds
  rw [testDue_keeps]
  rfl

@[simp] theorem assertShutdown_vault (s : State) : (assertShutdown s).vault = s.vault := by
  unfold assertShutdown
  split <;> rfl

@[simp] theorem measureTaken_vault (n : Half) (c : PerChannel Sample) (v : PerPole Sample) (s : State) :
    (measureTaken n c v s).vault = s.vault := by
  have pickup : ∀ (r : FrameResult) (t : State), (handPickup n r t).vault = t.vault := by
    intro r t
    unfold handPickup
    dsimp only
    split
    · split <;> rfl
    · rfl
  have exception : ∀ (r : FrameResult) (t : State), (handException r t).vault = t.vault := by
    intro r t
    unfold handException
    split
    · split <;> rfl
    · rfl
  have signal : ∀ (r : FrameResult) (t : State), (handSignal r t).vault = t.vault := by
    intro r t
    unfold handSignal
    split
    · rfl
    · exact operationSignal_vault _ _
  have linked : (keepNumber n (restoreLink n s)).vault = s.vault := by
    unfold keepNumber restoreLink
    dsimp only
    split <;> rfl
  unfold measureTaken
  rw [signal, exception, pickup]
  exact linked

@[simp] theorem relayTaken_vault (p : PortId) (n : Half) (l : List Byte) (s : State) :
    (relayTaken p n l s).vault = s.vault := by
  unfold relayTaken
  split
  · rfl
  · split
    · rfl
    · split
      · rfl
      · split <;> rfl

end Sys2Proof.Machine
end

section
/-! PROOFS. Validation (R10) and the default bank (R11). -/

namespace Sys2Proof.Machine

/-! ## The scan (R10) -/

/-- R10: a bank passes when every row of the scan does. -/
theorem validate_none_iff (b : Bank) : validate b = none ↔ ∀ row ∈ fieldRows, passesAt b row = true := by
  simp [validate]

/-- R10: validation answers the first row of the scan that does not pass. -/
theorem validate_some_iff (b : Bank) (t r f : Nat) :
    validate b = some (t, r, f) ↔
      ∃ before row after, fieldRows = before ++ row :: after ∧ (∀ x ∈ before, passesAt b x = true) ∧
        passesAt b row = false ∧ row.table = t ∧ row.record = r ∧ row.field = f := by
  unfold validate
  rw [Option.map_eq_some_iff]
  constructor
  · rintro ⟨row, hfind, hrow⟩
    obtain ⟨hp, before, after, hsplit, hbefore⟩ := List.find?_eq_some_iff_append.mp hfind
    obtain ⟨ht, hr, hf⟩ : row.table = t ∧ row.record = r ∧ row.field = f := by simpa using hrow
    exact ⟨before, row, after, hsplit, fun x hx => by simpa using hbefore x hx, by simpa using hp, ht, hr, hf⟩
  · rintro ⟨before, row, after, hsplit, hbefore, hp, rfl, rfl, rfl⟩
    refine ⟨row, List.find?_eq_some_iff_append.mpr ⟨by simpa using hp, before, after, hsplit, fun x hx => ?_⟩, rfl⟩
    simpa using hbefore x hx

/-- R1: the scan's rows name tables, records and fields of one byte. -/
theorem fieldRows_small :
    (fieldRows.all fun row => decide (row.table < 256 ∧ row.record < 256 ∧ row.field < 256)) = true := by
  decide +kernel

/-- R18: the names of the first failing field each fit one byte. -/
theorem validate_some_small {b : Bank} {t r f : Nat} (h : validate b = some (t, r, f)) :
    t < 256 ∧ r < 256 ∧ f < 256 := by
  obtain ⟨before, row, after, hsplit, -, -, rfl, rfl, rfl⟩ := (validate_some_iff b t r f).mp h
  have hmem : row ∈ fieldRows := by simp [hsplit]
  simpa using List.all_eq_true.mp fieldRows_small row hmem

/-! ## One row of the scan -/

/-- R1: a row's value lies in its range. -/
theorem inRange_iff (b : Bank) (row : FieldRow) :
    inRange b row = true ↔
      row.low ≤ (if row.signed then (b.field row.table row.record row.field).toInt
        else (b.nat row.table row.record row.field : Int)) ∧
      (if row.signed then (b.field row.table row.record row.field).toInt
        else (b.nat row.table row.record row.field : Int)) ≤ row.high := by
  simp only [inRange, Bool.and_eq_true, decide_eq_true_eq]
  rfl

/-- R10: the scan passes over the points above the point count and the shot records above the shot count. -/
theorem scanned_false_iff (b : Bank) (row : FieldRow) :
    scanned b row = false ↔
      (row.table = 0 ∧ b.nat row.table row.record 1 < (if 3 ≤ row.field ∧ row.field ≤ 14 then row.field - 2
        else if 15 ≤ row.field ∧ row.field ≤ 26 then row.field - 14 else 0)) ∨
      (row.table = 2 ∧ b.nat 2 0 1 < row.record) := by
  obtain ⟨t, r, f, _, _, _, _⟩ := row
  unfold scanned pointOf
  dsimp only
  split
  · by_cases h1 : 3 ≤ f ∧ f ≤ 14
    · simp only [if_pos h1, decide_eq_false_iff_not, true_and]
      omega
    · by_cases h2 : 15 ≤ f ∧ f ≤ 26
      · simp only [if_neg h1, if_pos h2, decide_eq_false_iff_not, true_and]
        omega
      · simp [if_neg h1, if_neg h2]
  · simp
  · rename_i h0 h2
    have n0 : t ≠ 0 := h0
    have n2 : t ≠ 2 := h2
    simp [n0, n2]

/-- R2, R5, R6: the relations listed against a row. -/
theorem relationsHold_iff (b : Bank) (row : FieldRow) :
    relationsHold b row = true ↔
      (row.table = 0 → 4 ≤ row.field → row.field ≤ 14 →
        b.nat row.table row.record (row.field - 1) < b.nat row.table row.record row.field) ∧
      (row.table = 0 → 16 ≤ row.field → row.field ≤ 26 →
        b.nat row.table row.record row.field ≤ b.nat row.table row.record (row.field - 1)) ∧
      (row.table = 3 →
        (row.field = 3 → b.nat 3 0 1 ≤ b.nat 3 0 3) ∧ (row.field = 4 → b.nat 3 0 2 ≤ b.nat 3 0 4) ∧
        (row.field = 8 → b.nat 3 0 7 + 100 ≤ b.nat 3 0 8) ∧ (row.field = 9 → b.nat 3 0 8 + 50 ≤ b.nat 3 0 9)) ∧
      (row.table = 4 →
        (row.field = 3 → b.nat 4 0 3 < b.nat 4 0 2) ∧ (row.field = 4 → b.nat 4 0 4 < b.nat 4 0 3) ∧
        (row.field = 7 → b.nat 4 0 2 < b.nat 4 0 7) ∧
        (row.field = 9 → (b.field 4 0 8).toInt < (b.field 4 0 9).toInt) ∧
        (row.field = 11 → b.nat 4 0 11 < b.nat 4 0 10) ∧ (row.field = 12 → b.nat 4 0 12 < b.nat 4 0 11) ∧
        (row.field = 13 → b.nat 4 0 11 + b.nat 4 0 13 ≤ b.nat 4 0 10 ∧ b.nat 4 0 10 + b.nat 4 0 13 < b.nat 4 0 3) ∧
        (row.field = 16 → b.nat 4 0 10 ≤ b.nat 4 0 16) ∧ (row.field = 18 → b.nat 4 0 17 < b.nat 4 0 18)) := by
  obtain ⟨t, r, f, _, _, _, _⟩ := row
  unfold relationsHold
  dsimp only
  split
  · -- CURVE: multiples rise, times do not
    by_cases h1 : 4 ≤ f ∧ f ≤ 14
    · have h2 : ¬ 16 ≤ f := by omega
      simp [h1, h2]
    · by_cases h2 : 16 ≤ f ∧ f ≤ 26
      · have h3 : ¬ f ≤ 14 := by omega
        simp [h2, h3]
      · rw [if_neg h1, if_neg h2]
        simp only [not_and] at h1 h2
        simp_all
  · -- POLE
    split <;> simp_all
  · -- BATTERY
    split <;> simp_all
    exact Iff.rfl
  · rename_i h0 h3 h4
    have n0 : t ≠ 0 := h0
    have n3 : t ≠ 3 := h3
    have n4 : t ≠ 4 := h4
    simp [n0, n3, n4]

/-! ## The default bank (R11) -/

/-- R11: the default bank passes at every row. -/
theorem defaultBank_passes : (fieldRows.all fun row => passesAt defaultBank row) = true := by decide +kernel

theorem validate_defaultBank : validate defaultBank = none :=
  (validate_none_iff _).mpr (List.all_eq_true.mp defaultBank_passes)

/-- R11: the default bank holds each row's default. -/
theorem defaultBank_field : ∀ row ∈ fieldRows,
    defaultBank.field row.table row.record row.field = BitVec.ofInt 32 row.default := by
  have h : (fieldRows.all fun row =>
      decide (defaultBank.field row.table row.record row.field = BitVec.ofInt 32 row.default)) = true := by
    decide +kernel
  intro row hrow
  exact of_decide_eq_true (List.all_eq_true.mp h row hrow)

/-- Settles O7: the scan as a first failure, each row's test taken apart, and the default bank row by row. -/
theorem validationFindsFirstFailure : Obligations.ValidationFindsFirstFailure := by
  refine ⟨fun b => ⟨validate_none_iff b, validate_some_iff b⟩, fun b row => ?_, validate_defaultBank,
    defaultBank_field⟩
  have parts : passesAt b row = true ↔
      scanned b row = false ∨ (inRange b row = true ∧ relationsHold b row = true) := by
    simp [passesAt]
  rw [parts, scanned_false_iff, inRange_iff, relationsHold_iff, and_assoc]

end Sys2Proof.Machine
end

section
/-! PROOFS. Every command moves the vault by the moves of `Vault.Move` alone; every move keeps R12, R21, R22 and R89. -/

namespace Sys2Proof.Machine

/-! ## The operations that move the vault -/

@[simp] theorem requestWrite_vault (i : ImageId) (s : State) : (requestWrite i s).vault = s.vault.request i := by
  unfold requestWrite Vault.request
  change _ = if s.store.inFlight.isNone then s.vault.start i else if i ∈ s.store.waiting then s.vault else _
  split
  · cases i <;> rfl
  · split <;> rfl

@[simp] theorem addWaiter_vault (c : Option CmdRef) (k : Nat) (s : State) : (addWaiter c k s).vault = s.vault := by
  cases c <;> rfl

/-- R93 step 6: a write requested moves the vault by that request; the lever hold's change requests none. -/
theorem writeHolds_leads (c : Option CmdRef) (k : Nat) (s : State) : s.vault.Leads (writeHolds c k s).vault := by
  unfold writeHolds
  split
  · exact .refl _
  · rw [requestWrite_vault, addWaiter_vault]
    exact .of_move (.request _ _)

/-- R93: a placement moves the vault by the slot it changes and the write it requests. -/
theorem placeHold_leads (c : Option CmdRef) (k : Nat) (h : Hold) {s : State} {v : Vault}
    (hv : v.Leads (s.withSlot k (some h)).vault) : v.Leads (placeHold c k h s).vault := by
  refine hv.trans ?_
  have placed : ∀ t : State, (sequenceTakesHold k h.scope (consultClose k h t)).askAlarm.vault = t.vault := by
    intro t
    simp
  unfold placeHold
  dsimp only
  exact (placed (raise .holdSet (holdBody k h) (s.withSlot k (some h)))) ▸ writeHolds_leads c k _

/-- R93: a removal moves the vault by the slot it empties and the write it requests. -/
theorem removeHold_leads (c : Option CmdRef) (k : Nat) (h : Hold) {s : State} {v : Vault}
    (hv : v.Leads (s.withSlot k none).vault) : v.Leads (removeHold c k h s).vault :=
  hv.trans (writeHolds_leads c k (raise .holdCleared (holdBody k h) (s.withSlot k none)).askAlarm)

/-- R95: the lever's change moves the lever hold alone. -/
theorem holdUnitTakesLever_leads (x : Bool) (s : State) : s.vault.Leads (holdUnitTakesLever x s).vault := by
  unfold holdUnitTakesLever
  dsimp only
  split
  · refine placeHold_leads _ _ _ (.of_move (.lever s.vault (some (leverHold s.time.timeTag)) ?_))
    rintro y ⟨⟩
    rfl
  · split
    · refine removeHold_leads _ _ _ (.of_move (.lever s.vault none ?_))
      rintro y ⟨⟩
    · exact .refl _

theorem takeLever_leads (x : Accepted) (s : State) : s.vault.Leads (takeLever x s).vault := by
  unfold takeLever
  rw [lineTakes_vault]
  exact holdUnitTakesLever_leads _ _

theorem onChange_leads {take : Accepted → State → State} (h : ∀ x (t : State), t.vault.Leads (take x t).vault)
    (x : Option Accepted) (s : State) : s.vault.Leads (onChange take x s).vault := by
  cases x with
  | none => exact .refl _
  | some y => exact h y s

theorem onChange_vault {take : Accepted → State → State} (h : ∀ x (t : State), (take x t).vault = t.vault)
    (x : Option Accepted) (s : State) : (onChange take x s).vault = s.vault := by
  cases x with
  | none => rfl
  | some y => exact h y s

@[simp] theorem onContacts_vault (p : Pole) (c : Contacts (Option Accepted)) (s : State) :
    (onContacts p c s).vault = s.vault := by
  unfold onContacts
  split
  · exact takeContacts_vault p s
  · rfl

/-- R182: of the accepted changes of a sample the lever's alone moves the vault. -/
theorem handOn_leads (c : Changes) (s : State) : s.vault.Leads (handOn c s).vault := by
  unfold handOn
  dsimp only
  rw [onChange_vault takeRadioReady_vault, onChange_vault takeCrewPresent_vault, onChange_vault takeAcPresent_vault,
    onChange_vault takeDoor_vault, onChange_vault takeManualTrip_vault]
  have contacts : (onContacts .c c.aux.c (onContacts .b c.aux.b (onContacts .a c.aux.a s))).vault = s.vault := by simp
  exact contacts ▸ onChange_leads takeLever_leads _ _

/-- A change row of a cabinet input moves the vault as its receiver does. -/
theorem changeCabinet_leads (i : MaskInput) {take : Accepted → State → State} (level : Bool) (s : State)
    (h : ∀ x (t : State), t.vault.Leads (take x t).vault) : s.vault.Leads (changeCabinet i take level s).vault := by
  refine .trans (.of_eq ?_) (onChange_leads h _ _)
  rfl

theorem changeContacts_vault (p : Pole) (x : Contacts (Option Bool)) (s : State) :
    (changeContacts p x s).vault = s.vault := by
  unfold changeContacts
  exact onContacts_vault _ _ _

/-! ## Placing and removing a hold (R91 to R93) -/

/-- R91: a hold found stands in one of the slots 1 to 7. -/
theorem HoldUnit.find_some {h : HoldUnit} {o : HoldOrigin} {tag : Half} {k : Nat} (hk : h.find o tag = some k) :
    ∃ (i : Nat) (x : Hold), k = i + 1 ∧ h.slots.toList[i]? = some (some x) ∧ x.origin = o ∧ x.tag = tag := by
  obtain ⟨i, hi, rfl⟩ := Option.map_eq_some_iff.mp hk
  obtain ⟨hlt, hp, -⟩ := List.findIdx?_eq_some_iff_getElem.mp hi
  obtain ⟨x, hx, hxp⟩ := (Option.any_eq_true _ _).mp hp
  simp only [Bool.and_eq_true, decide_eq_true_eq] at hxp
  exact ⟨i, x, rfl, by rw [List.getElem?_eq_getElem hlt, hx], hxp.1, hxp.2⟩

/-- R91: where no hold is found, no slot holds one of that origin and tag. -/
theorem HoldUnit.find_none {h : HoldUnit} {o : HoldOrigin} {tag : Half} (hn : h.find o tag = none) (j : Nat) (g : Hold)
    (hg : h.slots.toList[j]? = some (some g)) : ¬ (g.origin = o ∧ g.tag = tag) := by
  have hi : h.slots.toList.findIdx? _ = none := Option.map_eq_none_iff.mp hn
  have := List.findIdx?_eq_none_iff.mp hi _ (List.mem_of_getElem? hg)
  simpa using this

/-- R91: the place given to a hold is one of the slots 1 to 7, beside whose others it stands. -/
theorem holdPlace_fits {h : HoldUnit} {o : HoldOrigin} {tag : Half} {now set : Word} {k : Nat} (x : Hold)
    (hx : holdPlace h o tag now = some (k, set)) (ho : x.origin = o) (hl : o ≠ .lever) (ht : x.tag = tag) :
    ∃ i, k = i + 1 ∧ (slotsOk h.slots → fitsBeside h.slots i (some x)) := by
  unfold holdPlace at hx
  split at hx
  · rename_i k' hf
    obtain ⟨i, y, rfl, hy, hyo, hyt⟩ := HoldUnit.find_some hf
    cases hx
    refine ⟨i, rfl, fun ok z hz => ?_⟩
    cases hz
    refine ⟨ho ▸ hl, fun j g hj hg same => hj ?_⟩
    exact ok.2 j i g y hg hy (by rw [same.1, ho, hyo]) (by rw [same.2, ht, hyt])
  · rename_i hf
    obtain ⟨k', he, heq⟩ := Option.map_eq_some_iff.mp hx
    obtain ⟨i, -, rfl⟩ := Option.map_eq_some_iff.mp he
    cases heq
    refine ⟨i, rfl, fun _ z hz => ?_⟩
    cases hz
    exact ⟨ho ▸ hl, fun j g _ hg same => HoldUnit.find_none hf j g hg ⟨same.1.trans ho, same.2.trans ht⟩⟩

theorem fitsBeside_none (v : Vector (Option Hold) 7) (k : Nat) : fitsBeside v k none := by
  rintro h ⟨⟩

theorem holdSetTaken_leads (tag : Half) (scope profile : Byte) (r : CmdRef) (s : State) :
    s.vault.Leads (holdSetTaken tag scope profile r s).vault := by
  unfold holdSetTaken
  split
  · split
    · exact .refl _
    · split
      · rename_i m p _ _ _ _ k set hp
        have notLever : PortId.holdOrigin r.port ≠ .lever := by cases r.port <;> decide
        obtain ⟨i, rfl, fits⟩ := holdPlace_fits
          { origin := PortId.holdOrigin r.port, tag := tag, scope := m, profile := p, setTag := set } hp rfl notLever rfl
        exact placeHold_leads _ _ _ (.of_move (.slot s.vault i _ fits))
      · exact .refl _
  · exact .refl _

/-- R92: a hold that a port may remove stands in one of the slots 1 to 7. -/
theorem removable_some {h : HoldUnit} {p : PortId} {tag : Half} {k : Nat} (hk : removable h p tag = some k) :
    ∃ i, k = i + 1 := by
  have found : ∀ {o : HoldOrigin} {t : Half}, h.find o t = some k → ∃ i, k = i + 1 := by
    intro o t hf
    obtain ⟨i, -, hi, -⟩ := HoldUnit.find_some hf
    exact ⟨i, hi⟩
  unfold removable at hk
  split at hk
  · exact found hk
  · split at hk <;> exact found hk

theorem holdClearTaken_leads (tag : Half) (r : CmdRef) (s : State) :
    s.vault.Leads (holdClearTaken tag r s).vault := by
  unfold holdClearTaken
  split
  · rename_i k h hk
    obtain ⟨k', hr, hx⟩ := Option.bind_eq_some_iff.mp hk
    obtain ⟨x, -, heq⟩ := Option.map_eq_some_iff.mp hx
    cases heq
    obtain ⟨i, rfl⟩ := removable_some hr
    exact removeHold_leads _ _ _ (.of_move (.slot s.vault i none fun _ => fitsBeside_none _ _))
  · exact .refl _

/-! ## Banks (R18, R19, R23) -/

theorem Bank.valid_of_validate {b : Bank} (h : validate b = none) : b.valid = true := by simp [Bank.valid, h]

/-- R23: the bank restored passes. -/
theorem restoredBank_valid (nv : Nonvolatile) : (restoredBank nv).1.valid = true := by
  unfold restoredBank
  split
  · exact Bank.valid_of_validate validate_defaultBank
  · rename_i b _
    split
    · rename_i hb
      exact Bank.valid_of_validate hb
    · exact Bank.valid_of_validate validate_defaultBank

@[simp] theorem takeBank_vault (old : Bank) (s : State) : (takeBank old s).vault = s.vault := by
  unfold takeBank
  exact vault_congr rfl rfl rfl

@[simp] theorem raiseDefaults_vault (o : Occasion) (f : Option RestoreFailure) (s : State) :
    (raiseDefaults o f s).vault = s.vault := by
  cases f <;> rfl

/-- R18, R19: an exchange is of a shadow that passes. -/
theorem swapBar_none_valid {p : PortId} {s : State} (h : swapBar p s = none) : s.store.shadow.valid = true := by
  unfold swapBar at h
  split at h
  · cases h
  · split at h
    · cases h
    · rename_i hv
      exact Bank.valid_of_validate hv

/-- R19: the exchange adopts the shadow and requests the settings write. -/
theorem swapBanks_leads (r : CmdRef) {s : State} (h : s.store.shadow.valid = true) :
    s.vault.Leads (swapBanks r s).vault := by
  have adopted : s.vault.Leads { s.vault with active := s.store.shadow } := .of_move (.adopt _ _ h)
  refine adopted.trans ?_
  unfold swapBanks
  dsimp only
  rw [raise_vault, requestWrite_vault]
  refine .trans (.of_eq ?_) (.of_move (.request _ _))
  exact setMasks_vault _ _

@[simp] theorem touch_vault (s : State) (p : PortId) (now : Nat) :
    { s with store := s.store.touch p now }.vault = s.vault := by
  unfold SettingStore.touch
  split <;> rfl

theorem bankSwapTaken_leads (r : CmdRef) (s : State) : s.vault.Leads (bankSwapTaken r s).vault := by
  unfold bankSwapTaken
  split
  · exact .of_eq (touch_vault s r.port s.now)
  · rename_i h
    exact swapBanks_leads r (swapBar_none_valid h)

@[simp] theorem tableLoadTaken_vault (t r : Byte) (l : List FieldPair) (c : CmdRef) (s : State) :
    (tableLoadTaken t r l c s).vault = s.vault := by
  unfold tableLoadTaken
  split
  · rfl
  · split
    · rfl
    · exact touch_vault s c.port s.now

@[simp] theorem tableReadTaken_vault (b t r x y : Byte) (c : CmdRef) (s : State) :
    (tableReadTaken b t r x y c s).vault = s.vault := by
  have touched : (if b.toNat = 1 then { s with store := s.store.touch c.port s.now } else s).vault = s.vault := by
    split
    · exact touch_vault s c.port s.now
    · rfl
  unfold tableReadTaken
  dsimp only
  split <;> exact touched

@[simp] theorem bankCopyTaken_vault (c : CmdRef) (s : State) : (bankCopyTaken c s).vault = s.vault := by
  unfold bankCopyTaken
  split <;> rfl

@[simp] theorem bankReleaseTaken_vault (c : CmdRef) (s : State) : (bankReleaseTaken c s).vault = s.vault := by
  unfold bankReleaseTaken
  split <;> rfl

/-! ## Warm restart and supply (R187, R192) -/

/-- R23: the bank a warm restart loads is the active one, or one that passes. -/
theorem reloaded_leads (s : State) : s.vault.Leads { s.vault with active := s.store.reloaded.1 } := by
  unfold SettingStore.reloaded
  split
  · exact .refl _
  · exact .of_move (.adopt _ _ (restoredBank_valid _))

theorem warmRestart_leads (r : CmdRef) (s : State) : s.vault.Leads (warmRestart r s).vault := by
  have banks : ∀ t : State, t.vault.Leads (bankRestarts t).vault := by
    intro t
    unfold bankRestarts
    dsimp only
    rw [takeBank_vault, raiseDefaults_vault]
    exact reloaded_leads t
  have sequenced : ∀ t : State, (sequenceRestarts t).vault = t.vault := by
    intro t
    unfold sequenceRestarts
    dsimp only
    split
    · rfl
    · split <;> rfl
  unfold warmRestart
  dsimp only
  refine (banks (contextsRestart r s)).trans (.of_eq ?_)
  exact (sequenced _).trans (setMasks_vault _ _)

theorem restartTaken_leads (r : CmdRef) (s : State) : s.vault.Leads (restartTaken r s).vault := by
  unfold restartTaken
  split
  · exact .refl _
  · exact warmRestart_leads r s

/-- R21, R187: every block at its power-on state. -/
theorem coldState_leads (s : State) (x : Bool) : s.vault.Leads (coldState s x).vault :=
  .of_move (.cold s.vault _ (restoredBank_valid _))

/-- R97: the STORE hold stands beside what an empty table holds. -/
theorem storeHold_fits {v : Vector (Option Hold) 7} (h : ∀ (j : Nat) (g : Hold), v.toList[j]? ≠ some (some g)) :
    fitsBeside v 0 (some storeHold) := by
  rintro x ⟨⟩
  exact ⟨by decide, fun j g _ hg => absurd hg (h j g)⟩

theorem emptyTable_getElem (j : Nat) (g : Hold) :
    (Vector.replicate 7 (none : Option Hold)).toList[j]? ≠ some (some g) := by
  intro h
  have := List.mem_of_getElem? h
  simp at this

/-- R97: the table is restored from its image, or the STORE hold is placed and a write requested. -/
theorem restoreHolds_leads {s : State} (h : s.holds.slots = Vector.replicate 7 none) :
    s.vault.Leads (restoreHolds s).vault := by
  unfold restoreHolds
  split
  · rename_i x hx
    exact .of_move (.restore s.vault x hx)
  · rw [requestWrite_vault]
    refine .trans (.of_move (.slot s.vault 0 (some storeHold) fun _ => storeHold_fits ?_)) (.of_move (.request _ _))
    change ∀ (j : Nat) (g : Hold), s.holds.slots.toList[j]? ≠ some (some g)
    rw [h]
    exact emptyTable_getElem

theorem powerUp_leads (s : State) : s.vault.Leads (powerUp s).vault := by
  have defaults : ∀ f, (raiseDefaults .powerOn f (coldState s true)).holds.slots = Vector.replicate 7 none := by
    intro f
    cases f <;> rfl
  unfold powerUp
  dsimp only
  refine (coldState_leads s true).trans ?_
  rw [raise_vault]
  exact raiseDefaults_vault .powerOn _ (coldState s true) ▸ restoreHolds_leads (defaults _)

/-! ## The end of a write (R22) -/

@[simp] theorem answerHoldWaiters_vault (l : List HoldWaiter) (s : State) :
    (answerHoldWaiters l s).vault = s.vault := by
  induction l generalizing s with
  | nil => rfl
  | cons w rest ih => exact (ih _).trans (complete_vault _ _ _)

@[simp] theorem tellWritten_vault (i : ImageId) (s : State) : (tellWritten i s).vault = s.vault := by
  cases i with
  | settings =>
    change (tellSettingsWritten s).vault = _
    unfold tellSettingsWritten
    split <;> rfl
  | hold => exact answerHoldWaiters_vault _ _

@[simp] theorem startNextWrite_vault (s : State) : (startNextWrite s).vault = s.vault.startNext := by
  cases hw : s.store.waiting with
  | nil =>
    have hv : s.vault.waiting = [] := hw
    simp only [startNextWrite, Vault.startNext, hw, hv]
  | cons i rest =>
    have hv : s.vault.waiting = i :: rest := hw
    simp only [startNextWrite, Vault.startNext, hw, hv]
    cases i <;> rfl

/-- R22: the write in flight is finished and the next begins. -/
theorem writeComplete_vault {s : State} {w : ImageWrite} (hw : s.store.inFlight = some w) :
    (writeComplete s).vault = (s.vault.finish w).startNext := by
  have finished : { s with store := s.store.finishWrite w }.vault = s.vault.finish w := by cases w <;> rfl
  simp only [writeComplete, hw, startNextWrite_vault, tellWritten_vault, finished]

/-- R22: with nothing in flight nothing ends (log 31). -/
theorem writeComplete_none {s : State} (h : s.store.inFlight = none) : writeComplete s = s := by
  simp only [writeComplete, h]

theorem writeComplete_leads (s : State) : s.vault.Leads (writeComplete s).vault := by
  cases hw : s.store.inFlight with
  | none => exact .of_eq (congrArg State.vault (writeComplete_none hw))
  | some w =>
    rw [writeComplete_vault hw]
    exact .of_move (.written s.vault w hw)

end Sys2Proof.Machine
end

section
/-! PROOFS. Every command, and every step, moves the vault by the moves of `Vault.Move`; what those moves keep. -/

namespace Sys2Proof.Machine

/-! ## From the owners' work to the commands -/

/-- Every next state of an outcome is reached by moves of the vault. -/
def Vault.LeadsAlong (v : Vault) (o : Host.Outcome State Fault Refusal) : Prop := ∀ t, o = .next t → v.Leads t.vault

theorem run_leads {s : State} {f : State → State} (h : s.vault.Leads (f s).vault) : s.vault.LeadsAlong (run s f) := by
  rintro t ⟨⟩
  split
  · exact h
  · exact .refl _

theorem run_keeps {s : State} {f : State → State} (h : (f s).vault = s.vault) : s.vault.LeadsAlong (run s f) :=
  run_leads (.of_eq h)

theorem arrive_leads {p : RunPort} {n : Nat} {f : State → State} {s : State}
    (h : ∀ t : State, t.vault.Leads (f t).vault) : s.vault.Leads (arrive p n f s).vault := by
  unfold arrive
  split
  · exact .refl _
  · exact h (s.countAccepted p)

theorem arrive_vault {p : RunPort} {n : Nat} {f : State → State} {s : State}
    (h : ∀ t : State, (f t).vault = t.vault) : (arrive p n f s).vault = s.vault := by
  unfold arrive
  split
  · rfl
  · exact h (s.countAccepted p)

theorem dispatch_leads {p : PortId} {n : Half} {c : CommandCode} {owner : CmdRef → State → State} {s : State}
    (h : ∀ r (t : State), t.vault.Leads (owner r t).vault) : s.vault.Leads (dispatch p n c owner s).vault := by
  unfold dispatch
  split
  · exact .refl _
  · split
    · exact .refl _
    · exact h (takeInto p n c s).2 (takeInto p n c s).1

theorem command_leads {p : PortId} {n : Half} {c : CommandCode} {owner : CmdRef → State → State} {s : State}
    (h : ∀ r (t : State), t.vault.Leads (owner r t).vault) : s.vault.LeadsAlong (run s (command p n c owner)) :=
  run_leads (arrive_leads fun _ => dispatch_leads h)

theorem command_keeps {p : PortId} {n : Half} {c : CommandCode} {owner : CmdRef → State → State} {s : State}
    (h : ∀ r (t : State), (owner r t).vault = t.vault) : s.vault.LeadsAlong (run s (command p n c owner)) :=
  command_leads fun r t => .of_eq (h r t)

theorem onExpiry_keeps {f : State → Timer} {g : State → State} {s : State} (h : ∀ t : State, (g t).vault = t.vault) :
    s.vault.LeadsAlong (run s (onExpiry f g)) := by
  refine run_keeps ?_
  unfold onExpiry
  split
  · exact h s
  · rfl

/-! ## The owners that leave the vault alone -/

theorem tripTaken_vault (m : Byte) (r : CmdRef) (s : State) : (tripTaken m r s).vault = s.vault := by
  unfold tripTaken
  split <;> simp

theorem closeCommandTaken_vault (n : Half) (m : Byte) (r : CmdRef) (s : State) :
    (closeCommandTaken n m r s).vault = s.vault := by
  unfold closeCommandTaken
  split
  · split <;> simp
  · rfl

theorem abortTaken_vault (p : PortId) (n : Half) (s : State) : (abortTaken p n s).vault = s.vault := by
  have request : ∀ {e : Executing} {x : State × List Byte}, abortRequest e s = some x → x.1.vault = s.vault := by
    intro e x hx
    unfold abortRequest at hx
    split at hx
    · cases hx; rfl
    · cases hx; rfl
    · split at hx
      · split at hx
        · cases hx; rfl
        · cases hx
      · cases hx
    · cases hx
  unfold abortTaken
  split
  · rfl
  · split
    · rename_i he
      exact request he
    · rfl

theorem flagsTaken_vault (a : PerFlag Byte) (r : CmdRef) (s : State) : (flagsTaken a r s).vault = s.vault := by
  unfold flagsTaken
  split <;> rfl

theorem faultReadTaken_vault (m : Byte) (v : Half) (r : CmdRef) (s : State) :
    (faultReadTaken m v r s).vault = s.vault := by
  unfold faultReadTaken
  split <;> rfl

theorem batteryTestTaken_vault (n : Half) (r : CmdRef) (s : State) : (batteryTestTaken n r s).vault = s.vault := by
  unfold batteryTestTaken
  split
  · rfl
  · split <;> rfl

theorem mechResetTaken_vault (r : CmdRef) (s : State) : (mechResetTaken r s).vault = s.vault := by
  unfold mechResetTaken
  split <;> rfl

theorem inputMaskTaken_vault (a : PerMask Byte) (r : CmdRef) (s : State) : (inputMaskTaken a r s).vault = s.vault := by
  unfold inputMaskTaken
  split
  · exact setMasks_vault _ _
  · rfl

/-! ## Every command -/

theorem execMeasure_leads (n : Half) (c : PerChannel Sample) (v : PerPole Sample) (s : State) :
    s.vault.LeadsAlong (execMeasure n c v s) :=
  run_keeps (arrive_vault fun _ => measureTaken_vault n c v _)

theorem execRelayReply_leads (n : Half) (l : List Byte) (s : State) : s.vault.LeadsAlong (execRelayReply n l s) := by
  refine run_keeps ?_
  split
  · exact arrive_vault fun _ => rfl
  · rfl

theorem execRelay_leads (p : PortId) (n : Half) (l : List Byte) (s : State) : s.vault.LeadsAlong (execRelay p n l s) :=
  run_keeps (arrive_vault fun _ => relayTaken_vault p n l _)

theorem execReportAck_leads (n : Half) (s : State) : s.vault.LeadsAlong (execReportAck n s) :=
  run_keeps (arrive_vault fun _ => reportAcked_vault n _)

theorem execTableLoad_leads (p : PortId) (n : Half) (t r : Byte) (l : List FieldPair) (s : State) :
    s.vault.LeadsAlong (execTableLoad p n t r l s) := by
  refine run_leads (arrive_leads fun u => ?_)
  split
  · exact .refl _
  · exact dispatch_leads fun c v => .of_eq (tableLoadTaken_vault t r l c v)

/-- The commands that a COMMAND frame carries. -/
theorem inboundCommand_leads (i : Instr) {other : Host.Outcome State Fault Refusal} (s : State)
    (h : s.vault.LeadsAlong other) : s.vault.LeadsAlong (inboundCommand i other s) := by
  cases i with
  | status p n => exact command_keeps fun _ _ => rfl
  | eventsRead p n => exact command_keeps fun _ _ => rfl
  | tableLoad p n t r l => exact execTableLoad_leads p n t r l s
  | tableRead p n b t r x y => exact command_keeps (tableReadTaken_vault b t r x y)
  | bankCopy p n => exact command_keeps bankCopyTaken_vault
  | bankSwap p n => exact command_leads bankSwapTaken_leads
  | bankRelease p n => exact command_keeps bankReleaseTaken_vault
  | trip p n m => exact command_keeps (tripTaken_vault m)
  | close p n m => exact command_keeps (closeCommandTaken_vault n m)
  | abort p n => exact run_keeps (arrive_vault (abortTaken_vault p n))
  | holdSet p n t x y => exact command_leads (holdSetTaken_leads t x y)
  | holdClear p n t => exact command_leads (holdClearTaken_leads t)
  | holdList p n => exact command_keeps fun _ _ => rfl
  | flags p n a => exact command_keeps (flagsTaken_vault a)
  | faultRead p n m v => exact command_keeps (faultReadTaken_vault m v)
  | exceptionRead p n => exact command_keeps fun _ _ => rfl
  | batteryRead p n => exact command_keeps fun _ _ => rfl
  | batteryTest p n => exact command_keeps (batteryTestTaken_vault n)
  | mechReset p n => exact command_keeps mechResetTaken_vault
  | timeSet p n t => exact command_keeps fun _ _ => rfl
  | inputMask p n a => exact command_keeps (inputMaskTaken_vault a)
  | restart p n => exact command_leads restartTaken_leads
  | _ => exact h

theorem execBadCommand_leads (p : PortId) (n : Half) (l : List Byte) (s : State) :
    s.vault.LeadsAlong (execBadCommand p n l s) := by
  have bad : s.vault.LeadsAlong (run s (arrive p.run l.length (badCommandTaken p n l))) :=
    run_keeps (arrive_vault fun _ => rfl)
  unfold execBadCommand
  dsimp only
  split
  · exact inboundCommand_leads _ s bad
  · exact bad

theorem execRunDiscarded_leads (p : RunPort) (l : List Byte) (s : State) :
    s.vault.LeadsAlong (execRunDiscarded p l s) := by
  have discarded : s.vault.LeadsAlong (run s (State.countDiscarded · p)) := run_keeps rfl
  unfold execRunDiscarded
  dsimp only
  split
  · exact discarded
  · exact execMeasure_leads _ _ _ s
  · exact execRelayReply_leads _ _ s
  · exact execRelay_leads _ _ _ s
  · exact execReportAck_leads _ s
  · exact execBadCommand_leads _ _ _ s
  · exact inboundCommand_leads _ s discarded

theorem execLineSample_leads (x : Inputs Bool) (s : State) : s.vault.LeadsAlong (execLineSample x s) := by
  refine run_leads ?_
  dsimp only
  split
  · exact handOn_leads _ (State.withFilters { s with paced := { s.paced with sampled := true } } _)
  · exact .refl _

theorem execCabinetReading_leads (v c : Int) (x : Half) (t : Int) (s : State) :
    s.vault.LeadsAlong (execCabinetReading v c x t s) := by
  refine run_keeps ?_
  dsimp only
  split
  · exact readingTaken_vault v c x t { s with paced := { s.paced with read := true } }
  · rfl

/-- The whole of what a command can do to the vault: the moves of `Vault.Move`. -/
theorem exec_leads (i : Instr) (s : State) : s.vault.LeadsAlong (exec i s) := by
  have inbound : exec i s = inboundCommand i (.next s) s → s.vault.LeadsAlong (exec i s) := by
    intro hi
    rw [hi]
    refine inboundCommand_leads i s ?_
    rintro t ⟨⟩
    exact .refl _
  cases i with
  | powerOn =>
    rintro t ⟨⟩
    exact powerUp_leads s
  | measure n c v => exact execMeasure_leads n c v s
  | relayReply n l => exact execRelayReply_leads n l s
  | relay p n l => exact execRelay_leads p n l s
  | reportAck n => exact execReportAck_leads n s
  | runDiscarded p l => exact execRunDiscarded_leads p l s
  | badCommand p n l => exact execBadCommand_leads p n l s
  | auxChange p x => exact run_keeps (changeContacts_vault p x s)
  | holdLeverChange x => exact run_leads (changeCabinet_leads _ x s takeLever_leads)
  | manualTripChange x => exact run_leads (changeCabinet_leads _ x s fun y t => .of_eq (takeManualTrip_vault y t))
  | doorOpen => exact run_leads (changeCabinet_leads _ true s fun y t => .of_eq (takeDoor_vault y t))
  | acPresentChange x => exact run_leads (changeCabinet_leads _ x s fun y t => .of_eq (takeAcPresent_vault y t))
  | crewPresentChange x => exact run_leads (changeCabinet_leads _ x s fun y t => .of_eq (takeCrewPresent_vault y t))
  | radioReadyChange x => exact run_leads (changeCabinet_leads _ x s fun y t => .of_eq (takeRadioReady_vault y t))
  | cabinetReading v c x t => exact execCabinetReading_leads v c x t s
  | deadTimerExpiry => exact onExpiry_keeps deadTimeEnds_vault
  | reclaimTimerExpiry => exact onExpiry_keeps reclaimEnds_vault
  | warningTimerExpiry => exact onExpiry_keeps warningEnds_vault
  | linkTimerExpiry => exact onExpiry_keeps fun _ => rfl
  | ownershipTimerExpiry => exact onExpiry_keeps fun _ => rfl
  | tripPulseEnd p => exact onExpiry_keeps fun t => poleEvent_vault (tripPulseEnds_vault p t)
  | tripWindowExpiry p => exact onExpiry_keeps fun t => poleEvent_vault (tripWindowExpires_vault p t)
  | gapTimerExpiry p => exact onExpiry_keeps (gapEnds_vault p)
  | closePulseEnd p => exact onExpiry_keeps fun t => poleEvent_vault (closePulseEnds_vault p t)
  | closeWindowExpiry p => exact onExpiry_keeps fun t => poleEvent_vault (closeWindowExpires_vault p t)
  | storeWriteComplete => exact run_leads (writeComplete_leads s)
  | ackTimerExpiry => exact onExpiry_keeps fun _ => rfl
  | holdoffTimerExpiry => exact onExpiry_keeps fun _ => rfl
  | refillTimerExpiry => exact onExpiry_keeps fun _ => rfl
  | periodicTimerExpiry => exact onExpiry_keeps fun _ => rfl
  | durationTimerExpiry => exact onExpiry_keeps fun _ => rfl
  | nextTestDue => exact onExpiry_keeps dueTimeReached_vault
  | retryWaitExpiry => exact onExpiry_keeps retryWaitEnds_vault
  | faultClearTimerExpiry => exact onExpiry_keeps fun _ => rfl
  | shutdownTimerExpiry => exact onExpiry_keeps assertShutdown_vault
  | alarmEnd => exact onExpiry_keeps fun _ => rfl
  | warningRequestEnd => exact onExpiry_keeps fun _ => rfl
  | tankTxEnd => exact run_keeps (f := fun s => { s with port := s.port.tankEnd }) rfl
  | radioTxEnd => exact run_keeps (radioTxEnds_vault s)
  | crewTxEnd => exact run_keeps (crewTxEnds_vault s)
  | lineSample x => exact execLineSample_leads x s
  | powerLoss => exact run_leads (coldState_leads s false)
  | _ => exact inbound rfl

/-- A millisecond leaves the vault alone. -/
theorem tick_vault (s : State) : (tick s).vault = s.vault := by
  have advanced : (advancedBase s).vault = s.vault := by
    unfold advancedBase
    split <;> rfl
  unfold tick queueDue
  dsimp only
  split
  · split <;> exact advanced
  · rfl

/-- The whole of what a step can do to the vault. -/
theorem step_leads {s t : State} (h : step s = .next t) : s.vault.Leads t.vault := by
  unfold step at h
  split at h
  · rename_i c rest _
    exact exec_leads c { s with pending := rest } t h
  · cases h
    exact .of_eq (tick_vault s)

/-- What every move keeps every step keeps. -/
theorem Vault.Leads.keeps {P : Vault → Prop} (hP : ∀ v w, P v → v.Move w → P w) {v w : Vault} (h : v.Leads w)
    (hv : P v) : P w := by
  induction h with
  | refl => exact hv
  | tail _ m ih => exact hP _ _ ih m

/-! ## R12: the active bank passes -/

def Vault.activeValid (v : Vault) : Prop := v.active.valid = true

theorem Vault.request_active (v : Vault) (i : ImageId) : (v.request i).active = v.active := by
  unfold Vault.request Vault.start
  split
  · cases i <;> rfl
  · split <;> rfl

theorem Vault.startNext_active (v : Vault) : v.startNext.active = v.active := by
  unfold Vault.startNext
  split
  · rename_i i rest _
    cases i <;> rfl
  · rfl

theorem Vault.finish_active (v : Vault) (w : ImageWrite) : (v.finish w).active = v.active := by cases w <;> rfl

/-- R12: only a bank that passes becomes active. -/
theorem Vault.Move.keeps_activeValid {v w : Vault} (hv : v.activeValid) (m : v.Move w) : w.activeValid := by
  unfold Vault.activeValid at hv ⊢
  cases m with
  | adopt b h => exact h
  | request i => rw [Vault.request_active]; exact hv
  | written x h => rw [Vault.startNext_active, Vault.finish_active]; exact hv
  | lever x h => exact hv
  | slot k x h => exact hv
  | cold b h => exact h
  | restore x h => exact hv

/-- Settles O56: R12 is kept by every move of the vault, so by every step. -/
theorem activeBankStaysValid : Obligations.ActiveBankStaysValid := by
  intro s t hs hstep
  exact (step_leads hstep).keeps (P := Vault.activeValid) (fun _ _ => Vault.Move.keeps_activeValid) hs

/-! ## R21, R22: the store's write queue -/

def Vault.queueOk (v : Vault) : Prop :=
  (∀ w, v.inFlight = some w → v.nv.readable w.image = false) ∧ (v.inFlight = none → v.waiting = []) ∧ v.waiting.Nodup

/-- R21: after a write has started its image has no usable copy. -/
theorem Vault.start_queueOk (v : Vault) (i : ImageId) (h : v.waiting.Nodup) : (v.start i).queueOk := by
  cases i with
  | settings =>
    refine ⟨?_, ?_, h⟩
    · rintro w ⟨⟩; rfl
    · rintro ⟨⟩
  | hold =>
    refine ⟨?_, ?_, h⟩
    · rintro w ⟨⟩; rfl
    · rintro ⟨⟩

/-- R22: a request starts the write, or leaves one entry for its image in the pending list. -/
theorem Vault.request_queueOk {v : Vault} (i : ImageId) (h : v.queueOk) : (v.request i).queueOk := by
  obtain ⟨copies, idle, once⟩ := h
  unfold Vault.request
  split
  · exact Vault.start_queueOk v i once
  · rename_i busy
    split
    · exact ⟨copies, idle, once⟩
    · rename_i absent
      refine ⟨copies, fun none => absurd none (by simpa using busy), ?_⟩
      refine List.nodup_append.mpr ⟨once, by simp, ?_⟩
      rintro x hx y hy rfl
      exact absent (List.mem_singleton.mp hy ▸ hx)

/-- R22: with nothing in flight the next write starts, or nothing waits. -/
theorem Vault.startNext_queueOk {v : Vault} (idle : v.inFlight = none) (once : v.waiting.Nodup) :
    v.startNext.queueOk := by
  unfold Vault.startNext
  split
  · rename_i i rest hw
    rw [hw] at once
    exact Vault.start_queueOk _ i (List.nodup_cons.mp once).2
  · rename_i hw
    refine ⟨?_, fun _ => hw, once⟩
    intro w hw'
    rw [idle] at hw'
    cases hw'

theorem Vault.Move.keeps_queueOk {v w : Vault} (hv : v.queueOk) (m : v.Move w) : w.queueOk := by
  cases m with
  | adopt b h => exact hv
  | request i => exact Vault.request_queueOk i hv
  | written x h => exact Vault.startNext_queueOk (by cases x <;> rfl) (by cases x <;> exact hv.2.2)
  | lever x h => exact hv
  | slot k x h => exact hv
  | cold b h => exact ⟨by rintro w ⟨⟩, fun _ => rfl, List.nodup_nil⟩
  | restore x h => exact hv

/-! ## R89: the hold table and its copies -/

def Vault.holdsOk (v : Vault) : Prop :=
  (∀ h, v.lever = some h → h.origin = .lever) ∧ slotsOk v.slots ∧ (∀ x, v.nv.hold = some x → slotsOk x) ∧
  (∀ w x, v.inFlight = some w → w.slots = some x → slotsOk x)

theorem slotsOk_empty : slotsOk (Vector.replicate 7 none) := by
  refine ⟨fun h hh => ?_, fun i j h k hi => absurd hi (emptyTable_getElem i h)⟩
  simp at hh

/-- R89: a slot changed to what stands beside the others. -/
theorem slotsOk_set {v : Vector (Option Hold) 7} {k : Nat} {x : Option Hold} (ok : slotsOk v)
    (fits : fitsBeside v k x) : slotsOk (v.setIfInBounds k x) := by
  obtain ⟨noLever, distinct⟩ := ok
  have read : ∀ {j : Nat} {h : Hold}, (v.setIfInBounds k x).toList[j]? = some (some h) →
      (j = k ∧ x = some h) ∨ (j ≠ k ∧ v.toList[j]? = some (some h)) := by
    intro j h hj
    rw [Vector.toList_setIfInBounds, List.getElem?_set] at hj
    split at hj
    · rename_i hk
      split at hj
      · exact .inl ⟨hk.symm, by simpa using hj⟩
      · cases hj
    · rename_i hk
      exact .inr ⟨fun he => hk he.symm, hj⟩
  constructor
  · intro h hh
    obtain ⟨j, hj⟩ := List.mem_iff_getElem?.mp hh
    obtain ⟨-, hx⟩ | ⟨-, hj⟩ := read hj
    · exact (fits h hx).1
    · exact noLever h (List.mem_of_getElem? hj)
  · intro i j h g hi hj origins tags
    obtain ⟨rfl, hx⟩ | ⟨hik, hi'⟩ := read hi
    · obtain ⟨rfl, -⟩ | ⟨hjk, hj'⟩ := read hj
      · rfl
      · exact absurd ⟨origins.symm, tags.symm⟩ ((fits h hx).2 j g hjk hj')
    · obtain ⟨rfl, hx⟩ | ⟨-, hj'⟩ := read hj
      · exact absurd ⟨origins, tags⟩ ((fits g hx).2 i h hik hi')
      · exact distinct i j h g hi' hj' origins tags

theorem Vault.start_holdsOk {v : Vault} (i : ImageId) (h : v.holdsOk) : (v.start i).holdsOk := by
  obtain ⟨lever, table, copy, writing⟩ := h
  cases i with
  | settings =>
    refine ⟨lever, table, copy, ?_⟩
    rintro w x ⟨⟩ ⟨⟩
  | hold =>
    refine ⟨lever, table, ?_, ?_⟩
    · rintro x ⟨⟩
    · rintro w x ⟨⟩ ⟨⟩
      exact table

theorem Vault.request_holdsOk {v : Vault} (i : ImageId) (h : v.holdsOk) : (v.request i).holdsOk := by
  unfold Vault.request
  split
  · exact Vault.start_holdsOk i h
  · split <;> exact h

theorem Vault.finish_holdsOk {v : Vault} {w : ImageWrite} (h : v.holdsOk) (hw : v.inFlight = some w) :
    (v.finish w).holdsOk := by
  obtain ⟨lever, table, copy, writing⟩ := h
  cases w with
  | settings b =>
    refine ⟨lever, table, copy, ?_⟩
    rintro w x ⟨⟩
  | hold y =>
    refine ⟨lever, table, ?_, ?_⟩
    · rintro x ⟨⟩
      exact writing _ _ hw rfl
    · rintro w x ⟨⟩

theorem Vault.startNext_holdsOk {v : Vault} (h : v.holdsOk) : v.startNext.holdsOk := by
  unfold Vault.startNext
  split
  · exact Vault.start_holdsOk _ h
  · exact h

theorem Vault.Move.keeps_holdsOk {v w : Vault} (hv : v.holdsOk) (m : v.Move w) : w.holdsOk := by
  obtain ⟨lever, table, copy, writing⟩ := id hv
  cases m with
  | adopt b h => exact hv
  | request i => exact Vault.request_holdsOk i hv
  | written x h => exact Vault.startNext_holdsOk (Vault.finish_holdsOk hv h)
  | lever x h => exact ⟨h, table, copy, writing⟩
  | slot k x h => exact ⟨lever, slotsOk_set table (h table), copy, writing⟩
  | cold b h => exact ⟨by rintro h ⟨⟩, slotsOk_empty, copy, by rintro w x ⟨⟩⟩
  | restore x h => exact ⟨lever, copy x h, copy, writing⟩

/-- Settles O58: R21 and R22 of the write queue, and R89 of the hold table, are kept by every move of the vault, so by
every step. -/
theorem storeAndHoldTableStayOk : Obligations.StoreAndHoldTableStayOk := by
  constructor
  · intro s t hs hstep
    exact (step_leads hstep).keeps (P := Vault.queueOk) (fun _ _ => Vault.Move.keeps_queueOk) hs
  · intro s t hs hstep
    exact (step_leads hstep).keeps (P := Vault.holdsOk) (fun _ _ => Vault.Move.keeps_holdsOk) hs

end Sys2Proof.Machine
end

section
/-! PROOFS. The fields of a bank (R1). -/

namespace Sys2Proof.Machine

/-! ## A record read after one table is replaced -/

section
variable (b : Bank) (t r : Nat)

theorem record_withCurve (x : Vector (Vector Word 26) 8) : { b with curve := x }.record t r =
    if t = 0 then ((x[r]?).map Vector.toList).getD [] else b.record t r := by
  unfold Bank.record
  split <;> simp_all

theorem record_withElement (x : Vector Word 13) : { b with element := x }.record t r =
    if t = 1 ∧ r = 0 then x.toList else b.record t r := by
  unfold Bank.record
  split <;> simp_all

theorem record_withHeader (x : Vector Word 5) : { b with header := x }.record t r =
    if t = 2 ∧ r = 0 then x.toList else b.record t r := by
  unfold Bank.record
  split <;> simp_all

theorem record_withShots (x : Vector (Vector Word 9) 4) : { b with shots := x }.record t r =
    if t = 2 ∧ r ≠ 0 then ((x[r - 1]?).map Vector.toList).getD [] else b.record t r := by
  cases r with
  | zero =>
    unfold Bank.record
    split <;> simp_all
  | succ r =>
    unfold Bank.record
    split <;> simp_all

theorem record_withPole (x : Vector Word 9) : { b with pole := x }.record t r =
    if t = 3 ∧ r = 0 then x.toList else b.record t r := by
  unfold Bank.record
  split <;> simp_all

theorem record_withBattery (x : Vector Word 18) : { b with battery := x }.record t r =
    if t = 4 ∧ r = 0 then x.toList else b.record t r := by
  unfold Bank.record
  split <;> simp_all

theorem record_withRadio (x : Vector Word 39) : { b with radio := x }.record t r =
    if t = 5 ∧ r = 0 then x.toList else b.record t r := by
  unfold Bank.record
  split <;> simp_all

theorem record_withLines (x : Vector Word 18) : { b with lines := x }.record t r =
    if t = 6 ∧ r = 0 then x.toList else b.record t r := by
  unfold Bank.record
  split <;> simp_all

theorem record_withRelay (x : Vector (Vector Word 16) 2) : { b with relay := x }.record t r =
    if t = 7 then ((x[r]?).map Vector.toList).getD [] else b.record t r := by
  unfold Bank.record
  split <;> simp_all

end

/-! ## One record read after one field is placed -/

/-- A record of a table of several records after one member of one record is replaced. -/
theorem setInner_record {n m : Nat} (t : Vector (Vector Word n) m) (r i : Nat) (v : Word) (r' : Nat) :
    (((setInner t r i v)[r']?).map Vector.toList).getD [] =
      if r' = r then (((t[r]?).map Vector.toList).getD []).set i v else ((t[r']?).map Vector.toList).getD [] := by
  unfold setInner
  by_cases hr : r < m
  · rw [Vector.getElem?_eq_getElem hr]
    dsimp only
    rw [Vector.getElem?_setIfInBounds]
    by_cases he : r' = r
    · subst he
      simp [hr]
    · simp [he, Ne.symm he]
  · have none : t[r]? = none := by simpa using hr
    rw [none]
    by_cases he : r' = r
    · subst he
      simp [none]
    · simp [he]

/-- Replacing what does not exist leaves a table of several records as it is. -/
theorem setInner_outside {n m : Nat} {t : Vector (Vector Word n) m} {r i : Nat} (v : Word)
    (h : (((t[r]?).map Vector.toList).getD []).length ≤ i) : setInner t r i v = t := by
  unfold setInner
  split
  · rename_i record hr
    have hi : n ≤ i := by simpa [hr] using h
    rw [Vector.setIfInBounds_eq_of_size_le hi]
    ext1 j hj
    rw [Vector.getElem_setIfInBounds]
    split
    · rename_i he
      subst he
      exact (Vector.getElem?_eq_some_iff.mp hr).2.symm
    · rfl
  · rfl

/-- R1: after a field is placed its record has the value in that place, and every other record is as it was. -/
theorem Bank.record_set (b : Bank) (t r i : Nat) (v : Word) (t' r' : Nat) :
    (b.set t r (i + 1) v).record t' r' = if t' = t ∧ r' = r then (b.record t r).set i v else b.record t' r' := by
  match t, r with
  | 0, r =>
    simp only [Bank.set, record_withCurve, setInner_record]
    by_cases ht : t' = 0
    · subst ht
      simp [Bank.record]
    · simp [ht]
  | 2, r + 1 =>
    simp only [Bank.set, record_withShots, setInner_record]
    by_cases ht : t' = 2
    · subst ht
      cases r' <;> simp [Bank.record]
    · simp [ht]
  | 7, r =>
    simp only [Bank.set, record_withRelay, setInner_record]
    by_cases ht : t' = 7
    · subst ht
      simp [Bank.record]
    · simp [ht]
  | 1, 0 | 2, 0 | 3, 0 | 4, 0 | 5, 0 | 6, 0 =>
    simp only [Bank.set, record_withElement, record_withHeader, record_withPole, record_withBattery,
      record_withRadio, record_withLines]
    simp [Bank.record]
  | 1, r + 1 | 3, r + 1 | 4, r + 1 | 5, r + 1 | 6, r + 1 | t + 8, r =>
    change b.record t' r' = if _ then [] else b.record t' r'
    split
    · rename_i same
      rw [same.1, same.2]
      rfl
    · rfl

/-- R1: fields are numbered from 1. -/
theorem Bank.set_zero (b : Bank) (t r : Nat) (v : Word) : b.set t r 0 v = b := by
  unfold Bank.set
  split <;> simp_all

/-- R1: a field past the end of its record, or of a record that does not exist, takes no value. -/
theorem Bank.set_outside (b : Bank) (t r i : Nat) (v : Word) (h : (b.record t r).length ≤ i) :
    b.set t r (i + 1) v = b := by
  match t, r with
  | 0, r | 2, r + 1 | 7, r => simp only [Bank.set, setInner_outside v h]
  | 1, 0 | 2, 0 | 3, 0 | 4, 0 | 5, 0 | 6, 0 =>
    simp only [Bank.set]
    rw [Vector.setIfInBounds_eq_of_size_le (by simpa [Bank.record] using h)]
  | 1, r + 1 | 3, r + 1 | 4, r + 1 | 5, r + 1 | 6, r + 1 | t + 8, r => rfl

/-- R1: how many fields a record's list holds. -/
theorem record_length (b : Bank) (t r : Nat) : (b.record t r).length = (recordFields t r).getD 0 := by
  have several : ∀ {n m : Nat} (x : Vector (Vector Word n) m) (k : Nat),
      (((x[k]?).map Vector.toList).getD []).length = (if k < m then some n else none).getD 0 := by
    intro n m x k
    split <;> rename_i h <;> simp [h]
  match t, r with
  | 0, r => exact several b.curve r
  | 2, r + 1 =>
    refine (several b.shots r).trans ?_
    simp only [recordFields, Nat.add_one_ne_zero, if_false, Nat.add_one_le_iff]
  | 7, r => exact several b.relay r
  | 1, 0 | 2, 0 | 3, 0 | 4, 0 | 5, 0 | 6, 0 => simp [Bank.record, recordFields]
  | 1, r + 1 | 3, r + 1 | 4, r + 1 | 5, r + 1 | 6, r + 1 | t + 8, r => simp [Bank.record, recordFields]

/-- R1: the fields of a record are those that its list holds. -/
theorem fieldExists_iff (b : Bank) (t r f : Nat) :
    fieldExists t r f = true ↔ 1 ≤ f ∧ f ≤ (b.record t r).length := by
  rw [record_length]
  unfold fieldExists
  split <;> rename_i h <;> simp [h]
  omega

/-- R1: a field as its record's list gives it. -/
theorem field_succ (b : Bank) (t r i : Nat) : b.field t r (i + 1) = ((b.record t r)[i]?).getD 0 := rfl

/-- Settles O6: a field placed reads back and no other field changes, record by record. -/
theorem fieldKeepsItsValue : Obligations.FieldKeepsItsValue := by
  intro b t r f v
  refine ⟨fun h => ?_, fun h => ?_, fun t' r' f' hne => ?_⟩
  · obtain ⟨hf, hl⟩ := (fieldExists_iff b t r f).mp h
    obtain ⟨i, rfl⟩ := Nat.exists_eq_add_of_le' hf
    rw [field_succ, Bank.record_set, if_pos ⟨rfl, rfl⟩, List.getElem?_set_self (by omega)]
    rfl
  · cases f with
    | zero => exact Bank.set_zero b t r v
    | succ i =>
      refine Bank.set_outside b t r i v ?_
      have absent : ¬ fieldExists t r (i + 1) = true := by simp [h]
      rw [fieldExists_iff b] at absent
      omega
  · cases f with
    | zero => rw [Bank.set_zero]
    | succ i =>
      cases f' with
      | zero => rfl
      | succ i' =>
        rw [field_succ, field_succ, Bank.record_set]
        split
        · rename_i hsame
          obtain ⟨rfl, rfl⟩ := hsame
          rw [List.getElem?_set_ne]
          rintro rfl
          exact hne rfl
        · rfl

end Sys2Proof.Machine
end

section
/-! PROOFS. The commands on tables and banks, the expiries that touch one thing, and the outputs. -/

namespace Sys2Proof.Machine

/-! ## A next state always (log 34, 7, 4) -/

/-- R166: a command that a COMMAND frame carries is taken while the supply is applied; for any other, `other`. -/
theorem inboundCommand_run (i : Instr) :
    (∃ f, ∀ other s, inboundCommand i other s = run s f) ∨ ∀ other s, inboundCommand i other s = other := by
  cases i with
  | status | eventsRead | tableLoad | tableRead | bankCopy | bankSwap | bankRelease | trip | close | abort | holdSet
  | holdClear | holdList | flags | faultRead | exceptionRead | batteryRead | batteryTest | mechReset | timeSet
  | inputMask | restart => exact .inl ⟨_, fun _ _ => rfl⟩
  | _ => exact .inr fun _ _ => rfl

theorem execBadCommand_run (p : PortId) (n : Half) (l : List Byte) : ∃ f, ∀ s, execBadCommand p n l s = run s f := by
  unfold execBadCommand
  cases parseCommand p n l with
  | none => exact ⟨_, fun _ => rfl⟩
  | some i =>
    obtain ⟨f, hf⟩ | hi := inboundCommand_run i
    · exact ⟨f, fun s => hf _ s⟩
    · exact ⟨_, fun s => hi _ s⟩

theorem execRunDiscarded_run (p : RunPort) (l : List Byte) : ∃ f, ∀ s, execRunDiscarded p l s = run s f := by
  unfold execRunDiscarded
  cases decodeRun p l with
  | none => exact ⟨_, fun _ => rfl⟩
  | some i =>
    cases i with
    | badCommand q n m => exact execBadCommand_run q n m
    | measure | relayReply | relay | reportAck => exact ⟨_, fun _ => rfl⟩
    | _ =>
      obtain ⟨f, hf⟩ | hi := inboundCommand_run _
      · exact ⟨f, fun s => hf _ s⟩
      · exact ⟨_, fun s => hi _ s⟩

/-- Log 7: every command but POWER_ON is taken while the supply is applied, and otherwise has no effect. -/
theorem exec_run (i : Instr) : i = .powerOn ∨ ∃ f, ∀ s, exec i s = run s f := by
  cases i with
  | powerOn => exact .inl rfl
  | badCommand p n l => exact .inr (execBadCommand_run p n l)
  | runDiscarded p l => exact .inr (execRunDiscarded_run p l)
  | _ => exact .inr ⟨_, fun _ => rfl⟩

/-- Log 4: an expiry command is taken when its own timer is due. -/
theorem exec_expiry {i : Instr} {f : State → Timer} (h : expiryTimer i = some f) :
    ∃ g, ∀ s, exec i s = run s (onExpiry f g) := by
  cases i <;> cases h <;> exact ⟨_, fun _ => rfl⟩

/-- Settles O3: every command but POWER_ON goes through `run`, and every expiry through its own timer's test. -/
theorem nextStateAlways : Obligations.NextStateAlways := by
  refine ⟨fun i s => ?_, fun i s hp hi => ?_, fun i f s hf hx => ?_⟩
  · obtain rfl | ⟨f, hf⟩ := exec_run i
    · exact ⟨powerUp s, rfl⟩
    · rw [hf s]
      exact run_next s f
  · obtain ⟨f, hf⟩ := (exec_run i).resolve_left hi
    rw [hf s, run_unpowered hp]
  · obtain ⟨g, hg⟩ := exec_expiry hf
    rw [hg s, not_expires_run hx]

/-! ## Expiries and outputs -/

/-- R13, R112, R125, R186: what each expiry that touches one thing leaves. -/
theorem plainExpiries_effects (s : State) :
    (s.expires s.store.ownerTimer → exec .ownershipTimerExpiry s =
      .next { s with store := { s.store with owner := none, ownerTimer := none } }) ∧
    (s.expires s.batt.faultClear → exec .faultClearTimerExpiry s = .next (faultClears s)) ∧
    (s.expires s.batt.shutdownTimer → exec .shutdownTimerExpiry s = .next (assertShutdown s)) ∧
    (s.expires s.line.alarmEnd → exec .alarmEnd s = .next { s with line := { s.line with alarmEnd := none } }) ∧
    (s.expires s.line.warningEnd → exec .warningRequestEnd s =
      .next { s with line := { s.line with warningEnd := none } }) :=
  ⟨fun h => expires_run (f := (·.store.ownerTimer)) h, fun h => expires_run (f := (·.batt.faultClear)) h,
    fun h => expires_run (f := (·.batt.shutdownTimer)) h, fun h => expires_run (f := (·.line.alarmEnd)) h,
    fun h => expires_run (f := (·.line.warningEnd)) h⟩

/-- R109: the entry rule chooses the charger's state alone. -/
theorem entry_eq (bank : Bank) (b : Battery) : b.entry bank =
    { b with charger :=
        if b.ac ≠ .active ∨ b.readingTaken = false then .off
        else if b.voltage < bank.floatVoltage - bank.rebulkMargin then .bulk else .float } := by
  unfold Battery.entry
  split
  · rfl
  · split <;> rfl

/-- R71: the coils follow the poles' mechanisms. -/
theorem outputs_coils (s : State) (p : Pole) :
    (s.outputs.trip.get p = true ↔ (s.poleRec p).mech = .tripPulse) ∧
    (s.outputs.close.get p = true ↔ (s.poleRec p).mech = .closePulse) := by
  cases p <;> exact ⟨decide_eq_true_iff, decide_eq_true_iff⟩

/-- R186: the tone follows the WARNING request first, then the ALARM end. -/
theorem outputs_sounder (s : State) :
    (∀ e, s.line.warningEnd = some e → s.outputs.sounder = .warning) ∧
    (∀ e, s.line.warningEnd = none → s.line.alarmEnd = some e → s.outputs.sounder = .alarm) ∧
    (s.line.warningEnd = none → s.line.alarmEnd = none → s.outputs.sounder = .off) := by
  refine ⟨fun e h => ?_, fun e h k => ?_, fun h k => ?_⟩ <;> simp [State.outputs, LineUnit.tone, *]

/-- Settles O40. -/
theorem plainExpiries : Obligations.PlainExpiries := by
  refine ⟨fun s => ?_, fun s => ?_⟩
  · obtain ⟨owner, fault, shutdown, alarm, warning⟩ := plainExpiries_effects s
    refine ⟨owner, fun h => ?_, fun h waiting => ?_, alarm, warning⟩
    · rw [fault h, faultClears, entry_eq]
    · rw [shutdown h, assertShutdown, if_pos waiting]
  · obtain ⟨warning, alarm, off⟩ := outputs_sounder s
    refine ⟨outputs_coils s, rfl, decide_eq_true_iff, decide_eq_true_iff, Option.isSome_iff_exists,
      decide_eq_true_iff, rfl, warning, alarm, off⟩

/-! ## TABLE_LOAD, BANK_COPY, BANK_RELEASE (R13, R14, R16, R17) -/

theorem ownedByOther_iff (st : SettingStore) (p : PortId) :
    st.ownedByOther p = true ↔ st.owner = some (PortId.other p) := decide_eq_true_iff

theorem PortId.ne_other (p : PortId) : p ≠ PortId.other p := by cases p <;> decide

/-- R13: a command's owner restarts the ownership timer where its port owns the shadow. -/
def State.touched (s : State) (p : PortId) (now : Nat) (t : State) : State :=
  if s.store.owner = some p then { t with store := { t.store with ownerTimer := some (now + 600000) } } else t

theorem touch_eq {s t : State} (h : t.store = s.store) (p : PortId) (now : Nat) :
    { t with store := t.store.touch p now } = s.touched p now t := by
  unfold SettingStore.touch State.touched
  rw [h]
  split
  · rfl
  · rw [← h]

/-- R14: TABLE_LOAD with 1 to 9 pairs is handed to its owner. -/
theorem tableLoad_taken {p : PortId} {n : Half} {table record : Byte} {pairs : List FieldPair} {s : State}
    (h : s.ready p) (h1 : 1 ≤ pairs.length) (h9 : pairs.length ≤ 9) :
    exec (.tableLoad p n table record pairs) s =
      run s (command p n .tableLoad (tableLoadTaken table record pairs)) := by
  have some : pairs.isEmpty = false := by
    cases pairs with
    | nil => simp at h1
    | cons x rest => rfl
  change run s (arrive _ _ _) = run s (command _ _ _ _)
  rw [run_powered h.1.1, run_powered h.1.1, some, command, arrive_taken h.1 (by omega), arrive_taken h.1 (by omega)]
  rfl

@[simp] theorem touched_cmd (s t : State) (p : PortId) (now : Nat) : (s.touched p now t).cmd = t.cmd := by
  unfold State.touched
  split <;> rfl

@[simp] theorem touched_port (s t : State) (p : PortId) (now : Nat) : (s.touched p now t).port = t.port := by
  unfold State.touched
  split <;> rfl

theorem owned_refused {s : State} {p : PortId} (n : Half) (c : CommandCode)
    (h : s.store.owner = some (PortId.other p)) :
    (s.admitted p n c).store.ownedByOther (s.nextRef p).port = true := (ownedByOther_iff _ _).mpr h

theorem not_owned {s : State} {p : PortId} (n : Half) (c : CommandCode)
    (h : s.store.owner ≠ some (PortId.other p)) :
    ¬ (s.admitted p n c).store.ownedByOther (s.nextRef p).port = true := fun hc => h ((ownedByOther_iff _ _).mp hc)

/-- Settles O8: the three branches of `tableLoadTaken`, in its order. -/
theorem tableLoadWritesShadow : Obligations.TableLoadWritesShadow := by
  intro p n table record pairs s h h1 h9
  rw [tableLoad_taken h h1 h9]
  refine ⟨fun owned => ?_, fun free bad => ?_, fun free good => ?_⟩
  · exact command_answered h rfl (if_pos (owned_refused n _ owned)) rfl
  · refine command_answered (f := s.touched p s.now) h rfl ?_ (touched_cmd _ _ _ _)
    obtain ⟨q, hq, absent⟩ := bad
    have notAll : ¬ pairs.all (fun q => fieldExists table.toNat record.toNat q.field.toNat) = true := by
      intro all
      simpa [absent] using List.all_eq_true.mp all q hq
    rw [tableLoadTaken, if_neg (not_owned n _ free), if_neg notAll]
    exact congrArg (complete _ _) (touch_eq rfl p s.now)
  · refine command_answered h rfl ?_ rfl
    rw [tableLoadTaken, if_neg (not_owned n _ free), if_pos (List.all_eq_true.mpr good)]
    rfl

/-- Settles O10: the two branches of each command; a release of what no port owns changes nothing. -/
theorem bankCopyAndRelease : Obligations.BankCopyAndRelease := by
  intro p n s h
  refine ⟨fun owned => ⟨?_, ?_⟩, fun free => ?_, fun own => ?_, fun none stopped => ?_⟩
  · exact command_answered h rfl (if_pos (owned_refused n _ owned)) rfl
  · exact command_answered h rfl (if_pos (owned_refused n _ owned)) rfl
  · exact command_answered h rfl (if_neg (not_owned n _ free)) rfl
  · have free : s.store.owner ≠ some (PortId.other p) := by
      rw [own]
      exact fun he => PortId.ne_other p (Option.some.inj he)
    exact command_answered h rfl (if_neg (not_owned n _ free)) rfl
  · have free : s.store.owner ≠ some (PortId.other p) := by simp [none]
    refine command_answered (f := id) h rfl ((if_neg (not_owned n _ free)).trans ?_) rfl
    have same : s.store.release = s.store := by rw [SettingStore.release, ← none, ← stopped]
    change complete _ _ { s.admitted p n .bankRelease with store := s.store.release } = _
    rw [same]
    rfl

/-! ## BANK_SWAP refused (R18) -/

theorem atRest_false_iff (r : PoleRecord) : (!r.atRest) = decide (r.mech ≠ .idle ∧ r.mech ≠ .failed) := by
  unfold PoleRecord.atRest
  cases r.mech <;> rfl

/-- R18: the elements are not all IDLE. -/
theorem not_allIdle_eq (e : PerChannel Element) :
    (!allIdle e) = e.toList.any fun x => decide (x.state ≠ .idle) := by
  simp [allIdle, List.all_eq_not_any_not]

/-- The refusal that a list of conditions gives: the first that holds, else `other`. -/
def firstBar (l : List (Bool × Reason)) (other : Option Answer) : Option Answer :=
  ((l.find? (·.1)).map fun c => Answer.refused c.2).or other

@[simp] theorem firstBar_nil (other : Option Answer) : firstBar [] other = other := rfl

@[simp] theorem firstBar_cons (b : Bool) (r : Reason) (l : List (Bool × Reason)) (other : Option Answer) :
    firstBar ((b, r) :: l) other = if b then some (.refused r) else firstBar l other := by
  cases b <;> rfl

/-- R18: the shadow's first failing field, as the bytes of the refusal. -/
def shadowBar (b : Bank) : Option Answer :=
  match validate b with
  | some (t, r, f) => some (.refused .shadowInvalid [BitVec.ofNat 8 t, BitVec.ofNat 8 r, BitVec.ofNat 8 f])
  | none => none

theorem swapBar_firstBar (p : PortId) (s : State) :
    swapBar p s = firstBar (swapConditions p s) (shadowBar s.store.shadow) := by
  unfold swapBar firstBar shadowBar
  cases (swapConditions p s).find? (·.1) with
  | some c => rfl
  | none =>
    cases hv : validate s.store.shadow with
    | none => rfl
    | some x =>
      obtain ⟨ht, hr, hf⟩ := validate_some_small hv
      simp [u8, ht, hr, hf]

/-- R18: the answer that refuses a BANK_SWAP, in the order of its conditions. -/
theorem swapBar_eq (p : PortId) (s : State) : swapBar p s =
    if s.store.owner = some (PortId.other p) then some (Answer.refused .shadowOwned)
    else if s.seq.state ≠ .reset ∧ s.seq.state ≠ .lockout then some (.refused .sequenceActive)
    else if s.poles.pole.toList.any (fun r => decide (r.mech ≠ .idle ∧ r.mech ≠ .failed)) then some (.refused .poleBusy)
    else if s.holds.close.isSome then some (.refused .closeInProgress)
    else if s.prot.elements.toList.any (fun e => decide (e.state ≠ .idle)) then some (.refused .elementActive)
    else if s.batt.test.isSome then some (.refused .testActive)
    else if s.store.inFlight.map ImageWrite.image = some .settings ∨ ImageId.settings ∈ s.store.waiting then
      some (.refused .storeBusy)
    else shadowBar s.store.shadow := by
  rw [swapBar_firstBar, swapConditions]
  simp only [firstBar_cons, firstBar_nil, decide_eq_true_eq, ownedByOther_iff, atRest_false_iff, not_allIdle_eq]

/-- Settles O11. -/
theorem bankSwapRefused : Obligations.BankSwapRefused := by
  intro p n s a h bar
  refine command_answered (f := s.touched p s.now) h rfl ?_ (touched_cmd _ _ _ _)
  have barred : swapBar (s.nextRef p).port (s.admitted p n .bankSwap) = some a :=
    (swapBar_eq p (s.admitted p n .bankSwap)).trans bar
  rw [bankSwapTaken, barred]
  exact congrArg (complete _ _) (touch_eq rfl p s.now)

end Sys2Proof.Machine
end

section
/-! PROOFS. The end of a store write (R19, R22, R94). -/

namespace Sys2Proof.Machine

/-! ## A waiting command answered -/

/-- R169: an outcome leaves every context as it was, or IDLE. -/
theorem complete_ctx (r : CmdRef) (a : Answer) (s : State) (p : PortId) :
    (complete r a s).cmd.ctx p = s.cmd.ctx p ∨ (complete r a s).cmd.ctx p = .idle := by
  cases h : s.holding r with
  | none => exact .inl (by rw [complete_unheld a h])
  | some e =>
    by_cases hp : p = r.port
    · subst hp
      exact .inr (complete_idle a h)
    · left
      have other : p = PortId.other r.port := by cases p <;> cases hr : r.port <;> simp_all [PortId.other]
      unfold complete
      rw [h]
      subst other
      dsimp only
      split <;> exact setCtx_ctx_other _ _ _

/-- R94: the answers to the waiting hold commands leave every context as it was, or IDLE. -/
theorem answerHoldWaiters_ctx (l : List HoldWaiter) (s : State) (p : PortId) :
    (answerHoldWaiters l s).cmd.ctx p = s.cmd.ctx p ∨ (answerHoldWaiters l s).cmd.ctx p = .idle := by
  induction l generalizing s with
  | nil => exact .inl rfl
  | cons w rest ih =>
    obtain h | h := ih (complete w.cmd (.done (u8 w.slot)) s)
    · exact (complete_ctx w.cmd (.done (u8 w.slot)) s p).imp h.trans h.trans
    · exact .inr h

/-- A context that has become IDLE holds no command, and one as it was holds the same. -/
theorem holding_congr {s t : State} {r : CmdRef} (h : t.cmd.ctx r.port = s.cmd.ctx r.port) :
    t.holding r = s.holding r := by
  unfold State.holding
  rw [h]

/-- R94: each waiting hold command that its context holds is answered: the context is IDLE. -/
theorem answerHoldWaiters_idle {l : List HoldWaiter} {s : State} {x : HoldWaiter} {e : Executing} (hx : x ∈ l)
    (h : s.holding x.cmd = some e) : (answerHoldWaiters l s).cmd.ctx x.cmd.port = .idle := by
  induction l generalizing s with
  | nil => cases hx
  | cons w rest ih =>
    change (answerHoldWaiters rest (complete w.cmd (.done (u8 w.slot)) s)).cmd.ctx x.cmd.port = .idle
    have stays : (complete w.cmd (.done (u8 w.slot)) s).cmd.ctx x.cmd.port = .idle →
        (answerHoldWaiters rest (complete w.cmd (.done (u8 w.slot)) s)).cmd.ctx x.cmd.port = .idle := by
      intro idle
      obtain k | k := answerHoldWaiters_ctx rest (complete w.cmd (.done (u8 w.slot)) s) x.cmd.port
      · exact k.trans idle
      · exact k
    obtain rfl | hrest := List.mem_cons.mp hx
    · exact stays (complete_idle _ h)
    · obtain same | idle := complete_ctx w.cmd (.done (u8 w.slot)) s x.cmd.port
      · exact ih hrest ((holding_congr same).trans h)
      · exact stays idle

/-- R19: after the settings image has been written the context of the waiting BANK_SWAP is IDLE. -/
theorem tellSettingsWritten_idle {s : State} {r : CmdRef} {e : Executing} (hr : s.store.swapWaiter = some r)
    (h : s.holding r = some e) : (tellSettingsWritten s).cmd.ctx r.port = .idle := by
  simp only [tellSettingsWritten, hr]
  exact complete_idle _ h

/-- R94: after the hold image has been written the context of each hold command that the write covers is IDLE. -/
theorem tellHoldWritten_idle {s : State} {x : HoldWaiter} {e : Executing} (hx : x ∈ s.holds.waiters)
    (hc : x.covered = true) (h : s.holding x.cmd = some e) : (tellHoldWritten s).cmd.ctx x.cmd.port = .idle :=
  answerHoldWaiters_idle (List.mem_filter.mpr ⟨hx, hc⟩) h

/-! ## What the end of a write leaves -/

/-- The store, the contexts, the ports and the list of waiting hold commands apart, `t` is `s`. -/
def State.alikeButStore (s t : State) : Prop :=
  t = { s with store := t.store, cmd := t.cmd, port := t.port, holds := { s.holds with waiters := t.holds.waiters } }

theorem State.alikeButStore.trans {s t u : State} (h : s.alikeButStore t) (k : t.alikeButStore u) :
    s.alikeButStore u := by
  unfold State.alikeButStore at *
  rw [h] at k
  exact k

theorem complete_alike (r : CmdRef) (a : Answer) (s : State) : s.alikeButStore (complete r a s) := rfl

theorem answerHoldWaiters_alike (l : List HoldWaiter) (s : State) : s.alikeButStore (answerHoldWaiters l s) := by
  induction l generalizing s with
  | nil => rfl
  | cons w rest ih => exact (complete_alike _ _ _).trans (ih _)

theorem tellWritten_alike (i : ImageId) (s : State) : s.alikeButStore (tellWritten i s) := by
  cases i with
  | settings =>
    change s.alikeButStore (tellSettingsWritten s)
    unfold tellSettingsWritten
    split <;> rfl
  | hold => exact .trans (t := { s with holds := { s.holds with waiters := _ } }) rfl (answerHoldWaiters_alike _ _)

theorem startNextWrite_alike (s : State) : s.alikeButStore (startNextWrite s) := by
  unfold startNextWrite
  split
  · rename_i i rest _
    cases i <;> rfl
  · rfl

@[simp] theorem answerHoldWaiters_store (l : List HoldWaiter) (s : State) :
    (answerHoldWaiters l s).store = s.store := by
  induction l generalizing s with
  | nil => rfl
  | cons w rest ih => exact (ih _).trans (complete_store _ _ _)

/-- R19: after the settings image has been written no BANK_SWAP waits. -/
@[simp] theorem tellSettingsWritten_swapWaiter (s : State) : (tellSettingsWritten s).store.swapWaiter = none := by
  unfold tellSettingsWritten
  split
  · rfl
  · assumption

@[simp] theorem tellWritten_shadow (i : ImageId) (s : State) : (tellWritten i s).store.shadow = s.store.shadow := by
  cases i with
  | settings =>
    change (tellSettingsWritten s).store.shadow = _
    unfold tellSettingsWritten
    split <;> rfl
  | hold => exact congrArg SettingStore.shadow (answerHoldWaiters_store _ _)

/-- R22: the next write's start changes neither the shadow, nor the waiting BANK_SWAP, nor any context. -/
theorem startNextWrite_keeps (s : State) :
    (startNextWrite s).store.shadow = s.store.shadow ∧ (startNextWrite s).store.swapWaiter = s.store.swapWaiter ∧
    (startNextWrite s).cmd = s.cmd := by
  unfold startNextWrite
  split
  · rename_i i rest _
    cases i <;> exact ⟨rfl, rfl, rfl⟩
  · exact ⟨rfl, rfl, rfl⟩

theorem Vault.startNext_nil {v : Vault} (h : v.waiting = []) : v.startNext = v := by
  simp only [Vault.startNext, h]

theorem Vault.startNext_cons {v : Vault} {i : ImageId} {rest : List ImageId} (h : v.waiting = i :: rest) :
    v.startNext = Vault.start { v with waiting := rest } i := by
  simp only [Vault.startNext, h]

/-- R21: the start of the next write leaves the other image's copy. -/
theorem Vault.startNext_settings {v : Vault} (h : ImageId.settings ∉ v.waiting.head?) :
    v.startNext.nv.settings = v.nv.settings := by
  cases hw : v.waiting with
  | nil => rw [Vault.startNext_nil hw]
  | cons i rest =>
    rw [Vault.startNext_cons hw]
    cases i with
    | settings => simp [hw] at h
    | hold => rfl

theorem Vault.startNext_hold {v : Vault} (h : ImageId.hold ∉ v.waiting.head?) :
    v.startNext.nv.hold = v.nv.hold := by
  cases hw : v.waiting with
  | nil => rw [Vault.startNext_nil hw]
  | cons i rest =>
    rw [Vault.startNext_cons hw]
    cases i with
    | settings => rfl
    | hold => simp [hw] at h

/-- Settles O13: the vault says what the images and the queue hold, the answers what the contexts do, and every other
block is as it was. -/
theorem storeWriteCompletes : Obligations.StoreWriteCompletes := by
  intro s hp
  refine ⟨fun h => ?_, fun w hw => ⟨writeComplete s, run_powered hp, ?_⟩⟩
  · exact (run_powered hp).trans (congrArg _ (writeComplete_none h))
  have vault := writeComplete_vault hw
  set u := { s with store := s.store.finishWrite w } with hu
  have whole : writeComplete s = startNextWrite (tellWritten w.image u) := by simp only [writeComplete, hw, hu]
  obtain ⟨shadow, swap, cmd⟩ := startNextWrite_keeps (tellWritten w.image u)
  rw [← whole] at shadow swap cmd
  have alike : s.alikeButStore (writeComplete s) := by
    rw [whole]
    exact .trans (t := u) rfl ((tellWritten_alike _ _).trans (startNextWrite_alike _))
  have waits : (s.vault.finish w).waiting = s.store.waiting := by cases w <;> rfl
  refine ⟨?_, ?_, ?_, ?_, ?_, ?_, ?_, ?_⟩
  · rintro b rfl
    refine ⟨swap.trans (tellSettingsWritten_swapWaiter _), fun h => ?_⟩
    exact (congrArg (·.nv.settings) vault).trans (Vault.startNext_settings (by rwa [waits]))
  · rintro v rfl h
    exact (congrArg (·.nv.hold) vault).trans (Vault.startNext_hold (by rwa [waits]))
  · intro h
    rw [Vault.startNext_nil (waits.trans h)] at vault
    exact ⟨(congrArg (·.inFlight) vault).trans (by cases w <;> rfl), (congrArg (·.waiting) vault).trans (waits.trans h)⟩
  · intro rest h
    rw [Vault.startNext_cons (waits.trans h)] at vault
    exact ⟨(congrArg (·.inFlight) vault).trans (by cases w <;> rfl), congrArg (·.nv.settings) vault,
      congrArg (·.waiting) vault⟩
  · intro rest h
    rw [Vault.startNext_cons (waits.trans h)] at vault
    exact ⟨(congrArg (·.inFlight) vault).trans (by cases w <;> rfl), congrArg (·.nv.hold) vault,
      congrArg (·.waiting) vault⟩
  · rintro b r e rfl hr he
    rw [cmd]
    exact tellSettingsWritten_idle (s := u) hr he
  · rintro v rfl x hx hc e he
    rw [cmd]
    exact tellHoldWritten_idle (s := u) hx hc he
  · refine ⟨?_, shadow.trans ((tellWritten_shadow _ _).trans (by cases w <;> rfl)), ?_, ?_, ?_, ?_, ?_, ?_, ?_, ?_, ?_⟩
    · exact (congrArg Vault.active vault).trans ((Vault.startNext_active _).trans (Vault.finish_active _ _))
    · exact congrArg (·.holds.slots) alike
    · exact congrArg (·.holds.lever) alike
    · exact congrArg (·.seq) alike
    · exact congrArg (·.prot) alike
    · exact congrArg (·.poles) alike
    · exact congrArg (·.batt) alike
    · exact congrArg (·.rep) alike
    · exact congrArg (·.line) alike
    · exact congrArg (·.time) alike

end Sys2Proof.Machine
end

section
/-! PROOFS. TABLE_READ (R15, R13): the pairs in frames of eight. -/

namespace Sys2Proof.Machine

/-! ## A list in groups -/

section
variable {α : Type} {k : Nat}

theorem groups_short {fuel : Nat} {l : List α} (h : l.length ≤ k + 1) : groups k (fuel + 1) l = [l] := if_pos h

theorem groups_long {fuel : Nat} {l : List α} (h : k + 1 < l.length) :
    groups k (fuel + 1) l = l.take (k + 1) :: groups k fuel (l.drop (k + 1)) := if_neg (by omega)

/-- Enough fuel for the groups after the first. -/
theorem drop_length_le {fuel : Nat} {l : List α} (h : l.length ≤ (k + 1) * (fuel + 1)) :
    (l.drop (k + 1)).length ≤ (k + 1) * fuel := by
  rw [Nat.mul_add_one] at h
  rw [List.length_drop]
  omega

/-- With enough fuel the groups are as many as are needed. -/
theorem groups_length {fuel : Nat} {l : List α} (h : 0 < l.length) (hf : l.length ≤ (k + 1) * fuel) :
    (groups k fuel l).length = (l.length - 1) / (k + 1) + 1 := by
  induction fuel generalizing l with
  | zero => omega
  | succ fuel ih =>
    by_cases hs : l.length ≤ k + 1
    · rw [groups_short hs, Nat.div_eq_of_lt (by omega)]
      rfl
    · rw [groups_long (by omega), List.length_cons, ih (by rw [List.length_drop]; omega) (drop_length_le hf),
        List.length_drop]
      have split : l.length - 1 = (l.length - (k + 1) - 1) + (k + 1) := by omega
      rw [split, Nat.add_div_right _ (by omega)]

/-- Each group is the next `k + 1` members, the last those left. -/
theorem groups_getElem {fuel : Nat} {l g : List α} {j : Nat} (h : 0 < l.length) (hf : l.length ≤ (k + 1) * fuel)
    (hg : (groups k fuel l)[j]? = some g) : g = (l.drop ((k + 1) * j)).take (k + 1) := by
  induction fuel generalizing l j with
  | zero => omega
  | succ fuel ih =>
    by_cases hs : l.length ≤ k + 1
    · rw [groups_short hs] at hg
      cases j with
      | zero => simpa [List.take_of_length_le hs] using hg.symm
      | succ j => simp at hg
    · rw [groups_long (by omega)] at hg
      cases j with
      | zero => simpa using hg.symm
      | succ j =>
        rw [ih (by rw [List.length_drop]; omega) (drop_length_le hf) hg, List.drop_drop, Nat.mul_add_one,
          Nat.add_comm (k + 1)]

/-- The groups hold the list's members in order. -/
theorem groups_flatten {fuel : Nat} {l : List α} (h : 0 < l.length) (hf : l.length ≤ (k + 1) * fuel) :
    (groups k fuel l).flatten = l := by
  induction fuel generalizing l with
  | zero => omega
  | succ fuel ih =>
    by_cases hs : l.length ≤ k + 1
    · simp [groups_short hs]
    · rw [groups_long (by omega), List.flatten_cons, ih (by rw [List.length_drop]; omega) (drop_length_le hf),
        List.take_append_drop]

end

/-! ## The frames of a TABLE_READ -/

/-- R1: no record has more than 39 fields. -/
theorem recordFields_le {t r n : Nat} (h : recordFields t r = some n) : n ≤ 39 := by
  unfold recordFields at h
  split at h
  case h_9 => cases h
  all_goals split_ifs at h <;> cases h <;> decide

theorem fieldExists_le {t r f : Nat} (h : fieldExists t r f = true) : 1 ≤ f ∧ f ≤ 39 := by
  unfold fieldExists at h
  split at h
  · rename_i n hn
    have := recordFields_le hn
    simp only [Bool.and_eq_true, decide_eq_true_eq] at h
    omega
  · cases h

/-- R15: what a TABLE_READ's operands must be. -/
theorem readArguments_iff (bank table record first last : Byte) :
    readArguments bank table record first last = true ↔
      bank.toNat ≤ 1 ∧ fieldExists table.toNat record.toNat first.toNat = true ∧
        fieldExists table.toNat record.toNat last.toNat = true ∧ first.toNat ≤ last.toNat := by
  simp [readArguments, and_assoc]

theorem readPairs_length (b : Bank) (t r x y : Nat) : (readPairs b t r x y).length = y + 1 - x := by
  simp [readPairs]

/-- R15: a frame of up to 8 pairs, byte by byte. -/
theorem tableReadFrame_eq (bank table record : Byte) {pairs : List FieldPair} (h : pairs.length ≤ 8) :
    tableReadFrame bank table record pairs =
      [bank, table, record, BitVec.ofNat 8 pairs.length] ++ pairs.flatMap FieldPair.bytes := by
  have small : pairs.length < 256 := by omega
  simp [tableReadFrame, u8, small]

/-- R15: the frames after the first: as many as are needed, eight pairs each, the last those left. -/
theorem laterFrames (bank table record : Byte) {pairs : List FieldPair} (h : 8 < pairs.length)
    (hl : pairs.length ≤ 48) :
    let rest := (groups 7 5 (pairs.drop 8)).map (tableReadFrame bank table record)
    rest.length = (pairs.length - 1) / 8 ∧
    (∀ k d, rest[k]? = some d →
      d = [bank, table, record, BitVec.ofNat 8 (min 8 (pairs.length - 8 * (k + 1)))] ++
        ((pairs.drop (8 * (k + 1))).take 8).flatMap FieldPair.bytes) ∧
    rest.flatMap (List.drop 4) = (pairs.drop 8).flatMap FieldPair.bytes := by
  have some : 0 < (pairs.drop 8).length := by rw [List.length_drop]; omega
  have fuel : (pairs.drop 8).length ≤ (7 + 1) * 5 := by rw [List.length_drop]; omega
  refine ⟨?_, fun k d hd => ?_, ?_⟩
  · rw [List.length_map, groups_length some fuel, List.length_drop]
    omega
  · rw [List.getElem?_map] at hd
    obtain ⟨g, hg, rfl⟩ := Option.map_eq_some_iff.mp hd
    have next : g = (pairs.drop (8 * (k + 1))).take 8 := by
      rw [groups_getElem some fuel hg, List.drop_drop, Nat.mul_add_one, Nat.add_comm (8 * k)]
    have count : g.length = min 8 (pairs.length - 8 * (k + 1)) := by
      rw [next, List.length_take, List.length_drop]
    rw [tableReadFrame_eq bank table record (by omega), count, next]
  · rw [List.flatMap_map]
    change (groups 7 5 (pairs.drop 8)).flatMap (fun g => (id g).flatMap FieldPair.bytes) = _
    rw [← List.flatMap_assoc, List.flatMap_id, groups_flatten some fuel]

/-! ## TABLE_READ -/

/-- R13: a TABLE_READ that names the shadow restarts an owner's timer. -/
def State.readTouched (s : State) (p : PortId) (bank : Byte) (t : State) : State :=
  if bank.toNat = 1 ∧ s.store.owner = some p then
    { t with store := { t.store with ownerTimer := some (s.now + 600000) } } else t

theorem readTouched_cmd (s t : State) (p : PortId) (bank : Byte) : (s.readTouched p bank t).cmd = t.cmd := by
  unfold State.readTouched
  split <;> rfl

theorem readTouched_port (s t : State) (p : PortId) (bank : Byte) : (s.readTouched p bank t).port = t.port := by
  unfold State.readTouched
  split <;> rfl

theorem readTouched_eq (s : State) (p : PortId) (n : Half) (bank : Byte) :
    (if bank.toNat = 1 then
      { s.admitted p n .tableRead with store := (s.admitted p n .tableRead).store.touch p s.now }
    else s.admitted p n .tableRead) = s.readTouched p bank (s.admitted p n .tableRead) := by
  unfold State.readTouched
  by_cases hb : bank.toNat = 1
  · rw [if_pos hb, touch_eq rfl]
    unfold State.touched
    by_cases ho : s.store.owner = some p
    · exact (if_pos ho).trans (if_pos ⟨hb, ho⟩).symm
    · exact (if_neg ho).trans (if_neg (fun h => ho h.2)).symm
  · rw [if_neg hb, if_neg (fun h => hb h.1)]

/-- Whether a port's output drops the next frame does not depend on what its port has counted. -/
theorem admitted_drops (s : State) (p q : PortId) (n : Half) (c : CommandCode) :
    (s.admitted p n c).port.drops q ↔ s.port.drops q := by
  cases q <;> exact Iff.rfl

/-- R15: the pairs that a TABLE_READ copies. -/
def State.readCopy (s : State) (bank table record first last : Byte) : List FieldPair :=
  readPairs (if bank.toNat = 0 then s.store.active else s.store.shadow) table.toNat record.toNat first.toNat last.toNat

/-- R15: a TABLE_READ that its port's context takes. -/
theorem tableRead_taken {s : State} {p : PortId} (n : Half) (bank table record first last : Byte) (h : s.ready p) :
    exec (.tableRead p n bank table record first last) s = .next
      (if readArguments bank table record first last then
        completeFrames (s.nextRef p)
          ((groups 7 6 (s.readCopy bank table record first last)).map (tableReadFrame bank table record))
          (s.readTouched p bank (s.admitted p n .tableRead))
      else complete (s.nextRef p) .badArgument (s.readTouched p bank (s.admitted p n .tableRead))) := by
  rw [← readTouched_eq]
  exact command_owner h rfl

/-- Settles O9: a bad argument, one frame, or a first frame with the later ones to come. -/
theorem tableReadAnswersCopy : Obligations.TableReadAnswersCopy := by
  intro p n bank table record first last s h touch good copy
  have args := readArguments_iff bank table record first last
  have cmd := readTouched_cmd s (s.admitted p n .tableRead) p bank
  refine ⟨fun bad => ?_, fun ok short => ?_, fun ok long room => ?_⟩
  · rw [tableRead_taken n _ _ _ _ _ h, if_neg (fun ha => bad (args.mp ha)), complete_admitted _ cmd]
    rfl
  · rw [tableRead_taken n _ _ _ _ _ h, if_pos (args.mpr ok)]
    have one : groups 7 6 (s.readCopy bank table record first last) = [copy] := groups_short short
    rw [one, List.map_singleton, completeFrames_one _ cmd]
    rfl
  · have small : copy.length ≤ 48 := by
      obtain ⟨-, lo, hi, -⟩ := ok
      have := (fieldExists_le lo).1
      have := (fieldExists_le hi).2
      have : copy.length = last.toNat + 1 - first.toNat := readPairs_length _ _ _ _ _
      omega
    obtain ⟨count, each, bytes⟩ := laterFrames bank table record long small
    have many : groups 7 6 (s.readCopy bank table record first last) = copy.take 8 :: groups 7 5 (copy.drop 8) :=
      groups_long long
    have noDrop : ¬ (s.readTouched p bank (s.admitted p n .tableRead)).port.drops p := by
      rw [readTouched_port, admitted_drops]
      exact room
    cases hrest : (groups 7 5 (copy.drop 8)).map (tableReadFrame bank table record) with
    | nil =>
      rw [hrest, List.length_nil] at count
      omega
    | cons e rest =>
      rw [hrest] at count each bytes
      refine ⟨e :: rest, List.cons_ne_nil _ _, ?_, count, each, bytes⟩
      rw [tableRead_taken n _ _ _ _ _ h, if_pos (args.mpr ok), many, List.map_cons, hrest,
        completeFrames_many _ _ _ cmd noDrop]
      rfl

end Sys2Proof.Machine
end

section
/-! PROOFS. What an event's report depends on (R128, R138), and the live masks reloaded (R184). -/

namespace Sys2Proof.Machine

/-! ## Two states that report alike -/

/-- The two states agree in all that the Report Unit's work on an event or in a selection pass depends on. -/
structure State.ReportsAlike (s t : State) : Prop where
  rep : s.rep = t.rep
  bank : s.store.active = t.store.active
  level : s.batt.level = t.batt.level
  time : s.time = t.time

namespace State.ReportsAlike

variable {s t u : State}

theorem refl (s : State) : s.ReportsAlike s := ⟨rfl, rfl, rfl, rfl⟩

theorem trans (h : s.ReportsAlike t) (k : t.ReportsAlike u) : s.ReportsAlike u :=
  ⟨h.rep.trans k.rep, h.bank.trans k.bank, h.level.trans k.level, h.time.trans k.time⟩

theorem withRep (h : s.ReportsAlike t) (r : ReportUnit) : { s with rep := r }.ReportsAlike { t with rep := r } :=
  ⟨rfl, h.bank, h.level, h.time⟩

theorem sendEntry (h : s.ReportsAlike t) (e : ReportEntry) : (sendEntry e s).ReportsAlike (sendEntry e t) := by
  refine ⟨?_, h.bank, h.level, h.time⟩
  unfold Machine.sendEntry
  rw [h.rep]

/-- R138: the selection looks at the queue and the supply level. -/
theorem selectionPass (h : s.ReportsAlike t) : (selectionPass s).ReportsAlike (selectionPass t) := by
  unfold Machine.selectionPass
  rw [h.rep, h.level]
  split
  · exact h.withRep _
  · split
    · exact h.sendEntry _
    · exact h.withRep _

theorem selectionIfOpen (h : s.ReportsAlike t) : (selectionIfOpen s).ReportsAlike (selectionIfOpen t) := by
  unfold Machine.selectionIfOpen
  rw [h.rep]
  split
  · exact h.selectionPass
  · exact h

/-- R136: a NOTICE goes to the crew port, and changes no report. -/
theorem sendNotice (h : s.ReportsAlike t) (e : ReportEntry) : (sendNotice e s).ReportsAlike (sendNotice e t) := by
  have apart : ∀ u : State, (Machine.sendNotice e u).ReportsAlike u := by
    intro u
    unfold Machine.sendNotice
    split <;> exact ⟨rfl, rfl, rfl, rfl⟩
  exact (apart s).trans (h.trans ⟨(apart t).rep.symm, (apart t).bank.symm, (apart t).level.symm, (apart t).time.symm⟩)

theorem placeEntry (h : s.ReportsAlike t) (k : EventKind) (p : Priority) (body : List Byte) (r : ReportUnit) :
    (placeEntry k p body r s).ReportsAlike (placeEntry k p body r t) := by
  have entry : ∀ n, newEntry s k p body n = newEntry t k p body n := by
    intro n
    unfold newEntry
    rw [h.time, h.bank]
  unfold Machine.placeEntry
  rw [h.rep, entry]
  exact ((h.withRep _).sendNotice _).selectionIfOpen

/-- R128: an event is reported alike. -/
theorem raise (h : s.ReportsAlike t) (k : EventKind) (body : List Byte) :
    (raise k body s).ReportsAlike (raise k body t) := by
  refine ⟨?_, h.bank, h.level, h.time⟩
  unfold Machine.raise
  rw [State.onlyReport_rep, State.onlyReport_rep, h.bank, h.rep]
  split
  · exact h.rep
  · split
    · exact (h.placeEntry _ _ _ _).rep
    · split
      · exact (h.placeEntry _ _ _ _).rep
      · rfl

theorem raises (h : s.ReportsAlike t) (l : List EventKind) :
    (l.foldl (fun u k => Machine.raise k [] u) s).ReportsAlike (l.foldl (fun u k => Machine.raise k [] u) t) := by
  induction l generalizing s t with
  | nil => exact h
  | cons k rest ih => exact ih (h.raise k [])

end State.ReportsAlike

/-! ## A member of one maskable input -/

section
variable {α : Type}

@[simp] theorem MaskInput.get_set (i j : MaskInput) (v : PerMask α) (x : α) :
    j.get (i.set v x) = if j = i then x else j.get v := by
  cases i <;> cases j <;> rfl

theorem MaskInput.ext_get {v w : PerMask α} (h : ∀ i : MaskInput, i.get v = i.get w) : v = w := by
  obtain ⟨a, b, c, d, e, f⟩ := v
  obtain ⟨a', b', c', d', e', f'⟩ := w
  obtain rfl : a = a' := h .holdLever
  obtain rfl : b = b' := h .manualTrip
  obtain rfl : c = c' := h .door
  obtain rfl : d = d' := h .acPresent
  obtain rfl : e = e' := h .crewPresent
  obtain rfl : f = f' := h .radioReady
  rfl

end

/-! ## One live mask set -/

/-- R184: the mask is enabled by this setting while its input is active. -/
def State.turnsOn (s : State) (m : PerMask Bool) (i : MaskInput) : Bool :=
  !i.get s.line.masks && i.get m && decide ((i.get s.line.filters.cabinet).accepted = .active)

/-- R184: what setting live masks may change is the Line Unit and the reports. -/
def State.alikeButLine (s t : State) : Prop := t = { s with line := t.line, rep := t.rep, port := t.port }

theorem State.alikeButLine.trans {s t u : State} (h : s.alikeButLine t) (k : t.alikeButLine u) :
    s.alikeButLine u := by
  unfold State.alikeButLine at *
  rw [h] at k
  exact k

/-- The Line Unit after one mask is set. -/
def LineUnit.withMask (l : LineUnit) (i : MaskInput) (on flags : Bool) : LineUnit :=
  let masked := { l with masks := i.set l.masks on }
  if flags then masked.setFlags i else masked

/-- R184: one mask set, with its flags and its event where it turns on. -/
theorem setMask_eq (i : MaskInput) (m : PerMask Bool) (s : State) :
    setMask i (i.get m) s =
      ((if s.turnsOn m i then i.event true else none).toList).foldl (fun u k => raise k [] u)
        { s with line := s.line.withMask i (i.get m) (s.turnsOn m i) } := by
  unfold setMask
  by_cases h : s.turnsOn m i = true
  · have cond : i.get s.line.masks = false ∧ i.get m = true ∧ (i.get s.line.filters.cabinet).accepted = .active := by
      simpa [State.turnsOn, and_assoc] using h
    rw [if_pos cond, if_pos h, h, lineEffect, if_pos rfl, raiseLineEvent]
    cases i.event true <;> rfl
  · have cond :
        ¬ (i.get s.line.masks = false ∧ i.get m = true ∧ (i.get s.line.filters.cabinet).accepted = .active) := by
      simpa [State.turnsOn, and_assoc] using h
    rw [if_neg cond, if_neg h, (Bool.not_eq_true _).mp h]
    rfl

/-- Events change no block but the Report Unit and the ports. -/
theorem raises_eq (l : List EventKind) (s : State) :
    l.foldl (fun u k => raise k [] u) s = s.onlyReport (l.foldl (fun u k => raise k [] u) s) := by
  induction l generalizing s with
  | nil => rfl
  | cons k rest ih =>
    rw [List.foldl_cons, ih]
    rfl

theorem setMask_alike (i : MaskInput) (m : PerMask Bool) (s : State) :
    s.alikeButLine (setMask i (i.get m) s) := by
  rw [setMask_eq, raises_eq]
  rfl

theorem setMask_line (i : MaskInput) (m : PerMask Bool) (s : State) :
    (setMask i (i.get m) s).line = s.line.withMask i (i.get m) (s.turnsOn m i) := by
  rw [setMask_eq, raises_eq]
  rfl

@[simp] theorem LineUnit.withMask_filters (l : LineUnit) (i : MaskInput) (on flags : Bool) :
    (l.withMask i on flags).filters = l.filters := by
  cases flags <;> rfl

@[simp] theorem LineUnit.withMask_masks (l : LineUnit) (i : MaskInput) (on flags : Bool) :
    (l.withMask i on flags).masks = i.set l.masks on := by
  cases flags <;> rfl

theorem LineUnit.withMask_flags (l : LineUnit) (i j : MaskInput) (on flags : Bool) (p : PortId) :
    j.get ((l.withMask i on flags).flags p) = (j.get (l.flags p) || (decide (j = i) && flags)) := by
  cases flags
  · simpa using congrArg j.get (show (l.withMask i on false).flags p = l.flags p by cases p <;> rfl)
  · have set : (l.withMask i on true).flags p = i.set (l.flags p) true := by cases p <;> rfl
    rw [set, MaskInput.get_set]
    by_cases h : j = i <;> simp [h]

/-- Setting one mask leaves open whether another turns on. -/
theorem setMask_turnsOn {i j : MaskInput} (h : j ≠ i) (m : PerMask Bool) (s : State) :
    (setMask i (i.get m) s).turnsOn m j = s.turnsOn m j := by
  unfold State.turnsOn
  rw [setMask_line, LineUnit.withMask_masks, LineUnit.withMask_filters, MaskInput.get_set, if_neg h]

/-! ## Live masks set in order -/

/-- R184: masks set in the order of a list. -/
def setMasksOf (m : PerMask Bool) (l : List MaskInput) (s : State) : State :=
  l.foldl (fun u i => setMask i (i.get m) u) s

/-- R184: the events of the masks that turn on. -/
def State.maskEvents (s : State) (m : PerMask Bool) (l : List MaskInput) : List EventKind :=
  l.filterMap fun i => if s.turnsOn m i then i.event true else none

/-- R183: the maskable inputs in their order. -/
def MaskInput.all : List MaskInput := [.holdLever, .manualTrip, .door, .acPresent, .crewPresent, .radioReady]

theorem MaskInput.mem_all (i : MaskInput) : i ∈ MaskInput.all := by cases i <;> decide

theorem setMasks_eq (m : PerMask Bool) (s : State) : setMasks m s = setMasksOf m MaskInput.all s := rfl

theorem setMasksOf_alike (m : PerMask Bool) (l : List MaskInput) (s : State) :
    s.alikeButLine (setMasksOf m l s) := by
  induction l generalizing s with
  | nil => rfl
  | cons i rest ih => exact (setMask_alike i m s).trans (ih _)

theorem setMasksOf_filters (m : PerMask Bool) (l : List MaskInput) (s : State) :
    (setMasksOf m l s).line.filters = s.line.filters := by
  induction l generalizing s with
  | nil => rfl
  | cons i rest ih =>
    refine (ih _).trans ?_
    rw [setMask_line, LineUnit.withMask_filters]

theorem setMasksOf_masks (m : PerMask Bool) (l : List MaskInput) (s : State) (j : MaskInput) :
    j.get (setMasksOf m l s).line.masks = if j ∈ l then j.get m else j.get s.line.masks := by
  induction l generalizing s with
  | nil => rfl
  | cons i rest ih =>
    refine (ih _).trans ?_
    rw [setMask_line, LineUnit.withMask_masks, MaskInput.get_set]
    by_cases here : j = i
    · simp [here]
    · simp [here]

/-- R184: a mask that turns on sets its input's flag in both ports' sets. -/
theorem setMasksOf_flags (m : PerMask Bool) {l : List MaskInput} (distinct : l.Nodup) (s : State) (j : MaskInput)
    (p : PortId) :
    j.get ((setMasksOf m l s).line.flags p) = (j.get (s.line.flags p) || (decide (j ∈ l) && s.turnsOn m j)) := by
  induction l generalizing s with
  | nil => simp [setMasksOf]
  | cons i rest ih =>
    obtain ⟨once, distinct⟩ := List.nodup_cons.mp distinct
    refine (ih distinct _).trans ?_
    rw [setMask_line, LineUnit.withMask_flags]
    by_cases here : j = i
    · subst here
      simp [once]
    · rw [setMask_turnsOn here]
      simp [here]

/-- R184: the reports are those of the events, in the order of the masks. -/
theorem setMasksOf_reports (m : PerMask Bool) {l : List MaskInput} (distinct : l.Nodup) (s : State) :
    (setMasksOf m l s).ReportsAlike ((s.maskEvents m l).foldl (fun u k => raise k [] u) s) := by
  induction l generalizing s with
  | nil => exact .refl s
  | cons i rest ih =>
    obtain ⟨once, distinct⟩ := List.nodup_cons.mp distinct
    have later : (setMask i (i.get m) s).maskEvents m rest = s.maskEvents m rest :=
      List.filterMap_congr fun j hj => by rw [setMask_turnsOn (ne_of_mem_of_not_mem hj once)]
    have events : s.maskEvents m (i :: rest) =
        (if s.turnsOn m i then i.event true else none).toList ++ s.maskEvents m rest := by
      unfold State.maskEvents
      rw [List.filterMap_cons]
      cases (if s.turnsOn m i then i.event true else none) <;> rfl
    have first : (setMask i (i.get m) s).ReportsAlike
        ((if s.turnsOn m i then i.event true else none).toList.foldl (fun u k => raise k [] u) s) := by
      rw [setMask_eq]
      have only : ∀ x, { s with line := x }.ReportsAlike s := fun _ => ⟨rfl, rfl, rfl, rfl⟩
      exact (only _).raises _
    rw [events, List.foldl_append, ← later]
    exact (ih distinct _).trans (first.raises _)

end Sys2Proof.Machine
end

section
/-! PROOFS. The exchange of the banks carried out (R19, R20). -/

namespace Sys2Proof.Machine

/-! ## The settings image requested -/

/-- R21, R22: the settings image's write starts, capturing the active bank, or waits behind the write in flight. -/
def SettingStore.requested (st : SettingStore) : SettingStore :=
  if st.inFlight = none then { st with inFlight := some (.settings st.active), nv := { st.nv with settings := none } }
  else { st with waiting := st.waiting ++ [.settings] }

theorem requestWrite_settings {s : State} (h : ImageId.settings ∉ s.store.waiting) :
    requestWrite .settings s = { s with store := s.store.requested } := by
  unfold requestWrite SettingStore.requested
  by_cases idle : s.store.inFlight = none
  · rw [if_pos idle, if_pos (Option.isNone_iff_eq_none.mpr idle)]
    rfl
  · rw [if_neg idle, if_neg (fun x => idle (Option.isNone_iff_eq_none.mp x)), if_neg h]

theorem requested_keeps (st : SettingStore) :
    st.requested.active = st.active ∧ st.requested.shadow = st.shadow ∧ st.requested.owner = st.owner ∧
      st.requested.ownerTimer = st.ownerTimer ∧ st.requested.swapWaiter = st.swapWaiter := by
  unfold SettingStore.requested
  split <;> exact ⟨rfl, rfl, rfl, rfl, rfl⟩

theorem requested_idle {st : SettingStore} (h : st.inFlight = none) :
    st.requested.inFlight = some (.settings st.active) := by
  unfold SettingStore.requested
  rw [if_pos h]

theorem requested_busy {st : SettingStore} (h : st.inFlight ≠ none) :
    st.requested.inFlight = st.inFlight ∧ st.requested.waiting = st.waiting ++ [.settings] := by
  unfold SettingStore.requested
  rw [if_neg h]
  exact ⟨rfl, rfl⟩

/-! ## The new bank taken (R20) -/

/-- R20: the Battery Unit under a new bank. -/
theorem battery_takes (old new : Bank) (now : Nat) (b : Battery) :
    (b.rescale old new).reschedule old new now =
      { b with
        coulomb := if old.capacity = new.capacity then b.coulomb else b.coulomb * new.fullCount / old.fullCount
        estimated := b.estimated || decide (old.capacity ≠ new.capacity)
        nextDue := if old.testInterval = new.testInterval then b.nextDue
          else if new.testInterval = 0 then none else some (now + new.testInterval) } := by
  unfold Battery.rescale Battery.reschedule dueAfter
  by_cases capacity : old.capacity = new.capacity <;> by_cases interval : old.testInterval = new.testInterval <;>
    simp [capacity, interval]

/-- R20: the Report Unit's budget and periodic timer under a new bank. -/
def ReportUnit.takes (old new : Bank) (now : Nat) (r : ReportUnit) : ReportUnit :=
  { r with
    budget := min r.budget new.budgetCeiling
    periodicTimer := if old.periodicPeriod = new.periodicPeriod then r.periodicTimer
      else if new.periodicPeriod = 0 then none else some (now + new.periodicPeriod) }

/-- R20: a new bank works on the Battery Unit, the Report Unit and the ports. -/
theorem takeBank_blocks (old : Bank) (s : State) :
    takeBank old s = { s with
      rep := (takeBank old s).rep, port := (takeBank old s).port,
      batt := (s.batt.rescale old s.store.active).reschedule old s.store.active s.now } := by
  unfold takeBank
  rfl

theorem takeBank_rep (old : Bank) (s : State) :
    (takeBank old s).rep =
      (selectionIfOpen { s with rep := s.rep.takes old s.store.active s.now }).rep := by
  unfold takeBank reportTakesBank
  rfl

theorem selectionIfOpen_blocks (s : State) : selectionIfOpen s = s.onlyReport (selectionIfOpen s) := by
  unfold selectionIfOpen selectionPass
  split
  · split
    · rfl
    · split <;> rfl
  · rfl

/-! ## The exchange (R19) -/

/-- R19 steps 1 to 3: the banks exchanged, and the new one taken by each block but the Line Unit. -/
def State.adopted (s : State) : State := takeBank s.store.active { s with store := s.store.exchange }

theorem adopted_blocks (s : State) :
    s.adopted = { s with
      store := s.store.exchange, rep := s.adopted.rep, port := s.adopted.port,
      batt := (s.batt.rescale s.store.active s.store.shadow).reschedule s.store.active s.store.shadow s.now } :=
  takeBank_blocks _ _

/-- R20, R138: the shadow taken by the Report Unit alone: budget and periodic timer, then a selection pass. -/
def State.takenReports (s : State) : State :=
  selectionIfOpen { s with
    store := { s.store with active := s.store.shadow },
    rep := s.rep.takes s.store.active s.store.shadow s.now }

theorem adopted_reports (s : State) :
    s.adopted.ReportsAlike s.takenReports := by
  unfold State.takenReports
  have level : s.adopted.batt.level = s.batt.level := by
    rw [adopted_blocks, battery_takes]
  refine ⟨?_, ?_, ?_, ?_⟩
  · refine (takeBank_rep _ _).trans (State.ReportsAlike.rep (State.ReportsAlike.selectionIfOpen ?_))
    exact ⟨rfl, rfl, rfl, rfl⟩
  · rw [adopted_blocks, selectionIfOpen_blocks]
    rfl
  · rw [level, selectionIfOpen_blocks]
    rfl
  · rw [adopted_blocks, selectionIfOpen_blocks]
    rfl

/-- R19 step 4: the live masks reloaded from the new bank. -/
def State.remasked (s : State) : State := setMasksOf s.store.shadow.lineMasks MaskInput.all s.adopted

theorem remasked_blocks (s : State) :
    s.remasked = { s with
      store := s.store.exchange, rep := s.remasked.rep, port := s.remasked.port, line := s.remasked.line,
      batt := (s.batt.rescale s.store.active s.store.shadow).reschedule s.store.active s.store.shadow s.now } := by
  have alike : s.adopted.alikeButLine s.remasked := setMasksOf_alike _ _ _
  unfold State.alikeButLine at alike
  rw [adopted_blocks] at alike
  exact alike

theorem adopted_line (s : State) : s.adopted.line = s.line := by rw [adopted_blocks]

theorem adopted_turnsOn (s : State) (m : PerMask Bool) (i : MaskInput) : s.adopted.turnsOn m i = s.turnsOn m i := by
  unfold State.turnsOn
  rw [adopted_line]

theorem remasked_masks (s : State) : s.remasked.line.masks = s.store.shadow.lineMasks :=
  MaskInput.ext_get fun i => (setMasksOf_masks _ _ _ i).trans (if_pos i.mem_all)

theorem remasked_filters (s : State) : s.remasked.line.filters = s.line.filters :=
  (setMasksOf_filters _ _ _).trans (by rw [adopted_line])

theorem remasked_flags (s : State) (i : MaskInput) (p : PortId) :
    i.get (s.remasked.line.flags p) = (i.get (s.line.flags p) || s.turnsOn s.store.shadow.lineMasks i) := by
  refine (setMasksOf_flags _ (by decide) _ i p).trans ?_
  rw [adopted_line, adopted_turnsOn, decide_eq_true i.mem_all, Bool.true_and]

/-- R183: of the inputs whose masks turn on, three have an event. -/
theorem maskEvents_all (s : State) (m : PerMask Bool) :
    s.maskEvents m MaskInput.all =
      [(MaskInput.door, EventKind.doorOpen), (.acPresent, .acRestored), (.crewPresent, .crewAttached)].filterMap
        fun x => if s.turnsOn m x.1 then some x.2 else none := by
  have silent : ∀ b : Bool, (if b then (none : Option EventKind) else none) = none := by decide
  simp only [State.maskEvents, MaskInput.all, MaskInput.event, List.filterMap_cons, List.filterMap_nil, silent]

theorem adopted_maskEvents (s : State) (m : PerMask Bool) (l : List MaskInput) :
    s.adopted.maskEvents m l = s.maskEvents m l := by
  unfold State.maskEvents
  simp only [adopted_turnsOn]

/-- R19 steps 1, 2 and 5: the banks exchanged, ownership released, and a command waiting for the write. -/
def SettingStore.awaiting (st : SettingStore) (r : CmdRef) : SettingStore := { st.exchange with swapWaiter := some r }

/-- R19 step 5: the settings image requested, for which the command waits. -/
theorem swapBanks_eq (r : CmdRef) {s : State} (h : ImageId.settings ∉ s.store.waiting) :
    swapBanks r s = raise .bankSwapped [PortId.code r.port]
      { s.remasked with store := (s.store.awaiting r).requested } := by
  have store : s.remasked.store = s.store.exchange := by rw [remasked_blocks]
  have bank : s.adopted.store.active = s.store.shadow := by rw [adopted_blocks]; rfl
  have asked : swapBanks r s = raise .bankSwapped [PortId.code r.port] (requestWrite .settings
      { s.remasked with store := { s.remasked.store with swapWaiter := some r } }) := by
    unfold State.remasked
    rw [← bank, ← setMasks_eq]
    rfl
  rw [asked, store]
  exact congrArg (raise .bankSwapped _) (requestWrite_settings h)

/-- R18, R19: a BANK_SWAP that no condition refuses is carried out. -/
theorem bankSwap_taken {s : State} {p : PortId} (n : Half) (h : s.ready p) (bar : swapBar p s = none)
    (waiting : ImageId.settings ∉ s.store.waiting) :
    exec (.bankSwap p n) s = .next (raise .bankSwapped [PortId.code p]
      { (s.admitted p n .bankSwap).remasked with
        store := (s.store.awaiting (s.nextRef p)).requested }) := by
  have barred : swapBar (s.nextRef p).port (s.admitted p n .bankSwap) = none := bar
  refine (command_owner h rfl).trans (congrArg Host.Outcome.next ?_)
  rw [bankSwapTaken, barred]
  exact swapBanks_eq (s.nextRef p) (s := s.admitted p n .bankSwap) waiting

/-- R18: no condition holds. -/
theorem swapBar_none {p : PortId} {s : State} (owner : s.store.owner ≠ some (PortId.other p))
    (seq : s.seq.state = .reset ∨ s.seq.state = .lockout)
    (poles : ∀ q, (s.poleRec q).mech = .idle ∨ (s.poleRec q).mech = .failed) (close : s.holds.close = none)
    (elements : ∀ x, (s.prot.elements.get x).state = .idle) (test : s.batt.test = none)
    (flying : s.store.inFlight.map ImageWrite.image ≠ some .settings) (waiting : ImageId.settings ∉ s.store.waiting)
    (valid : validate s.store.shadow = none) : swapBar p s = none := by
  have still : ¬ s.poles.pole.toList.any (fun r => decide (r.mech ≠ .idle ∧ r.mech ≠ .failed)) = true := by
    have a := poles .a
    have b := poles .b
    have c := poles .c
    simp only [State.poleRec, PerPole.get] at a b c
    simp only [PerPole.toList, List.any_cons, List.any_nil, Bool.or_false, Bool.or_eq_true, decide_eq_true_eq]
    tauto
  have idle : ¬ s.prot.elements.toList.any (fun e => decide (e.state ≠ .idle)) = true := by
    have a := elements .a
    have b := elements .b
    have c := elements .c
    have g := elements .g
    simp only [PerChannel.get] at a b c g
    simp [PerChannel.toList, a, b, c, g]
  have notClosing : ¬ s.holds.close.isSome = true := by simp [close]
  have notTesting : ¬ s.batt.test.isSome = true := by simp [test]
  rw [swapBar_eq, if_neg owner, if_neg (by tauto), if_neg still, if_neg notClosing, if_neg idle, if_neg notTesting,
    if_neg (not_or.mpr ⟨flying, waiting⟩), shadowBar, valid]

/-- R20, R138, R184, R19: the reports after the exchange, whatever the store has been asked to write. -/
theorem remasked_reports (s : State) {st : SettingStore} (h : st.active = s.store.shadow) (body : List Byte) :
    (raise .bankSwapped body { s.remasked with store := st }).rep =
      (raise .bankSwapped body ((s.maskEvents s.store.shadow.lineMasks MaskInput.all).foldl (fun u k => raise k [] u)
        s.takenReports)).rep := by
  have asked : State.ReportsAlike { s.remasked with store := st } s.remasked := by
    refine ⟨rfl, ?_, rfl, rfl⟩
    rw [remasked_blocks]
    exact h
  have events := setMasksOf_reports s.store.shadow.lineMasks (l := MaskInput.all) (by decide) s.adopted
  rw [adopted_maskEvents] at events
  exact ((asked.trans (events.trans ((adopted_reports s).raises _))).raise _ _).rep

/-- Settles O12: the store, the Line Unit, the context, the Battery Unit and the reports in turn. -/
theorem bankSwapExchanges : Obligations.BankSwapExchanges := by
  intro p n s h owner seq poles close elements test flying waiting valid
  have bar := swapBar_none owner seq poles close elements test flying waiting valid
  obtain ⟨active, shadow, owned, timer, waiter⟩ :=
    requested_keeps (s.store.awaiting (s.nextRef p))
  have blocks := remasked_blocks (s.admitted p n .bankSwap)
  have code : PortId.code p = if p = .radio then 0 else 1 := by cases p <;> rfl
  refine ⟨_, bankSwap_taken n h bar waiting, active, shadow, owned, timer, waiter,
    requested_idle (st := s.store.awaiting (s.nextRef p)), requested_busy (st := s.store.awaiting (s.nextRef p)),
    remasked_masks _, remasked_filters _, ?_, ⟨?_, ?_, fun i => ⟨remasked_flags _ i .radio, remasked_flags _ i .crew⟩⟩,
    ?_, ?_, ?_, ?_, ?_, ?_⟩
  · rw [raise_cmd, congrArg State.cmd blocks]
    exact admitted_ctx s p n .bankSwap
  · rw [raise_batt, congrArg State.batt blocks]
    exact battery_takes _ _ _ _
  · rw [← code]
    have reports := remasked_reports (s.admitted p n .bankSwap) active [PortId.code p]
    rw [maskEvents_all] at reports
    have taken : State.ReportsAlike (s.admitted p n .bankSwap).takenReports s.takenReports :=
      State.ReportsAlike.selectionIfOpen ⟨rfl, rfl, rfl, rfl⟩
    exact reports.trans ((taken.raises _).raise _ _).rep
  · exact (congrArg State.seq blocks :)
  · exact (congrArg State.prot blocks :)
  · exact (congrArg State.poles blocks :)
  · exact (congrArg (·.holds.slots) blocks :)
  · exact (congrArg (·.holds.lever) blocks :)
  · exact (congrArg State.time blocks :)

end Sys2Proof.Machine
end

section
/-! PROOFS. One element in one frame (R31, R34, R35), the curve time (R33), and the loss of the link (R27). -/

namespace Sys2Proof.Machine

/-! ## One step of an element (R31) -/

/-- R31: at the pickup or above, an element that has not operated integrates. -/
theorem Element.step_pickup (b : Bank) (c : CurveInForce) {p m : Nat} (e : Element) (h : p ≤ m) :
    e.step b c p m =
      if e.state = .operated then { element := e, clamped := false } else e.integrate (scaledTime b c m p) := by
  unfold Element.step
  cases hs : e.state <;> simp [h]

/-- R31: below the pickup, an element decays from RESETTING, and from TIMING below the dropout as well. -/
theorem Element.step_below (b : Bank) (c : CurveInForce) {p m : Nat} (e : Element) (h : m < p) :
    e.step b c p m =
      if e.state = .resetting ∨ (e.state = .timing ∧ m < dropout p) then e.decay (b.resetTime c.curve)
      else { element := e, clamped := false } := by
  have below : ¬ p ≤ m := Nat.not_le.mpr h
  unfold Element.step
  cases hs : e.state with
  | timing => by_cases hd : dropout p ≤ m <;> simp [below, hd, Nat.not_lt.mpr, Nat.not_le.mp]
  | idle => simp [below]
  | resetting => simp [below]
  | operated => simp

/-- R34: integration judges the sum against 2^30; below 2 ms the time is raised, which is the clamp. -/
theorem Element.integrate_cases (e : Element) (t : Nat) :
    ((e.integrate t).clamped = true ↔ t < 2) ∧
    (e.integrate t).element =
      if 2 ^ 30 ≤ e.acc + 2 ^ 31 / max t 2 then { e with state := .operated, acc := 2 ^ 30, byTime := true }
      else { e with state := .timing, acc := e.acc + 2 ^ 31 / max t 2 } := by
  unfold Element.integrate fullAccumulator
  norm_num
  split <;> simp

/-- R34: the time that integration uses. -/
theorem max_two_eq (t : Nat) : max t 2 = if t < 2 then 2 else t := by
  split <;> omega

/-- Settles O14: the band decides between the two step lemmas; the sum decides integration. -/
theorem elementStepByBand : Obligations.ElementStepByBand := by
  refine ⟨fun b c p m e => ⟨fun h => Element.step_pickup b c e h, fun low high => ?_, fun low high => ?_⟩,
    fun e t => ?_⟩
  · have timing : ¬ m < dropout p := Nat.not_lt.mpr low
    simp [Element.step_below b c e high, timing]
  · have timing : m < dropout p := low
    simp [Element.step_below b c e high, timing, or_comm]
  · obtain ⟨clamped, element⟩ := Element.integrate_cases e t
    rw [max_two_eq] at element
    exact ⟨clamped, fun full => element.trans (if_pos full), fun less => element.trans (if_neg (Nat.not_le.mpr less))⟩

/-- R35, R11: every curve of the default bank resets in 1,000 ms. -/
theorem defaultBank_resetTime : ∀ c < 8, defaultBank.resetTime c = 1000 := by decide +kernel

/-- Settles O15: the fall of one frame, and 2^30 against 501 falls of 2^31 over 1,000. -/
theorem decayLowersAccumulator : Obligations.DecayLowersAccumulator := by
  intro e r
  refine ⟨rfl, rfl, rfl, rfl, rfl, ?_, defaultBank_resetTime⟩
  rintro rfl
  decide

/-! ## The curve time (R33) -/

/-- R33: at the first point's multiple or below, its time. -/
theorem curveTime_first (x : Nat × Nat) (rest : List (Nat × Nat)) {m : Nat} (h : m ≤ x.1) :
    curveTime (x :: rest) m = x.2 := by
  cases rest with
  | nil => rfl
  | cons y rest => exact if_pos h

/-- R33: the points whose multiples are passed have no part in the curve time. -/
theorem curveTime_passed {front rest : List (Nat × Nat)} {x : Nat × Nat} {m : Nat}
    (rising : (front ++ x :: rest).Pairwise fun y z => y.1 < z.1) (h : x.1 ≤ m) :
    curveTime (front ++ x :: rest) m = curveTime (x :: rest) m := by
  have skip : ∀ (w v : Nat × Nat) (l : List (Nat × Nat)), w.1 < v.1 → v.1 ≤ m →
      curveTime (w :: v :: l) m = curveTime (v :: l) m := by
    intro w v l hw hv
    exact (if_neg (by omega)).trans (if_neg (by omega))
  induction front with
  | nil => rfl
  | cons w front ih =>
    obtain ⟨above, later⟩ := List.pairwise_cons.mp rising
    refine Eq.trans ?_ (ih later)
    cases front with
    | nil => exact skip w x rest (above x (by simp)) h
    | cons v front =>
      have hv : v.1 < x.1 := (List.pairwise_cons.mp later).1 x (by simp)
      exact skip w v _ (above v (by simp)) (by omega)

/-- R33: the chopped straight line between the first two points. -/
theorem curveTime_between {x y : Nat × Nat} (rest : List (Nat × Nat)) {m : Nat} (rising : x.1 < y.1)
    (falling : y.2 ≤ x.2) (low : x.1 ≤ m) (high : m ≤ y.1) :
    curveTime (x :: y :: rest) m = y.2 + (x.2 - y.2) * (y.1 - m) / (y.1 - x.1) := by
  obtain rfl | above := Nat.eq_or_lt_of_le low
  · rw [curveTime_first x (y :: rest) le_rfl, Nat.mul_div_cancel _ (by omega)]
    omega
  · obtain rfl | below := Nat.eq_or_lt_of_le high
    · have last : curveTime ([x] ++ y :: rest) y.1 = y.2 :=
        ((if_neg (by omega)).trans (if_neg (by omega))).trans (curveTime_first y rest le_rfl)
      simpa using last
    · exact (if_neg (by omega)).trans (if_pos below)

/-- Settles O16: the points passed fall away, and the first points that remain decide. -/
theorem curveTimeInterpolates : Obligations.CurveTimeInterpolates := by
  intro points m rising falling
  have sorted : points.Pairwise fun y z => y.1 < z.1 :=
    List.isChain_iff_pairwise.mp (List.isChain_iff_getElem.mpr rising)
  refine ⟨?_, ?_, ?_⟩
  · rintro x rest rfl h
    exact curveTime_first x rest h
  · rintro front x rfl h
    exact curveTime_passed sorted h
  · rintro front x y back rfl low high
    have next : x.1 < y.1 := (List.pairwise_cons.mp (List.pairwise_append.mp sorted).2.1).1 y (by simp)
    have lower : y.2 ≤ x.2 := by simpa using falling front.length (by simp)
    rw [curveTime_passed sorted low]
    exact curveTime_between back next lower low high

/-! ## The loss of the link (R27) -/

/-- Settles O19: the link is lost, and nothing but LINK_LOST follows. -/
theorem linkTimerLosesLink : Obligations.LinkTimerLosesLink := by
  intro s h
  refine ⟨s.prot.loseLink, expires_run (f := (·.prot.linkTimer)) h, rfl, rfl, rfl, rfl, rfl, ?_, rfl, rfl, rfl⟩
  intro x
  cases x <;> rfl

end Sys2Proof.Machine
end

section
/-! PROOFS. What a MEASURE frame keeps for the record, and that nothing that follows on it in the same step changes that:
the counts of the Port Unit, the link, the latest measurement record and the exception record. -/

namespace Sys2Proof.Machine

/-! ## The ledger: what R24 to R28, R41 and R42 say a frame keeps -/

/-- The port counts, the link with the kept number, the latest measurement record, and the exception record. -/
structure Ledger where
  accepted : PerPort Word
  discarded : PerPort Word
  gaps : Word
  linkUp : Bool
  linkTimer : Timer
  keptNumber : Option Half
  latest : Measurement
  exception : Option ExceptionEntry
  latestFlag : Bool

/-- The port counts of the ledger. -/
def PortUnit.counts (q : PortUnit) : PerPort Word × PerPort Word × Word := (q.accepted, q.discarded, q.gaps)

/-- The ledger of a state. -/
def State.ledger (s : State) : Ledger :=
  { accepted := s.port.accepted, discarded := s.port.discarded, gaps := s.port.gaps, linkUp := s.prot.linkUp,
    linkTimer := s.prot.linkTimer, keptNumber := s.prot.keptNumber, latest := s.prot.latest,
    exception := s.prot.exception, latestFlag := s.prot.latestFlag }

/-- An operation that changes neither the Protection Unit nor the port counts keeps the ledger. -/
theorem ledger_congr {s t : State} (hq : t.port.counts = s.port.counts) (hp : t.prot = s.prot) :
    t.ledger = s.ledger := by
  simp only [PortUnit.counts, Prod.mk.injEq] at hq
  obtain ⟨accepted, discarded, gaps⟩ := hq
  simp only [State.ledger, accepted, discarded, gaps, hp]

/-- The ledger fixes the port counts. -/
theorem counts_of_ledger {s t : State} (h : t.ledger = s.ledger) : t.port.counts = s.port.counts := by
  simp only [State.ledger, Ledger.mk.injEq] at h
  obtain ⟨accepted, discarded, gaps, -⟩ := h
  simp only [PortUnit.counts, accepted, discarded, gaps]

/-! ## The Port Unit's lists and lines -/

@[simp] theorem radioBegin_counts (q : PortUnit) : q.radioBegin.counts = q.counts := by
  unfold PortUnit.radioBegin
  split
  · rfl
  · split
    · rfl
    · split <;> rfl

@[simp] theorem crewBegin_counts (q : PortUnit) : q.crewBegin.counts = q.counts := by
  unfold PortUnit.crewBegin
  split
  · rfl
  · split <;> rfl

@[simp] theorem handCrew_counts (q : PortUnit) (f : OutFrame) : (q.handCrew f).1.counts = q.counts := by
  unfold PortUnit.handCrew
  split
  · rfl
  · exact crewBegin_counts _

@[simp] theorem hand_counts (q : PortUnit) (p : PortId) (f : OutFrame) : (q.hand p f).1.counts = q.counts := by
  cases p with
  | crew => exact handCrew_counts q f
  | radio =>
    unfold PortUnit.hand PortUnit.handReply
    dsimp only
    split
    · exact radioBegin_counts _
    · rfl

@[simp] theorem handReport_counts (q : PortUnit) (f : OutFrame) : (q.handReport f).counts = q.counts :=
  radioBegin_counts _

/-! ## Events and answers -/

@[simp] theorem placeEntry_counts (k : EventKind) (p : Priority) (b : List Byte) (r : ReportUnit) (s : State) :
    (placeEntry k p b r s).port.counts = s.port.counts := by
  have pass : ∀ t : State, (selectionIfOpen t).port.counts = t.port.counts := by
    intro t
    unfold selectionIfOpen selectionPass
    split
    · split
      · rfl
      · split
        · exact handReport_counts _ _
        · rfl
    · rfl
  refine (pass _).trans ?_
  unfold sendNotice
  split
  · exact handCrew_counts _ _
  · rfl

@[simp] theorem raise_counts (k : EventKind) (b : List Byte) (s : State) :
    (raise k b s).port.counts = s.port.counts := by
  unfold raise
  simp only [State.onlyReport_port]
  split
  · rfl
  · split
    · exact placeEntry_counts _ _ _ _ _
    · split
      · exact placeEntry_counts _ _ _ _ _
      · rfl

@[simp] theorem complete_counts (r : CmdRef) (a : Answer) (s : State) :
    (complete r a s).port.counts = s.port.counts := by
  unfold complete
  simp only [State.onlyAnswer_port]
  split
  · split
    · rfl
    · exact hand_counts _ _ _
  · rfl

@[simp] theorem raise_ledger (k : EventKind) (b : List Byte) (s : State) : (raise k b s).ledger = s.ledger :=
  ledger_congr (raise_counts k b s) rfl

@[simp] theorem complete_ledger (r : CmdRef) (a : Answer) (s : State) : (complete r a s).ledger = s.ledger :=
  ledger_congr (complete_counts r a s) rfl

@[simp] theorem withSeq_ledger (s : State) (q : Sequence) : (s.withSeq q).ledger = s.ledger := rfl

@[simp] theorem withPole_ledger (s : State) (p : Pole) (r : PoleRecord) : (s.withPole p r).ledger = s.ledger := rfl

/-! ## The load test and the operator close record -/

@[simp] theorem answerTest_ledger (o : TestOrigin) (a : Answer) (s : State) :
    (answerTest o a s).ledger = s.ledger := by
  cases o
  · rfl
  · exact complete_ledger _ _ _

@[simp] theorem abortTest_ledger (c : TestCause) (s : State) : (abortTest c s).ledger = s.ledger := by
  refine ledger_congr ?_ rfl
  unfold abortTest
  simp only [State.onlyBattery_port]
  cases h : s.batt.test with
  | none => rfl
  | some x =>
    have retry : ∀ t : State, (startRetry x.origin (chargerLeavesTest t)).port.counts = t.port.counts := by
      intro t
      unfold startRetry chargerLeavesTest raiseChargerFault
      split <;> split <;> simp
    dsimp only
    split
    · exact (raise_counts _ _ _).trans (retry _)
    · exact (counts_of_ledger (answerTest_ledger _ _ _)).trans ((raise_counts _ _ _).trans (retry _))

@[simp] theorem cancelWarning_ledger (x : Reason) (s : State) : (cancelWarning x s).ledger = s.ledger := by
  refine ledger_congr ?_ rfl
  unfold cancelWarning raiseCloseRefused
  simp only [State.onlyClose_port]
  split
  · split
    · simp
    · rfl
  · rfl

@[simp] theorem closeEnds_ledger (o : CloseOutcome) (x : PerPole (Option OpOutcome)) (s : State) :
    (closeEnds o x s).ledger = s.ledger := by
  refine ledger_congr ?_ rfl
  unfold closeEnds
  simp only [State.onlyClose_port]
  split
  · exact complete_counts _ _ _
  · rfl

@[simp] theorem handCloseOutcome_ledger (o : CloseOutcome) (s : State) :
    (handCloseOutcome o s).ledger = s.ledger := by
  unfold handCloseOutcome
  split
  · split
    · exact closeEnds_ledger _ _ _
    · rfl
  · rfl

@[simp] theorem tripNotice_ledger (s : State) : (tripNotice s).ledger = s.ledger :=
  ledger_congr ((counts_of_ledger (cancelWarning_ledger _ _)).trans (counts_of_ledger (abortTest_ledger .trip s))) rfl

/-! ## Orders and the end of TRIPPING -/

@[simp] theorem orderTrips_ledger (m : PoleMask) (s : State) : (orderTrips m s).1.ledger = s.ledger := by
  have one : ∀ (acc : State × List Completion) (p : Pole),
      (if m.get p then ((orderTrip p acc.1).1, acc.2 ++ (orderTrip p acc.1).2) else acc).1.ledger = acc.1.ledger := by
    intro acc p
    split
    · exact tripNotice_ledger acc.1
    · rfl
  exact ((one _ .c).trans (one _ .b)).trans (one _ .a)

@[simp] theorem enterLockout_ledger (c : LockoutCause) (o : FaultOutcome) (s : State) :
    (enterLockout c o s).ledger = s.ledger :=
  ledger_congr (raise_counts _ _ _) rfl

@[simp] theorem raiseTrip_ledger (m : PoleMask) (n : Nat) (r : Half) (e : ElementSet) (c : Option Nat) (s : State) :
    (raiseTrip m n r e c s).ledger = s.ledger := by
  cases c <;> exact raise_ledger _ _ _

@[simp] theorem reportTrip_ledger (s : State) : (reportTrip s).ledger = s.ledger := by
  unfold reportTrip
  split
  · rfl
  · exact raiseTrip_ledger _ _ _ _ _ _

@[simp] theorem trippingEnds_ledger (s : State) : (trippingEnds s).1.ledger = s.ledger := by
  unfold trippingEnds
  dsimp only
  split
  · exact orderTrips_ledger _ _
  · split
    · simp
    · exact reportTrip_ledger s

/-! ## Completions -/

@[simp] theorem operatorTripsTake_ledger (p : Pole) (o : OpOutcome) (s : State) :
    (operatorTripsTake p o s).ledger = s.ledger := by
  have ended : ∀ (l : List OperatorTrip) (t : State), (operatorTripsEnd l t).ledger = t.ledger := by
    intro l
    induction l with
    | nil => exact fun _ => rfl
    | cons x rest ih =>
      refine fun t => (ih _).trans ?_
      unfold operatorTripEnds
      dsimp only
      split <;> split <;> simp
  exact ended _ _

@[simp] theorem raiseMaxima_ledger (s : State) : (raiseMaxima s).ledger = s.ledger := by
  unfold raiseMaxima
  split <;> rfl

/-- R51: a release is no part of the ledger. -/
@[simp] theorem tripCompleted_ledger (p : Pole) (o : OpOutcome) (s : State) :
    (tripCompleted p o s).ledger = s.ledger := by
  unfold tripCompleted
  dsimp only
  split
  · rfl
  · split
    · exact raiseMaxima_ledger _
    · rfl

@[simp] theorem lockoutTripDone_ledger (s : State) : (lockoutTripDone s).ledger = s.ledger := by
  unfold lockoutTripDone
  dsimp only
  split
  · exact raiseTrip_ledger _ _ _ _ _ _
  · rfl

@[simp] theorem endIfSettled_ledger (s : State) : (endIfSettled s).1.ledger = s.ledger := by
  unfold endIfSettled
  split
  · exact trippingEnds_ledger s
  · rfl

@[simp] theorem takeCompletion_ledger (c : Completion) (s : State) : (takeCompletion c s).1.ledger = s.ledger := by
  unfold takeCompletion
  split
  · unfold takeCloseCompletion
    split
    · rfl
    · dsimp only
      split
      · unfold closingEnds
        split
        · split <;> simp
        · rfl
      · simp
  · simp [takeTripCompletion]

@[simp] theorem settled_ledger (x : State × List Completion) : (settled x).ledger = x.1.ledger := by
  have all : ∀ (n : Nat) (l : List Completion) (s : State), (settle n l s).ledger = s.ledger := by
    intro n
    induction n with
    | zero => exact fun _ _ => rfl
    | succ n ih =>
      intro l s
      cases l with
      | nil => rfl
      | cons c rest => exact (ih _ _).trans (takeCompletion_ledger c s)
  exact all _ _ _

/-! ## Operation signals -/

@[simp] theorem orderFault_ledger (m : PoleMask) (s : State) : (orderFault m s).1.ledger = s.ledger :=
  orderTrips_ledger m _

@[simp] theorem beginShot_ledger (n : Nat) (e : ElementSet) (c : Option EndCause) (s : State) :
    (beginShot n e c s).1.ledger = s.ledger :=
  orderFault_ledger _ _

@[simp] theorem startRecord_ledger (n : Nat) (e : ElementSet) (s : State) : (startRecord n e s).ledger = s.ledger := rfl

@[simp] theorem recordSignal_ledger (e : ElementSet) (s : State) : (recordSignal e s).ledger = s.ledger :=
  raiseMaxima_ledger _

@[simp] theorem joinElements_ledger (e : ElementSet) (s : State) : (joinElements e s).ledger = s.ledger := rfl

@[simp] theorem takeSignal_ledger (e : ElementSet) (s : State) : (takeSignal e s).1.ledger = s.ledger := by
  unfold takeSignal
  cases s.seq.state with
  | reset => simp [signalInReset]
  | tripping => simp [signalInTripping]
  | deadTime => simp [signalInDeadTime]
  | closing => simp only [signalInClosing]; split <;> simp
  | reclaim => simp only [signalInReclaim, beginShot_ledger]; split <;> simp
  | lockout => simp [signalInLockout]

@[simp] theorem operationSignal_ledger (e : ElementSet) (s : State) : (operationSignal e s).ledger = s.ledger := by
  have taken : (cancelWarning .sequenceActive (settled (takeSignal e s))).ledger = s.ledger := by simp
  exact taken

/-! ## What a frame hands on -/

@[simp] theorem handPickup_ledger (n : Half) (r : FrameResult) (s : State) : (handPickup n r s).ledger = s.ledger := by
  unfold handPickup
  split
  · dsimp only
    split <;> simp
  · rfl

@[simp] theorem handException_ledger (r : FrameResult) (s : State) : (handException r s).ledger = s.ledger := by
  unfold handException
  split
  · split <;> simp
  · rfl

@[simp] theorem handSignal_ledger (r : FrameResult) (s : State) : (handSignal r s).ledger = s.ledger := by
  unfold handSignal
  split
  · rfl
  · exact operationSignal_ledger _ _

/-- R37, R38, R43: before the operation signal a frame reaches the Battery Unit, the reports and the answers alone. -/
theorem handedOn_eq (n : Half) (r : FrameResult) (s : State) :
    handException r (handPickup n r s) = s.onlyBattery (handException r (handPickup n r s)) := by
  have pickup : handPickup n r s = s.onlyBattery (handPickup n r s) := by
    unfold handPickup
    split
    · dsimp only
      split <;> rfl
    · rfl
  have exception : ∀ t : State, handException r t = t.onlyReport (handException r t) := by
    intro t
    unfold handException
    split
    · split <;> rfl
    · rfl
  rw [exception, pickup]
  rfl

@[simp] theorem handSignal_store (r : FrameResult) (s : State) : (handSignal r s).store = s.store := by
  unfold handSignal
  split <;> rfl

@[simp] theorem handSignal_time (r : FrameResult) (s : State) : (handSignal r s).time = s.time := by
  unfold handSignal
  split <;> rfl

/-! ## One accepted frame -/

/-- The state with the frame counted, the link restored and its number kept, before the elements take it. -/
def State.linked (s : State) (n : Half) : State := keepNumber n (restoreLink n (s.countAccepted .tank))

/-- R26 to R28: taking a frame in reaches the link, the port and LINK_RESTORED's report alone. -/
theorem linked_eq (s : State) (n : Half) :
    s.linked n = { s with
      rep := (if s.prot.linkUp then s.rep else (s.linked n).rep)
      port := (s.linked n).port
      prot := { s.prot with
        linkUp := true, linkTimer := some (s.now + s.store.active.linkTimeout), keptNumber := some n } } := by
  unfold State.linked restoreLink
  cases h : s.prot.linkUp <;> simp [h] <;> rfl

@[simp] theorem linked_store (s : State) (n : Half) : (s.linked n).store = s.store := by
  rw [linked_eq]

@[simp] theorem linked_time (s : State) (n : Half) : (s.linked n).time = s.time := by
  rw [linked_eq]

@[simp] theorem linked_seq (s : State) (n : Half) : (s.linked n).seq = s.seq := by
  rw [linked_eq]

@[simp] theorem linked_poles (s : State) (n : Half) : (s.linked n).poles = s.poles := by
  rw [linked_eq]

@[simp] theorem linked_holds (s : State) (n : Half) : (s.linked n).holds = s.holds := by
  rw [linked_eq]

@[simp] theorem linked_batt (s : State) (n : Half) : (s.linked n).batt = s.batt := by
  rw [linked_eq]

theorem linked_prot (s : State) (n : Half) : (s.linked n).prot =
    { s.prot with
      linkUp := true, linkTimer := some (s.now + s.store.active.linkTimeout), keptNumber := some n } :=
  congrArg State.prot (linked_eq s n)

/-- R26, R150: the frame is counted, and a gap is counted unless its number follows the kept one. -/
theorem linked_counts (s : State) (n : Half) :
    (s.linked n).port.counts =
      ({ s.port.accepted with tank := satInc s.port.accepted.tank }, s.port.discarded,
        if isGap s.prot.keptNumber n then satInc s.port.gaps else s.port.gaps) := by
  have restored : ∀ t : State,
      (restoreLink n t).port.counts = t.port.counts ∧ (restoreLink n t).prot.keptNumber = t.prot.keptNumber := by
    intro t
    unfold restoreLink
    dsimp only
    split
    · exact ⟨rfl, rfl⟩
    · exact ⟨raise_counts _ _ _, rfl⟩
  obtain ⟨counts, kept⟩ := restored (s.countAccepted .tank)
  simp only [PortUnit.counts, Prod.mk.injEq] at counts
  obtain ⟨accepted, discarded, gaps⟩ := counts
  simp only [State.linked, keepNumber, PortUnit.counts, accepted, discarded, gaps, kept]
  rfl

/-- What the Protection Unit makes of the frame. -/
def State.frameResult (s : State) (n : Half) (cur : PerChannel Sample) (vol : PerPole Sample) : FrameResult :=
  frameOf n cur vol (s.linked n)

/-- The state with the frame taken by the Protection Unit, before anything is handed on. -/
def State.metered (s : State) (n : Half) (cur : PerChannel Sample) (vol : PerPole Sample) : State :=
  { s.linked n with prot := (s.frameResult n cur vol).prot }

@[simp] theorem metered_store (s : State) (n : Half) (cur : PerChannel Sample) (vol : PerPole Sample) :
    (s.metered n cur vol).store = s.store :=
  linked_store s n

@[simp] theorem metered_time (s : State) (n : Half) (cur : PerChannel Sample) (vol : PerPole Sample) :
    (s.metered n cur vol).time = s.time :=
  linked_time s n

@[simp] theorem metered_seq (s : State) (n : Half) (cur : PerChannel Sample) (vol : PerPole Sample) :
    (s.metered n cur vol).seq = s.seq :=
  linked_seq s n

@[simp] theorem metered_poles (s : State) (n : Half) (cur : PerChannel Sample) (vol : PerPole Sample) :
    (s.metered n cur vol).poles = s.poles :=
  linked_poles s n

@[simp] theorem metered_holds (s : State) (n : Half) (cur : PerChannel Sample) (vol : PerPole Sample) :
    (s.metered n cur vol).holds = s.holds :=
  linked_holds s n

@[simp] theorem metered_batt (s : State) (n : Half) (cur : PerChannel Sample) (vol : PerPole Sample) :
    (s.metered n cur vol).batt = s.batt :=
  linked_batt s n

/-- A MEASURE frame on a part with its supply: counted, taken by the elements, and handed on. -/
theorem exec_measure {s : State} (n : Half) (cur : PerChannel Sample) (vol : PerPole Sample) (h : s.powered = true) :
    exec (.measure n cur vol) s =
      .next (handSignal (s.frameResult n cur vol) (handException (s.frameResult n cur vol)
        (handPickup n (s.frameResult n cur vol) (s.metered n cur vol)))) := by
  have taken : s.takesIn .tank := ⟨h, fun tank => nomatch tank⟩
  refine (run_powered h).trans ?_
  rw [arrive_taken taken (by decide)]
  rfl

/-- R24, R25: the latest record that a frame leaves. -/
theorem frameResult_latest (s : State) (n : Half) (cur : PerChannel Sample) (vol : PerPole Sample) :
    (s.frameResult n cur vol).prot.latest =
      measurementOf n s.time.timeTag (cur.map (evaluateCurrent s.store.active.trapInvalid)) vol := by
  unfold State.frameResult
  rw [linked_eq]
  rfl

/-- R24, R25: a current as the latest record keeps it. -/
theorem keptCurrent_eq (trap : Bool) (x : Sample) :
    ({ value := (evaluateCurrent trap x).amount, mark := (evaluateCurrent trap x).mark } : Reading) =
      match x.mark with
      | .valid => if x.value.toNat ≤ 32767 then ⟨x.value.toNat, .valid⟩ else ⟨32767, .overrange⟩
      | .overrange => ⟨32767, .overrange⟩
      | .invalid => ⟨0, .invalid⟩ := by
  unfold evaluateCurrent Evaluated.amount
  cases x.mark with
  | valid => dsimp only; split <;> rfl
  | overrange => rfl
  | invalid => cases trap <;> rfl

/-- R24, R25: a voltage as the latest record keeps it. -/
theorem evaluateVoltage_eq (x : Sample) :
    evaluateVoltage x =
      match x.mark with
      | .valid => ⟨if x.value.toNat ≤ 4095 then x.value.toNat else 4095, .valid⟩
      | .overrange => ⟨4095, .overrange⟩
      | .invalid => ⟨0, .invalid⟩ := by
  unfold evaluateVoltage
  cases x.mark <;> rfl

/-- R26: a number is a gap unless it follows the kept one. -/
theorem isGap_gaps (kept : Option Half) (n : Half) (gaps : Word) :
    (if isGap kept n then satInc gaps else gaps) =
      match kept with
      | some k => if n = k + 1 then gaps else satInc gaps
      | none => gaps := by
  cases kept with
  | none => rfl
  | some k =>
    have follows : n - k = 1 ↔ n = k + 1 := by rw [sub_eq_iff_eq_add, add_comm]
    simp only [isGap, decide_eq_true_eq, ne_eq, ite_not, follows]

/-- Settles O17: the ledger is the metered state's, whatever is handed on; the vault and the settings stay. -/
theorem measureUpdatesRecordAndLink : Obligations.MeasureUpdatesRecordAndLink := by
  intro n cur vol s h
  refine ⟨_, exec_measure n cur vol h, ?_⟩
  generalize ht : handSignal _ _ = t
  have ledger : t.ledger = (s.metered n cur vol).ledger := by
    rw [← ht, handSignal_ledger, handException_ledger, handPickup_ledger]
  have vault : t.vault = s.vault := ht ▸ measureTaken_vault n cur vol (s.countAccepted .tank)
  have store : t.store = s.store := by
    rw [← ht, handSignal_store, handedOn_eq]
    exact metered_store s n cur vol
  have time : t.time = s.time := by
    rw [← ht, handSignal_time, handedOn_eq]
    exact metered_time s n cur vol
  have link := linked_prot s n
  have counts := linked_counts s n
  simp only [PortUnit.counts, Prod.mk.injEq] at counts
  obtain ⟨accepted, discarded, gaps⟩ := counts
  refine ⟨(congrArg Ledger.linkUp ledger).trans (congrArg Protection.linkUp link),
    (congrArg Ledger.linkTimer ledger).trans (congrArg Protection.linkTimer link),
    (congrArg Ledger.keptNumber ledger).trans (congrArg Protection.keptNumber link), ?_,
    (congrArg Ledger.gaps ledger).trans (gaps.trans (isGap_gaps _ _ _)),
    (congrArg Ledger.accepted ledger).trans accepted, (congrArg Ledger.discarded ledger).trans discarded, store, time,
    congrArg Vault.slots vault, congrArg Vault.lever vault⟩
  have currents := funext (keptCurrent_eq s.store.active.trapInvalid)
  have voltages := funext evaluateVoltage_eq
  exact (congrArg Ledger.latest ledger).trans ((frameResult_latest s n cur vol).trans
    (congr (congrArg (Measurement.mk n s.time.timeTag) (congrArg cur.map currents)) (congrArg vol.map voltages)))

end Sys2Proof.Machine
end

section
/-! PROOFS. The reads that answer at once (R44, R123, R176, R178), and the bytes of the frames of STATUS and
BATTERY_READ (R164). -/

namespace Sys2Proof.Machine

/-! ## A field read from a layout (R164) -/

/-- A field is read from the bytes that stand in its place. -/
theorem numberAt_of_part {d part : List Byte} {k n v : Nat} (hv : numberAt part 0 n = v)
    (h : (d.drop k).take n = part) : numberAt d k n = v := by
  rw [← hv, ← h]
  simp only [numberAt, List.drop_zero, List.take_take, Nat.min_self]

/-- A field of one byte. -/
theorem numberAt_of_byte {d : List Byte} {x : Byte} {k v : Nat} (hv : x.toNat = v) (h : (d.drop k).take 1 = [x]) :
    numberAt d k 1 = v :=
  numberAt_of_part ((numberAt_byte x []).trans hv) h

/-- Fields of one width, one after another from byte `k` on, one for each member of a list. -/
theorem numberAt_of_list {α : Type} {w : Nat} {f : α → List Byte} {g : α → Nat} (hf : ∀ x, (f x).length = w)
    (hg : ∀ x, numberAt (f x) 0 w = g x) {d : List Byte} {l : List α} {k c m : Nat} (hl : l.length = c)
    (hm : w * c = m) (h : (d.drop k).take m = l.flatMap f) :
    (List.range c).map (fun i => numberAt d (k + w * i) w) = l.map g := by
  subst hl hm
  induction l generalizing k with
  | nil => rfl
  | cons x l ih =>
    have first : (d.drop k).take w = f x := by
      have cut := congrArg (List.take w) h
      simpa [List.take_take, Nat.mul_add, ← hf x] using cut
    have later : (d.drop (k + w)).take (w * l.length) = l.flatMap f := by
      have cut := congrArg (List.drop w) h
      simpa [List.drop_take, Nat.mul_add, ← hf x] using cut
    rw [List.length_cons, List.range_succ_eq_map, List.map_cons, List.map_map, List.map_cons, ← ih later]
    refine congrArg₂ List.cons (numberAt_of_part (hg x) first) (List.map_congr_left fun i _ => ?_)
    rw [Function.comp_apply, Nat.mul_succ, Nat.add_assoc, Nat.add_comm w (w * i)]

/-- Two-byte quantities, one after another from byte `k` on. -/
theorem numberAt_of_u16s {α : Type} {v : α → Nat} {d : List Byte} {l : List α} {k c m : Nat} (hl : l.length = c)
    (hm : 2 * c = m) (h : (d.drop k).take m = l.flatMap fun x => u16 (v x)) :
    (List.range c).map (fun i => numberAt d (k + 2 * i) 2) = l.map fun x => fitted 2 (v x) :=
  numberAt_of_list (w := 2) (fun _ => rfl) (fun x => numberAt_u16 (v x)) hl hm h

/-- Fields of one byte, one after another from byte `k` on. -/
theorem numberAt_of_bytes {α : Type} {v : α → Byte} {g : α → Nat} (hg : ∀ x, (v x).toNat = g x) {d : List Byte}
    {l : List α} {k c : Nat} (hl : l.length = c) (h : (d.drop k).take c = l.map v) :
    (List.range c).map (fun i => numberAt d (k + i) 1) = l.map g := by
  have all := numberAt_of_list (w := 1) (f := fun x => [v x]) (fun _ => rfl)
    (fun x => (numberAt_byte (v x) []).trans (hg x)) (d := d) (k := k) hl (Nat.one_mul c)
    (h.trans List.map_eq_flatMap)
  simpa only [Nat.one_mul] using all

/-- A mark as sent. -/
theorem Bool.byte_toNat (x : Bool) : (Bool.byte x).toNat = if x then 1 else 0 := by cases x <;> rfl

/-- R164: a signed quantity of two bytes. -/
theorem numberAt_i16 (x : Int) : (numberAt (i16 x) 0 2 : Int) = x % 65536 := by
  have whole : numberAt (i16 x) 0 2 = (x % 65536).toNat := numberAt_be16 _
  omega

/-- R164: a signed quantity of one byte. -/
theorem numberAt_i8 (x : Int) : (numberAt (i8 x) 0 1 : Int) = x % 256 := by
  have whole : numberAt (i8 x) 0 1 = (x % 256).toNat := numberAt_byte _ _
  omega

/-- R164: an enumerated value that may be absent. -/
theorem optByte_toNat {α : Type} [DecidableEq α] {code : α → Byte} {l : List α}
    (h : ∀ y, (code y).toNat = l.idxOf y) (x : Option α) : (optByte code x).toNat = placeIn l x := by
  cases x with
  | none => rfl
  | some y => exact h y

/-! ## Fields that share a byte -/

/-- A field above the bits of another. -/
theorem or_shiftLeft_toNat {x y : Byte} (k : Nat) (hx : x.toNat < 2 ^ k) (hy : 2 ^ k * y.toNat < 256) :
    (x ||| (y <<< k)).toNat = x.toNat + 2 ^ k * y.toNat := by
  rw [BitVec.toNat_or, BitVec.toNat_shiftLeft, Nat.shiftLeft_eq, Nat.mul_comm y.toNat, Nat.mod_eq_of_lt hy,
    Nat.lor_comm, ← Nat.two_pow_add_eq_or_of_lt hx, Nat.add_comm]

/-- Two fields side by side. -/
theorem append_toNat {n m : Nat} (x : BitVec n) (y : BitVec m) : (x ++ y).toNat = 2 ^ m * x.toNat + y.toNat := by
  rw [BitVec.toNat_append, Nat.shiftLeft_eq, Nat.mul_comm, Nat.two_pow_add_eq_or_of_lt y.isLt]

/-- R89: the table holds at most the lever hold and seven slots. -/
theorem holdTable_length (h : HoldUnit) : h.table.length ≤ 8 := by
  unfold HoldUnit.table
  exact (List.length_filterMap_le _ _).trans (by simp)

/-- R98, R176: the number of holds, the close record and the profile in one byte. -/
theorem holdSummaryByte_toNat (h : HoldUnit) :
    (holdSummaryByte h).toNat = h.table.length + 64 * (if h.close.isSome then 1 else 0) +
      128 * (if h.profileInForce then 1 else 0) := by
  have few := holdTable_length h
  have count : (BitVec.ofNat 8 h.table.length : Byte).toNat = h.table.length :=
    Nat.mod_eq_of_lt (by omega)
  have shifted : holdSummaryByte h =
      (BitVec.ofNat 8 h.table.length ||| Bool.byte h.close.isSome <<< 6) ||| Bool.byte h.profileInForce <<< 7 := by
    unfold holdSummaryByte
    cases h.close.isSome <;> cases h.profileInForce <;> rfl
  have close := Bool.byte_toNat h.close.isSome
  have profile := Bool.byte_toNat h.profileInForce
  have low := or_shiftLeft_toNat (x := BitVec.ofNat 8 h.table.length) (y := Bool.byte h.close.isSome) 6 (by omega)
    (by split at close <;> omega)
  rw [shifted, or_shiftLeft_toNat 7 (by split at close <;> omega) (by split at profile <;> omega), low, count, close,
    profile]
  rfl

/-- R29: the code of an element state is its place. -/
theorem ElementState.code_toNat (x : ElementState) :
    (ElementState.code x).toNat = placeIn [ElementState.idle, .timing, .resetting, .operated] (some x) := by
  cases x <;> rfl

theorem ElementState.code_lt (x : ElementState) : (ElementState.code x).toNat < 4 := by cases x <;> decide

/-- R176: the states of four elements in one byte. -/
theorem elementBytes_toNat (a b c g : ElementState) :
    (ElementState.code a ||| (ElementState.code b <<< 2) ||| (ElementState.code c <<< 4) |||
        (ElementState.code g <<< 6)).toNat =
      (ElementState.code a).toNat + 4 * (ElementState.code b).toNat + 16 * (ElementState.code c).toNat +
        64 * (ElementState.code g).toNat := by
  have ha := ElementState.code_lt a
  have hb := ElementState.code_lt b
  have hc := ElementState.code_lt c
  have hg := ElementState.code_lt g
  have two := or_shiftLeft_toNat 2 ha (y := ElementState.code b) (by omega)
  have three := or_shiftLeft_toNat 4 (x := ElementState.code a ||| ElementState.code b <<< 2)
    (y := ElementState.code c) (by omega) (by omega)
  rw [or_shiftLeft_toNat 6 (by omega) (by omega), three, two]
  rfl

/-- R176: a pole's position, failed mark and mechanism state in one byte. -/
theorem poleByte_toNat (r : PoleRecord) :
    (poleByte r).toNat =
      placeIn [Position.opened, .closed, .unknown] (some r.position) * 64 + (if r.failed then 1 else 0) * 32 +
        placeIn [Mech.idle, .tripPulse, .tripWait, .tripRetry, .closePulse, .closeWait, .failed] (some r.mech) := by
  have position : (Position.code r.position).toNat =
      placeIn [Position.opened, .closed, .unknown] (some r.position) := by cases r.position <;> rfl
  have mech : (Mech.code r.mech).toNat =
      placeIn [Mech.idle, .tripPulse, .tripWait, .tripRetry, .closePulse, .closeWait, .failed] (some r.mech) := by
    cases r.mech <;> rfl
  have positionSmall : (Position.code r.position).toNat < 3 := by cases r.position <;> decide
  have mechSmall : (Mech.code r.mech).toNat < 7 := by cases r.mech <;> decide
  have shifted : poleByte r =
      (Mech.code r.mech ||| Bool.byte r.failed <<< 5) ||| Position.code r.position <<< 6 := by
    have mark : (if r.failed then 0x20 else 0 : Byte) = Bool.byte r.failed <<< 5 := by cases r.failed <;> rfl
    rw [poleByte, mark, BitVec.or_assoc, BitVec.or_comm, BitVec.or_comm (Bool.byte r.failed <<< 5)]
  have failed := Bool.byte_toNat r.failed
  have low := or_shiftLeft_toNat (x := Mech.code r.mech) (y := Bool.byte r.failed) 5 (by omega)
    (by split at failed <;> omega)
  rw [shifted, or_shiftLeft_toNat 6 (by split at failed <;> omega) (by omega), low, failed, position, mech]
  omega

/-- R164: a mark as sent. -/
theorem Mark.code_toNat (x : Mark) :
    x.code.toNat = placeIn [Mark.valid, .overrange, .invalid] (some x) := by cases x <;> rfl

/-! ## The answers -/

/-- R178: EVENTS_READ, by the port's own flags. -/
theorem eventsRead_answered {s : State} {p : PortId} (n : Half) (h : s.ready p) :
    exec (.eventsRead p n) s = .next (s.answered p n .eventsRead (.done [eventFlagByte (s.line.flags p)])
      fun t => { t with line := t.line.clearFlags p }) :=
  command_answered h rfl rfl rfl

/-- R44, R176, R178, R123: the six answers. -/
theorem reads_answered {p : PortId} {s : State} (n : Half) (h : s.ready p) :
    exec (.exceptionRead p n) s =
      .next (s.answered p n .exceptionRead (.done (exceptionData s.prot))) ∧
    exec (.status p n) s = .next (s.answeredTwice p n .status
      (statusFirst (s.admitted p n .status)) (statusSecond (s.admitted p n .status))) ∧
    exec (.batteryRead p n) s =
      .next ((s.answeredTwice p n .batteryRead (batteryFirst s) (batterySecond s)).spend 17) := by
  refine ⟨command_answered (f := id) h rfl rfl rfl, ?_, ?_⟩
  · exact (command_owner h rfl).trans (congrArg Host.Outcome.next (completeTwo_admitted _ _))
  · exact (command_owner h rfl).trans
      (congrArg (fun t => Host.Outcome.next (State.spend 17 t))
        (completeTwo_admitted (batteryFirst s) (batterySecond s)))

/-! ## The frames -/

/-- R68: the code of an outcome is its place. -/
theorem OpOutcome.code_toNat (x : OpOutcome) :
    (OpOutcome.code x).toNat = [OpOutcome.success, .retriedSuccess, .failed, .aborted].idxOf x := by cases x <;> rfl

/-- R112: the code of a fault condition is its place. -/
theorem FaultCondition.code_toNat (x : FaultCondition) :
    (FaultCondition.code x).toNat = [FaultCondition.temperatureLow, .temperatureHigh, .overvoltage].idxOf x := by
  cases x <;> rfl

/-- R120: the code of an abort cause is its place. -/
theorem TestCause.code_toNat (x : TestCause) :
    (TestCause.code x).toNat = [TestCause.element, .trip, .close, .lowVoltage, .acLost, .abort].idxOf x := by
  cases x <;> rfl

/-- R118: a test's origin as sent. -/
theorem TestOrigin.code_toNat (x : TestOrigin) : (TestOrigin.code x).toNat = x.number := by
  cases x with
  | scheduled => rfl
  | command r n =>
    obtain ⟨port, serial⟩ := r
    cases port <;> rfl

/-- A field past a known tail's beginning is read in the tail. -/
theorem numberAt_of_tail {d e : List Byte} {k i n v : Nat} (h : d.drop k = e) (hv : numberAt e i n = v) :
    numberAt d (i + k) n = v := by
  rw [← hv, ← h]
  simp only [numberAt, List.drop_drop, Nat.add_comm]

/-- R176, R149: the quantities and counts of STATUS's first frame. -/
theorem statusFirst_quantities (s : State) :
    numberAt (statusFirst s) 2 1 = fitted 1 s.seq.shot ∧
    numberAt (statusFirst s) 15 2 = fitted 2 s.poles.storeVoltage ∧
    numberAt (statusFirst s) 17 1 = fitted 1 s.rep.queue.length ∧
    numberAt (statusFirst s) 19 2 = fitted 2 s.rep.budget ∧
    (List.range 7).map (fun i => numberAt (statusFirst s) (21 + 2 * i) 2) = (sevenCounts s.port).map (fitted 2) ∧
    numberAt (statusFirst s) 35 1 = setNumber ((sevenCounts s.port).map fun x => decide (65536 ≤ x)) :=
  ⟨numberAt_of_part (numberAt_u8 _) rfl, numberAt_of_part (numberAt_u16 _) rfl, numberAt_of_part (numberAt_u8 _) rfl,
    numberAt_of_part (numberAt_u16 _) rfl, numberAt_of_u16s rfl rfl rfl,
    numberAt_of_byte (bits_toNat (by simp [sevenCounts])) rfl⟩

/-- R176, R68: the poles' operation counts in STATUS's second frame. -/
theorem statusSecond_ops (s : State) :
    (List.range 3).map (fun i => numberAt (statusSecond s) (4 * i) 4) =
      s.poles.pole.toList.map fun r => r.ops.toNat := by
  have first : (statusSecond s).take 12 = s.poles.pole.toList.flatMap fun r => be32 r.ops := by rfl
  have ops := numberAt_of_list (w := 4) (d := statusSecond s) (l := s.poles.pole.toList) (k := 0) (c := 3) (m := 12)
    (fun _ => rfl) (fun r : PoleRecord => numberAt_be32 r.ops) rfl rfl first
  simpa only [Nat.zero_add] using ops

/-- R176, R25: the latest measurement record in STATUS's second frame. -/
theorem statusSecond_measurement (s : State) :
    numberAt (statusSecond s) 12 2 = s.prot.latest.number.toNat ∧
    numberAt (statusSecond s) 14 4 = s.prot.latest.tag.toNat ∧
    (List.range 4).map (fun i => numberAt (statusSecond s) (18 + 2 * i) 2) =
      s.prot.latest.currents.toList.map (fun r => fitted 2 r.value) ∧
    (List.range 3).map (fun i => numberAt (statusSecond s) (27 + 2 * i) 2) =
      s.prot.latest.voltages.toList.map (fun r => fitted 2 r.value) :=
  ⟨numberAt_of_part (numberAt_be16 _) rfl, numberAt_of_part (numberAt_be32 _) rfl, numberAt_of_u16s rfl rfl rfl,
    numberAt_of_u16s rfl rfl rfl⟩

/-- R123: the tail of BATTERY_READ's first frame while a test runs. -/
theorem batteryFirst_running {s : State} {x : LoadTest} (h : s.batt.test = some x) :
    (batteryFirst s).drop 23 = [1, TestOrigin.code x.origin] ++ u16 x.startVoltage ++ u16 x.minVoltage ++
      u16 (msLeft s.time.baseCount x.timer) := by
  unfold batteryFirst
  dsimp only
  rw [h]
  rfl

/-- R123: the tail of BATTERY_READ's first frame with no test running. -/
theorem batteryFirst_idle {s : State} (h : s.batt.test = none) :
    (batteryFirst s).drop 23 = [0, 255] ++ absentBytes s.freeCount 6 := by
  unfold batteryFirst
  dsimp only
  rw [h]
  rfl

/-- R123, R118: the running test in BATTERY_READ. -/
theorem batteryFirst_test (s : State) (x : LoadTest) (h : s.batt.test = some x) :
    numberAt (batteryFirst s) 23 1 = 1 ∧ numberAt (batteryFirst s) 24 1 = x.origin.number ∧
    numberAt (batteryFirst s) 25 2 = fitted 2 x.startVoltage ∧
    numberAt (batteryFirst s) 27 2 = fitted 2 x.minVoltage ∧
    numberAt (batteryFirst s) 29 2 = fitted 2 ((x.timer.map fun e => e - s.now).getD 0) := by
  have tail := batteryFirst_running h
  have left : msLeft s.time.baseCount x.timer = (x.timer.map fun e => e - s.now).getD 0 := by cases x.timer <;> rfl
  rw [left] at tail
  exact ⟨numberAt_of_tail (k := 23) (i := 0) tail rfl,
    numberAt_of_tail (k := 23) (i := 1) tail (numberAt_of_byte (TestOrigin.code_toNat _) rfl),
    numberAt_of_tail (k := 23) (i := 2) tail (numberAt_of_part (numberAt_u16 _) rfl),
    numberAt_of_tail (k := 23) (i := 4) tail (numberAt_of_part (numberAt_u16 _) rfl),
    numberAt_of_tail (k := 23) (i := 6) tail (numberAt_of_part (numberAt_u16 _) rfl)⟩

/-- R123, log 21: with no test running its presence and origin alone are given. -/
theorem batteryFirst_stopped (s : State) (h : s.batt.test = none) :
    numberAt (batteryFirst s) 23 1 = 0 ∧ numberAt (batteryFirst s) 24 1 = 255 :=
  ⟨numberAt_of_tail (k := 23) (i := 0) (batteryFirst_idle h) rfl,
    numberAt_of_tail (k := 23) (i := 1) (batteryFirst_idle h) rfl⟩

theorem batteryFirst_length (s : State) : (batteryFirst s).length = 31 := by
  cases h : s.batt.test with
  | none =>
    have tail : (batteryFirst s).length - 23 = 8 := by simpa using congrArg List.length (batteryFirst_idle h)
    omega
  | some x =>
    have tail : (batteryFirst s).length - 23 = 8 := by simpa using congrArg List.length (batteryFirst_running h)
    omega

/-- R123, R108, R113: the quantities of BATTERY_READ's first frame. -/
theorem batteryFirst_quantities (s : State) :
    numberAt (batteryFirst s) 0 2 = fitted 2 s.batt.voltage ∧
    (numberAt (batteryFirst s) 2 2 : Int) = s.batt.current % 65536 ∧
    numberAt (batteryFirst s) 4 2 = fitted 2 s.poles.storeVoltage ∧
    (numberAt (batteryFirst s) 6 1 : Int) = s.batt.temperature % 256 ∧
    numberAt (batteryFirst s) 11 4 = fitted 4 s.batt.coulomb ∧
    numberAt (batteryFirst s) 15 4 = fitted 4 s.store.active.fullCount ∧
    numberAt (batteryFirst s) 19 1 = fitted 1 (stateOfCharge s.store.active s.batt) := by
  have current : numberAt (batteryFirst s) 2 2 = numberAt (i16 s.batt.current) 0 2 := numberAt_of_part rfl rfl
  have temperature : numberAt (batteryFirst s) 6 1 = numberAt (i8 s.batt.temperature) 0 1 := numberAt_of_part rfl rfl
  exact ⟨numberAt_of_part (numberAt_u16 _) rfl, (congrArg Nat.cast current).trans (numberAt_i16 _),
    numberAt_of_part (numberAt_u16 _) rfl, (congrArg Nat.cast temperature).trans (numberAt_i8 _),
    numberAt_of_part (numberAt_u32 _) rfl, numberAt_of_part (numberAt_u32 _) rfl,
    numberAt_of_part (numberAt_u8 _) rfl⟩

/-- R123: the last test record in BATTERY_READ. -/
def lastTestBytes (s : State) : List Byte :=
  match s.batt.lastTest with
  | some r => [1] ++ testRecordBytes r
  | none => [0] ++ absentBytes (s.freeCount + 6) 10 ++ [255, 255, 255]

/-- R123: the minutes to the next test. -/
def nextDueBytes (s : State) : List Byte :=
  match s.batt.nextDue with
  | some d => u32 ((d - s.time.baseCount) / 60000)
  | none => [255, 255, 255, 255]

/-- R123: the minutes left on the retry wait. -/
def retryWaitBytes (s : State) : List Byte :=
  match s.batt.retryWait with
  | some e => [1] ++ u8 ((e - s.time.baseCount) / 60000)
  | none => [0] ++ absentBytes (s.freeCount + 16) 1

theorem batterySecond_eq (s : State) : batterySecond s = lastTestBytes s ++ nextDueBytes s ++ retryWaitBytes s := rfl

theorem lastTestBytes_length (s : State) : (lastTestBytes s).length = 14 := by
  unfold lastTestBytes
  split <;> rfl

theorem nextDueBytes_length (s : State) : (nextDueBytes s).length = 4 := by
  unfold nextDueBytes
  split <;> rfl

theorem retryWaitBytes_length (s : State) : (retryWaitBytes s).length = 2 := by
  unfold retryWaitBytes
  split <;> rfl

/-- The record's fields come first. -/
theorem batterySecond_lastTest (s : State) {i n : Nat} (h : i + n ≤ 14) :
    numberAt (batterySecond s) i n = numberAt (lastTestBytes s) i n := by
  have length := lastTestBytes_length s
  rw [batterySecond_eq, List.append_assoc, numberAt_append_left _ (by omega)]

theorem batterySecond_nextDue (s : State) :
    numberAt (batterySecond s) 14 4 =
      (s.batt.nextDue.map fun e => fitted 4 ((e - s.now) / 60000)).getD 4294967295 := by
  have length := lastTestBytes_length s
  have due := nextDueBytes_length s
  rw [batterySecond_eq, List.append_assoc, numberAt_append_right _ 4 (by omega), length,
    numberAt_append_left _ (by omega)]
  unfold nextDueBytes
  cases s.batt.nextDue with
  | none => rfl
  | some d => exact numberAt_u32 _

theorem batterySecond_retryWait (s : State) {i : Nat} (n : Nat) :
    numberAt (batterySecond s) (i + 18) n = numberAt (retryWaitBytes s) i n := by
  have length := lastTestBytes_length s
  have due := nextDueBytes_length s
  rw [batterySecond_eq, numberAt_append_right _ n (by simp [length, due]), List.length_append, length, due,
    Nat.add_sub_cancel]

/-- Settles O20: the answers, then the fields of the four frames in their order. -/
theorem readsAnswerAtOnce : Obligations.ReadsAnswerAtOnce := by
  refine ⟨fun p n s h => ?_, fun s => ⟨?_, ?_, ?_, ?_⟩⟩
  · obtain ⟨exception, status, battery⟩ := reads_answered n h
    refine ⟨fun e he => ?_, fun he hl => ?_, ?_, ?_, status, battery⟩
    · simpa [exceptionData, he, exceptionBody, Bool.byte] using exception
    · simpa [exceptionData, he, hl, Bool.byte] using exception
    · rintro rfl
      exact eventsRead_answered n h
    · rintro rfl
      exact eventsRead_answered n h
  · obtain ⟨shot, store, waiting, budget, counts, ranges⟩ := statusFirst_quantities s
    refine ⟨rfl, numberAt_of_byte (by cases s.seq.state <;> rfl) rfl, numberAt_of_byte ?cause rfl, shot,
      numberAt_of_byte (bits_toNat (by simp)) rfl, numberAt_of_byte ?owner rfl,
      numberAt_of_byte (Bool.byte_toNat _) rfl, numberAt_of_byte (by cases s.batt.level <;> rfl) rfl,
      numberAt_of_byte (holdSummaryByte_toNat s.holds) rfl, numberAt_of_byte ?elements rfl,
      numberAt_of_bytes poleByte_toNat rfl rfl,
      numberAt_of_bytes (fun r : PoleRecord => optByte_toNat OpOutcome.code_toNat r.last) rfl rfl, store, waiting,
      numberAt_of_byte (by cases s.rep.tx <;> rfl) rfl, budget, counts, ranges⟩
    case cause =>
      split
      · cases s.seq.cause <;> rfl
      · rfl
    case owner =>
      cases s.store.owner with
      | none => rfl
      | some p => cases p <;> rfl
    case elements => simp only [elementBytes_toNat, ElementState.code_toNat]
  · obtain ⟨number, tag, currents, voltages⟩ := statusSecond_measurement s
    refine ⟨rfl, statusSecond_ops s, number, tag, currents, numberAt_of_byte ?currentMarks rfl, voltages,
      numberAt_of_byte ?voltageMarks rfl, numberAt_of_part (numberAt_u16 _) rfl, numberAt_of_part (numberAt_u8 _) rfl,
      numberAt_of_byte (Bool.byte_toNat _) rfl⟩
    case currentMarks =>
      simp only [append_toNat, Mark.code_toNat]
      omega
    case voltageMarks =>
      simp only [append_toNat, Mark.code_toNat, BitVec.toNat_zero]
      omega
  · obtain ⟨voltage, current, store, temperature, coulomb, full, charge⟩ := batteryFirst_quantities s
    refine ⟨batteryFirst_length s, voltage, current, store, temperature, numberAt_of_byte (Bool.byte_toNat _) rfl,
      numberAt_of_byte (by cases s.batt.ac <;> rfl) rfl, numberAt_of_byte (by cases s.batt.charger <;> rfl) rfl,
      numberAt_of_byte (optByte_toNat FaultCondition.code_toNat _) rfl, coulomb, full, charge,
      numberAt_of_byte (Bool.byte_toNat _) rfl, numberAt_of_byte (by cases s.batt.level <;> rfl) rfl,
      numberAt_of_byte (by cases s.batt.shutdown <;> rfl) rfl, batteryFirst_stopped s, batteryFirst_test s⟩
  · refine ⟨?length, fun h => ?absent, fun r h => ?record, batterySecond_nextDue s, ?waits, fun e h => ?wait⟩
    case length =>
      simp [batterySecond_eq, lastTestBytes_length, nextDueBytes_length, retryWaitBytes_length]
    case absent =>
      have bytes : lastTestBytes s = [0] ++ absentBytes (s.freeCount + 6) 10 ++ [255, 255, 255] := by
        simp only [lastTestBytes, h]
      simp only [batterySecond_lastTest s (i := 0) (n := 1) (by decide),
        batterySecond_lastTest s (i := 11) (n := 3) (by decide), bytes]
      exact ⟨rfl, rfl⟩
    case record =>
      have bytes : lastTestBytes s = [1] ++ testRecordBytes r := by simp only [lastTestBytes, h]
      have field : ∀ {i n v : Nat}, i + n ≤ 14 → numberAt ([1] ++ testRecordBytes r) i n = v →
          numberAt (batterySecond s) i n = v := fun hi hv => by rw [batterySecond_lastTest s hi, bytes, hv]
      exact ⟨field (by decide) rfl, field (by decide) (numberAt_of_part (numberAt_be32 _) rfl),
        field (by decide) (numberAt_of_part (numberAt_u16 _) rfl),
        field (by decide) (numberAt_of_part (numberAt_u16 _) rfl),
        field (by decide) (numberAt_of_part (numberAt_u16 _) rfl),
        field (by decide) (numberAt_of_byte (by cases r.grade <;> rfl) rfl),
        field (by decide) (numberAt_of_byte (optByte_toNat TestCause.code_toNat _) rfl),
        field (by decide) (numberAt_of_byte (TestOrigin.code_toNat _) rfl)⟩
    case waits =>
      refine (batterySecond_retryWait s (i := 0) 1).trans ?_
      unfold retryWaitBytes
      cases s.batt.retryWait <;> rfl
    case wait =>
      refine (batterySecond_retryWait s (i := 1) 1).trans ?_
      unfold retryWaitBytes
      rw [h]
      exact numberAt_of_part (numberAt_u8 _) rfl

end Sys2Proof.Machine
end

section
/-! PROOFS. One frame taken by the elements (R31, R32, R36, R37, R41), and what a frame with no operation signal hands
on (R28, R37, R38, R43). -/

namespace Sys2Proof.Machine

/-! ## One channel (R31, R32, R36) -/

/-- R36: the high-set counter, branch by branch as the statements name them. -/
theorem highSetStep_eq (b : Bank) (enabled : Bool) (m : Option Nat) (before : ElementState) (count : Nat) :
    highSetStep b enabled m before count =
      match m with
      | none => (count, false)
      | some m =>
        if enabled = false then (0, false)
        else if before = .operated then (count, false)
        else if m < 2 * b.highSetThreshold then (0, false)
        else if b.highSetCount ≤ count + 1 then (0, true)
        else (count + 1, false) := by
  cases m with
  | none => rfl
  | some m =>
    unfold highSetStep
    cases enabled with
    | false => rfl
    | true =>
      by_cases below : m < 2 * b.highSetThreshold
      · simp [below, Nat.not_le.mpr below]
      · simp [below, Nat.not_lt.mp below]

/-- R31, R34: an element that a step makes OPERATED was OPERATED, or has the cause TIME. -/
theorem stepMaybe_operated (b : Bank) (c : CurveInForce) (p : Nat) (m : Option Nat) (e : Element)
    (h : (e.stepMaybe b c p m).element.state = .operated) :
    e.state = .operated ∨ (e.stepMaybe b c p m).element.byTime = true := by
  cases m with
  | none => exact Or.inl h
  | some m =>
    simp only [Element.stepMaybe] at h ⊢
    rcases Nat.lt_or_ge m p with low | high
    · rw [Element.step_below b c e low] at h
      split at h
      · have decayed : (if (e.decay (b.resetTime c.curve)).element.acc = 0 then ElementState.idle else .resetting) =
            .operated := h
        split at decayed <;> cases decayed
      · exact Or.inl h
    · rw [Element.step_pickup b c e high] at h ⊢
      split
      · exact Or.inl ‹_›
      · rw [if_neg ‹_›] at h
        obtain ⟨-, element⟩ := e.integrate_cases (scaledTime b c m p)
        rw [element] at h ⊢
        split
        · exact Or.inr rfl
        · rw [if_neg ‹_›] at h
          simp at h

/-- R34, R36, R39: a phase element that a frame makes OPERATED was OPERATED, or has a cause. -/
theorem phaseStep_operated (b : Bank) (n : Nat) (profile : Bool) (x : Evaluated) (e : Element) (count : Nat)
    (h : (phaseStep b n profile x e count).element.state = .operated) :
    e.state = .operated ∨ (phaseStep b n profile x e count).element.byTime = true ∨
      (phaseStep b n profile x e count).element.byHighSet = true := by
  simp only [phaseStep, Element.operateHighSet] at h ⊢
  split
  · exact Or.inr (Or.inr rfl)
  · rw [if_neg ‹_›] at h
    exact (stepMaybe_operated _ _ _ _ _ h).imp_right Or.inl

/-- R34, R39: the ground element likewise. -/
theorem groundStep_operated (b : Bank) (n : Nat) (profile : Bool) (x : Evaluated) (e : Element)
    (h : (groundStep b n profile x e).element.state = .operated) :
    e.state = .operated ∨ (groundStep b n profile x e).element.byTime = true := by
  unfold groundStep at h ⊢
  split
  · rw [if_pos ‹_›] at h
    exact stepMaybe_operated _ _ _ _ _ h
  · rw [if_neg ‹_›] at h
    exact Or.inl h

/-! ## What a frame makes of the channels -/

section
variable (s : State) (n : Half) (cur : PerChannel Sample) (vol : PerPole Sample)

/-- The current channels evaluated (R24). -/
def State.evaluated : PerChannel Evaluated := cur.map (evaluateCurrent s.store.active.trapInvalid)

/-- The phase channels after a frame. -/
def State.phasesAfter : PerPole ChannelAfter :=
  let step := phaseStep s.store.active s.seq.shot s.holds.profileInForce
  ⟨step (s.evaluated cur).a s.prot.elements.a s.prot.highSet.a,
    step (s.evaluated cur).b s.prot.elements.b s.prot.highSet.b,
    step (s.evaluated cur).c s.prot.elements.c s.prot.highSet.c⟩

/-- The ground channel after a frame. -/
def State.groundAfter : Stepped :=
  groundStep s.store.active s.seq.shot s.holds.profileInForce (s.evaluated cur).g s.prot.elements.g

/-- The elements after a frame. -/
def State.elementsAfter : PerChannel Element :=
  ⟨(s.phasesAfter cur).a.element, (s.phasesAfter cur).b.element, (s.phasesAfter cur).c.element,
    (s.groundAfter cur).element⟩

/-- The high-set counters after a frame. -/
def State.countsAfter : PerPole Nat :=
  ⟨(s.phasesAfter cur).a.count, (s.phasesAfter cur).b.count, (s.phasesAfter cur).c.count⟩

/-- The amounts of a frame: 0 for a channel with no magnitude (R37, log 42). -/
def State.amounts : PerChannel Nat := (s.evaluated cur).map Evaluated.amount

/-- The episode after a frame (R37). -/
def State.episodeAfter : Option Episode :=
  Episode.after s.prot.episode s.prot.elements (s.elementsAfter cur) s.now s.time.timeTag (s.amounts cur)

/-- The trapped exceptions of a frame (R41). -/
def State.trapped : List (ExceptionKind × Channel) :=
  frameExceptions s.store.active ((s.evaluated cur).map Evaluated.mark)
    ⟨(s.phasesAfter cur).a.clamped, (s.phasesAfter cur).b.clamped, (s.phasesAfter cur).c.clamped,
      (s.groundAfter cur).clamped⟩

/-- The exception record's entry for a trapped exception (R42). -/
def State.exceptionEntry (x : ExceptionKind × Channel) : ExceptionEntry :=
  { kind := x.1, channel := x.2, number := n, tag := s.time.timeTag }

/-- The Protection Unit's result, in the words above: the link's restoration has no part in it. -/
theorem frameResult_eq :
    s.frameResult n cur vol =
      { prot :=
          { s.prot with
            linkUp := true, linkTimer := some (s.now + s.store.active.linkTimeout), keptNumber := some n
            latest := measurementOf n s.time.timeTag (s.evaluated cur) vol, elements := s.elementsAfter cur
            highSet := s.countsAfter cur, episode := s.episodeAfter cur
            exception := ((s.trapped cur).getLast?.map (s.exceptionEntry n)).or s.prot.exception
            latestFlag := !(s.trapped cur).isEmpty }
        left := leftIdle s.prot.elements (s.elementsAfter cur)
        opened := allIdle s.prot.elements && !allIdle (s.elementsAfter cur)
        amounts := s.amounts cur
        operated := newlyOperated s.prot.elements (s.elementsAfter cur)
        exceptionRose := !(s.trapped cur).isEmpty && !s.prot.latestFlag } := by
  unfold State.frameResult frameOf State.now
  rw [linked_prot, linked_store, linked_seq, linked_holds, linked_time]
  rfl

/-- R42: the exception record after a frame. -/
theorem frameResult_exception :
    (s.frameResult n cur vol).prot.exception =
      match (s.trapped cur).getLast? with
      | some x => some (s.exceptionEntry n x)
      | none => s.prot.exception := by
  rw [frameResult_eq]
  dsimp only
  cases (s.trapped cur).getLast? <;> rfl

/-! ## Elements that become OPERATED (R39) -/

/-- Whether a channel's element becomes OPERATED in a frame. -/
def State.becomes (x : Channel) : Bool :=
  decide ((s.prot.elements.get x).state ≠ .operated) && decide (((s.elementsAfter cur).get x).state = .operated)

/-- R46: the shot elements of the operation signal. -/
theorem newlyOperated_eq :
    newlyOperated s.prot.elements (s.elementsAfter cur) =
      { time := ⟨s.becomes cur .a && (s.elementsAfter cur).a.byTime, s.becomes cur .b && (s.elementsAfter cur).b.byTime,
          s.becomes cur .c && (s.elementsAfter cur).c.byTime, s.becomes cur .g && (s.elementsAfter cur).g.byTime⟩
        highSet := ⟨s.becomes cur .a && (s.elementsAfter cur).a.byHighSet,
          s.becomes cur .b && (s.elementsAfter cur).b.byHighSet,
          s.becomes cur .c && (s.elementsAfter cur).c.byHighSet⟩ } := rfl

/-- R39: with no element newly OPERATED there is no operation signal. -/
theorem newlyOperated_empty
    (h : ∀ x, ((s.elementsAfter cur).get x).state = .operated → (s.prot.elements.get x).state = .operated) :
    (newlyOperated s.prot.elements (s.elementsAfter cur)).isEmpty = true := by
  have none (x : Channel) : s.becomes cur x = false := by
    simp only [State.becomes, Bool.and_eq_false_iff, decide_eq_false_iff_not, not_not]
    exact or_iff_not_imp_right.mpr fun after => h x (not_not.mp after)
  simp [newlyOperated_eq, none, ElementSet.isEmpty]

/-- R39: an element that becomes OPERATED has a cause, a phase's TIME or HIGH_SET, the ground's TIME. -/
theorem becomes_cause {x : Channel} (h : s.becomes cur x = true) :
    ((s.elementsAfter cur).get x).byTime = true ∨
      (x ≠ .g ∧ ((s.elementsAfter cur).get x).byHighSet = true) := by
  simp only [State.becomes, Bool.and_eq_true, decide_eq_true_eq] at h
  obtain ⟨before, after⟩ := h
  cases x with
  | a => exact ((phaseStep_operated _ _ _ _ _ _ after).resolve_left before).imp_right fun h => ⟨by decide, h⟩
  | b => exact ((phaseStep_operated _ _ _ _ _ _ after).resolve_left before).imp_right fun h => ⟨by decide, h⟩
  | c => exact ((phaseStep_operated _ _ _ _ _ _ after).resolve_left before).imp_right fun h => ⟨by decide, h⟩
  | g => exact Or.inl ((groundStep_operated _ _ _ _ _ after).resolve_left before)

/-- R39: so an element newly OPERATED is in the signal. -/
theorem newlyOperated_nonempty (h : ∃ x, s.becomes cur x = true) :
    (newlyOperated s.prot.elements (s.elementsAfter cur)).isEmpty = false := by
  obtain ⟨x, hx⟩ := h
  by_contra empty
  simp only [newlyOperated_eq, ElementSet.isEmpty, Bool.not_eq_false, Bool.not_eq_true', Bool.or_eq_false_iff] at empty
  obtain ⟨⟨⟨⟨⟨⟨ta, tb⟩, tc⟩, tg⟩, ha⟩, hb⟩, hc⟩ := empty
  have cause := becomes_cause s cur hx
  cases x <;> simp_all [PerChannel.get]

/-! ## A frame with no operation signal -/

/-- The state with the frame taken and its pickup and exception handed on, before the operation signal. -/
def State.handed : State :=
  handException (s.frameResult n cur vol) (handPickup n (s.frameResult n cur vol) (s.metered n cur vol))

theorem exec_measure_signal (h : s.powered = true)
    (became : ∃ x, s.becomes cur x = true) :
    exec (.measure n cur vol) s =
      .next (operationSignal (newlyOperated s.prot.elements (s.elementsAfter cur)) (s.handed n cur vol)) := by
  have signal : (s.frameResult n cur vol).operated = newlyOperated s.prot.elements (s.elementsAfter cur) := by
    rw [frameResult_eq]
  rw [exec_measure n cur vol h, handSignal, signal, newlyOperated_nonempty s cur became]
  rfl

theorem exec_measure_quiet (h : s.powered = true)
    (none : ∀ x, ((s.elementsAfter cur).get x).state = .operated → (s.prot.elements.get x).state = .operated) :
    exec (.measure n cur vol) s = .next (s.handed n cur vol) := by
  have signal : (s.frameResult n cur vol).operated = newlyOperated s.prot.elements (s.elementsAfter cur) := by
    rw [frameResult_eq]
  rw [exec_measure n cur vol h, handSignal, signal, newlyOperated_empty s cur none]
  rfl

/-! ## The exceptions trapped (R41) -/

/-- R41, R24: the trapped exceptions of one channel, by its sample as received. -/
theorem channelExceptions_eq (b : Bank) (x : Sample) (y : Channel) (clamped : Bool) :
    (channelExceptions b (evaluateCurrent b.trapInvalid x).mark clamped).map (·, y) =
      (if b.trapInvalid = true ∧ x.mark = .invalid then [(.invalidSample, y)] else []) ++
      (if b.trapOverrange = true ∧ (x.mark = .overrange ∨ x.mark = .valid ∧ 32767 < x.value.toNat) then
        [(.overrange, y)] else []) ++
      (if b.trapTimeClamp = true ∧ clamped = true then [(.timeClamp, y)] else []) := by
  have clamp : (if (clamped && b.trapTimeClamp) = true then [ExceptionKind.timeClamp] else []).map (·, y) =
      if b.trapTimeClamp = true ∧ clamped = true then [(ExceptionKind.timeClamp, y)] else [] := by
    cases clamped <;> cases b.trapTimeClamp <;> rfl
  unfold channelExceptions
  rw [List.map_append, clamp]
  refine congrArg (· ++ _) ?_
  unfold evaluateCurrent
  cases x.mark with
  | valid =>
    dsimp only
    by_cases above : 32767 < x.value.toNat
    · cases b.trapOverrange <;> simp [above, Nat.not_le.mpr above]
    · simp [above, Nat.not_lt.mp above]
  | overrange => cases b.trapOverrange <;> simp
  | invalid => cases b.trapInvalid <;> simp

/-- R41: the trapped exceptions of a frame, by the samples as received. -/
theorem trapped_eq :
    let b := s.store.active
    let found : Channel → Sample → Bool → List (ExceptionKind × Channel) := fun y x clamped =>
      (if b.trapInvalid = true ∧ x.mark = .invalid then [(.invalidSample, y)] else []) ++
      (if b.trapOverrange = true ∧ (x.mark = .overrange ∨ x.mark = .valid ∧ 32767 < x.value.toNat) then
        [(.overrange, y)] else []) ++
      (if b.trapTimeClamp = true ∧ clamped = true then [(.timeClamp, y)] else [])
    s.trapped cur =
      found .a cur.a (s.phasesAfter cur).a.clamped ++ found .b cur.b (s.phasesAfter cur).b.clamped ++
        found .c cur.c (s.phasesAfter cur).c.clamped ++
        (if b.groundEnable then found .g cur.g (s.groundAfter cur).clamped else []) := by
  simp only [← channelExceptions_eq]
  rfl

/-- R42: SAMPLE_EXCEPTION's body, by the places of 08. -/
theorem exceptionBody_entry (x : ExceptionKind × Channel) :
    exceptionBody (s.exceptionEntry n x) =
      [BitVec.ofNat 8 (placeIn [ExceptionKind.invalidSample, .overrange, .timeClamp] (some x.1)),
        BitVec.ofNat 8 (placeIn [Channel.a, .b, .c, .g] (some x.2))] ++ be16 n ++ be32 s.time.timeTag := by
  obtain ⟨kind, channel⟩ := x
  have place : ExceptionKind.code kind =
      BitVec.ofNat 8 (placeIn [ExceptionKind.invalidSample, .overrange, .timeClamp] (some kind)) := by
    cases kind <;> rfl
  have code : Channel.code channel = BitVec.ofNat 8 (placeIn [Channel.a, .b, .c, .g] (some channel)) := by
    cases channel <;> rfl
  rw [← place, ← code]
  rfl

/-! ## Pickup (R37, R38) -/

/-- Whether a channel's element leaves IDLE in a frame. -/
def State.leaves (x : Channel) : Bool :=
  decide ((s.prot.elements.get x).state = .idle ∧ ((s.elementsAfter cur).get x).state ≠ .idle)

theorem leftIdle_eq :
    leftIdle s.prot.elements (s.elementsAfter cur) =
      ⟨s.leaves cur .a, s.leaves cur .b, s.leaves cur .c, s.leaves cur .g⟩ := by
  simp only [State.leaves, Bool.decide_and]
  rfl

/-- R37: where an episode opens, an element leaves IDLE. -/
theorem exists_leaves_of_opened (before : allIdle s.prot.elements = true)
    (after : allIdle (s.elementsAfter cur) = false) :
    ∃ x, s.leaves cur x = true := by
  by_contra stays
  have idle (x : Channel) : ((s.elementsAfter cur).get x).state = .idle := by
    by_contra out
    have was : (s.prot.elements.get x).state = .idle := by
      simp only [allIdle, PerChannel.toList, List.all_cons, List.all_nil, Bool.and_true, Bool.and_eq_true,
        decide_eq_true_eq] at before
      obtain ⟨a, b, c, g⟩ := before
      cases x <;> assumption
    exact stays ⟨x, decide_eq_true ⟨was, out⟩⟩
  have all : allIdle (s.elementsAfter cur) = true := by
    simp only [allIdle, PerChannel.toList, List.all_cons, List.all_nil, Bool.and_true, Bool.and_eq_true,
      decide_eq_true_eq]
    exact ⟨idle .a, idle .b, idle .c, idle .g⟩
  rw [after] at all
  cases all

theorem leftIdle_any :
    (leftIdle s.prot.elements (s.elementsAfter cur)).toList.any id = true ↔ ∃ x, s.leaves cur x = true := by
  rw [leftIdle_eq]
  constructor
  · simp only [PerChannel.toList, List.any_cons, List.any_nil, id, Bool.or_false, Bool.or_eq_true]
    rintro (h | h | h | h)
    exacts [⟨_, h⟩, ⟨_, h⟩, ⟨_, h⟩, ⟨_, h⟩]
  · rintro ⟨x, h⟩
    cases x <;> simp [PerChannel.toList, h]

/-- R38: where an element leaves IDLE a running test ends, and PICKUP follows if the frame opens an episode. -/
theorem handPickup_leaves (t : State) (h : ∃ x, s.leaves cur x = true) :
    handPickup n (s.frameResult n cur vol) t =
      if allIdle s.prot.elements = true ∧ allIdle (s.elementsAfter cur) = false then
        raise .pickup ([bits [s.leaves cur .a, s.leaves cur .b, s.leaves cur .c, s.leaves cur .g]] ++ be16 n ++
          (s.amounts cur).toList.flatMap u16) (abortTest .element t)
      else abortTest .element t := by
  rw [frameResult_eq]
  unfold handPickup
  dsimp only
  rw [if_pos ((leftIdle_any s cur).mpr h)]
  simp only [Bool.and_eq_true, Bool.not_eq_true', pickupBody, leftIdle_eq]
  rfl

/-- R38: with every element that was IDLE still so there is no notice. -/
theorem handPickup_stays (t : State) (h : ∀ x, s.leaves cur x = false) :
    handPickup n (s.frameResult n cur vol) t = t := by
  rw [frameResult_eq]
  unfold handPickup
  dsimp only
  rw [if_neg (mt (leftIdle_any s cur).mp (by simp [h]))]

/-! ## The events of a frame with no operation signal (R28, R37, R43; log 15) -/

/-- R28: a lost link restored, as far as reports go. -/
def State.restored : State := if s.prot.linkUp then s else raise .linkRestored (be16 n) s

/-- R37: PICKUP where the frame opens an episode. -/
def State.pickedUp : State :=
  if allIdle s.prot.elements = true ∧ allIdle (s.elementsAfter cur) = false then
    raise .pickup ([bits [s.leaves cur .a, s.leaves cur .b, s.leaves cur .c, s.leaves cur .g]] ++ be16 n ++
      (s.amounts cur).toList.flatMap u16) (s.restored n)
  else s.restored n

theorem metered_alike : (s.metered n cur vol).ReportsAlike (s.restored n) := by
  have linked : (s.linked n).ReportsAlike (s.restored n) := by
    unfold State.linked State.restored restoreLink
    have up : ∀ (p : Protection), State.ReportsAlike { s.countAccepted .tank with prot := p } s :=
      fun _ => ⟨rfl, rfl, rfl, rfl⟩
    dsimp only
    rw [State.countAccepted_prot]
    split
    · exact ⟨rfl, rfl, rfl, rfl⟩
    · obtain ⟨rep, bank, level, time⟩ := (up _).raise .linkRestored (be16 n)
      exact ⟨rep, bank, level, time⟩
  obtain ⟨rep, bank, level, time⟩ := linked
  exact ⟨rep, bank, level, time⟩

/-- R37: with no test ended, the pickup notice is PICKUP alone. -/
theorem handPickup_alike (h : s.batt.test = none ∨ ∀ x, s.leaves cur x = false) :
    (handPickup n (s.frameResult n cur vol) (s.metered n cur vol)).ReportsAlike (s.pickedUp n cur) := by
  have alike := metered_alike s n cur vol
  unfold State.pickedUp
  by_cases left : ∃ x, s.leaves cur x = true
  · have test : (s.metered n cur vol).batt.test = none := by
      rw [metered_batt]
      exact h.resolve_right fun stays => by simp [stays] at left
    rw [handPickup_leaves s n cur vol _ left, abortTest_none _ test]
    split
    · exact alike.raise _ _
    · exact alike
  · have stays : ∀ x, s.leaves cur x = false := by simpa using left
    rw [handPickup_stays s n cur vol _ stays,
      if_neg fun opened => left (exists_leaves_of_opened s cur opened.1 opened.2)]
    exact alike

/-- R43: SAMPLE_EXCEPTION where LATEST rises. -/
theorem handException_eq (t : State) :
    handException (s.frameResult n cur vol) t =
      match (s.trapped cur).getLast? with
      | some x => if s.prot.latestFlag then t else raise .sampleException (exceptionBody (s.exceptionEntry n x)) t
      | none => t := by
  rw [frameResult_eq]
  unfold handException
  cases last : (s.trapped cur).getLast? with
  | none =>
    rw [List.getLast?_eq_none_iff.mp last]
    dsimp only
    split <;> rfl
  | some x =>
    have some : (s.trapped cur).isEmpty = false := by
      cases trapped : s.trapped cur with
      | nil => simp [trapped] at last
      | cons y l => rfl
    rw [some]
    cases s.prot.latestFlag <;> rfl

/-- R28, R37, R43: the reports of a frame with no operation signal that ends no test. -/
theorem handed_rep (h : s.batt.test = none ∨ ∀ x, s.leaves cur x = false) :
    (s.handed n cur vol).rep =
      match (s.trapped cur).getLast? with
      | some x => if s.prot.latestFlag then (s.pickedUp n cur).rep else
          (raise .sampleException (exceptionBody (s.exceptionEntry n x)) (s.pickedUp n cur)).rep
      | none => (s.pickedUp n cur).rep := by
  have alike := handPickup_alike s n cur vol h
  unfold State.handed
  rw [handException_eq]
  cases (s.trapped cur).getLast? with
  | none => exact alike.rep
  | some x =>
    dsimp only
    split
    · exact alike.rep
    · exact (alike.raise _ _).rep

/-! ## The blocks of the state before the operation signal -/

theorem handed_eq : s.handed n cur vol = (s.metered n cur vol).onlyBattery (s.handed n cur vol) :=
  handedOn_eq n _ _

theorem handed_store : (s.handed n cur vol).store = s.store := by
  rw [handed_eq]
  exact metered_store s n cur vol

theorem handed_time : (s.handed n cur vol).time = s.time := by
  rw [handed_eq]
  exact metered_time s n cur vol

theorem handed_seq : (s.handed n cur vol).seq = s.seq := by
  rw [handed_eq]
  exact metered_seq s n cur vol

theorem handed_poles : (s.handed n cur vol).poles = s.poles := by
  rw [handed_eq]
  exact metered_poles s n cur vol

theorem handed_holds : (s.handed n cur vol).holds = s.holds := by
  rw [handed_eq]
  exact metered_holds s n cur vol

theorem handed_prot : (s.handed n cur vol).prot = (s.frameResult n cur vol).prot := by
  rw [handed_eq]
  rfl

/-- R31, R36, R37: the elements, the counters and the episode before the operation signal. -/
theorem handed_elements :
    (s.handed n cur vol).prot.elements = s.elementsAfter cur ∧ (s.handed n cur vol).prot.highSet = s.countsAfter cur ∧
    (s.handed n cur vol).prot.episode = s.episodeAfter cur := by
  rw [handed_prot, frameResult_eq]
  exact ⟨rfl, rfl, rfl⟩

/-- R38: an element that leaves IDLE ends a running test; else the Battery Unit is left alone. -/
theorem handed_batt :
    ((∃ x, s.leaves cur x = true) → (s.handed n cur vol).batt.test = none) ∧
    ((∀ x, s.leaves cur x = false) → (s.handed n cur vol).batt = s.batt) := by
  have exception : (s.handed n cur vol).batt =
      (handPickup n (s.frameResult n cur vol) (s.metered n cur vol)).batt := by
    unfold State.handed
    rw [handException_eq]
    split
    · split <;> rfl
    · rfl
  rw [exception]
  refine ⟨fun left => ?_, fun stays => ?_⟩
  · rw [handPickup_leaves s n cur vol _ left]
    split
    · exact abortTest_test _ _
    · exact abortTest_test _ _
  · rw [handPickup_stays s n cur vol _ stays]
    exact metered_batt s n cur vol

end

end Sys2Proof.Machine
end

section
/-! PROOFS. Trip orders (R72, R76) pole by pole, and the completions that they bring at once, taken while a trip ordered
for a fault is still outstanding (R51). -/

namespace Sys2Proof.Machine

/-! ## The operator close record is only ever removed -/

/-- The operator close record of the second state, if there is one, is that of the first. -/
def State.closeKept (s t : State) : Prop := ∀ r, t.holds.close = some r → s.holds.close = some r

theorem State.closeKept.refl (s : State) : s.closeKept s := fun _ h => h

theorem State.closeKept.trans {s t u : State} (h : s.closeKept t) (k : t.closeKept u) : s.closeKept u :=
  fun r hr => h r (k r hr)

/-- R103: a warning is cancelled, a record in PULSING is left. -/
theorem cancelWarning_close (x : Reason) (s : State) :
    (cancelWarning x s).holds.close = s.holds.close.filter fun r => decide (r.phase ≠ .warning) := by
  unfold cancelWarning raiseCloseRefused
  cases h : s.holds.close with
  | none => simp [h]
  | some r => by_cases warning : r.phase = .warning <;> simp [h, warning, Option.filter_some]

theorem cancelWarning_closeKept (x : Reason) (s : State) : s.closeKept (cancelWarning x s) := by
  intro r h
  rw [cancelWarning_close, Option.filter_eq_some_iff] at h
  exact h.1

theorem tripNotice_closeKept (s : State) : s.closeKept (tripNotice s) :=
  cancelWarning_closeKept .sequenceActive (abortTest .trip s)

/-- R120, R72: a trip notice ends a running test. -/
@[simp] theorem tripNotice_test (s : State) : (tripNotice s).batt.test = none :=
  abortTest_test .trip s

/-! ## Orders, pole by pole (R72) -/

/-- The completion that a trip order brings at once, if any. -/
def Completion.ofOrder (p : Pole) : Option (Bool × OpOutcome) → List Completion
  | some (close, o) => [{ pole := p, close := close, outcome := o }]
  | none => []

/-- The order that a pole's record takes in a state. -/
def State.orderOn (s : State) (p : Pole) : PoleRecord × Option (Bool × OpOutcome) :=
  (s.poleRec p).order s.store.active s.now

theorem orderTrip_eq (p : Pole) (s : State) :
    orderTrip p s = ((tripNotice s).withPole p (s.orderOn p).1, Completion.ofOrder p (s.orderOn p).2) := by
  have completion : ∀ x : Option (Bool × OpOutcome),
      (match x with
        | some (close, o) => [({ pole := p, close := close, outcome := o } : Completion)]
        | none => []) = Completion.ofOrder p x := by
    intro x
    cases x <;> rfl
  exact congrArg (Prod.mk _) (completion (s.orderOn p).2)

/-- Orders on a list of poles, one after another. -/
def orderEach (m : PoleMask) : List Pole → State → State × List Completion
  | [], s => (s, [])
  | p :: ps, s =>
    if m.get p then ((orderEach m ps (orderTrip p s).1).1, (orderTrip p s).2 ++ (orderEach m ps (orderTrip p s).1).2)
    else orderEach m ps s

theorem orderTrips_eq_each (m : PoleMask) (s : State) : orderTrips m s = orderEach m [.a, .b, .c] s := by
  unfold orderTrips
  cases ha : m.get .a <;> cases hb : m.get .b <;> cases hc : m.get .c <;> simp [orderEach, ha, hb, hc]

/-- An order on another pole does not change what a pole takes. -/
theorem orderOn_orderTrip {p q : Pole} (h : q ≠ p) (s : State) : (orderTrip p s).1.orderOn q = s.orderOn q := by
  rw [orderTrip_eq]
  exact congrArg (fun r : PoleRecord => r.order s.store.active s.now) (State.poleRec_withPole_other _ _ _ _ h)

section
variable (m : PoleMask) {ps : List Pole} (s : State)

/-- R72: the poles of the mask have taken their orders, the others are as they were. -/
theorem orderEach_poleRec (distinct : ps.Nodup) (q : Pole) :
    (orderEach m ps s).1.poleRec q = if q ∈ ps ∧ m.get q = true then (s.orderOn q).1 else s.poleRec q := by
  induction ps generalizing s with
  | nil => rfl
  | cons p ps ih =>
    obtain ⟨fresh, later⟩ := List.nodup_cons.mp distinct
    unfold orderEach
    by_cases on : m.get p = true
    · rw [if_pos on, ih _ later]
      by_cases same : q = p
      · subst same
        rw [if_neg fun h => fresh h.1, if_pos ⟨List.mem_cons_self, on⟩, orderTrip_eq]
        exact State.poleRec_withPole_same _ _ _
      · have other : (orderTrip p s).1.poleRec q = s.poleRec q := by
          rw [orderTrip_eq]
          exact State.poleRec_withPole_other _ _ _ _ same
        rw [orderOn_orderTrip same, other]
        simp [same]
    · rw [if_neg on, ih _ later]
      by_cases same : q = p
      · subst same
        simp [on]
      · simp [same]

/-- R78: the completions that come at once, in the order of the poles. -/
theorem orderEach_completions (distinct : ps.Nodup) :
    (orderEach m ps s).2 = ps.flatMap fun p => if m.get p then Completion.ofOrder p (s.orderOn p).2 else [] := by
  induction ps generalizing s with
  | nil => rfl
  | cons p ps ih =>
    obtain ⟨fresh, later⟩ := List.nodup_cons.mp distinct
    unfold orderEach
    by_cases on : m.get p = true
    · have rest : (ps.flatMap fun q => if m.get q then Completion.ofOrder q ((orderTrip p s).1.orderOn q).2 else []) =
          ps.flatMap fun q => if m.get q then Completion.ofOrder q (s.orderOn q).2 else [] := by
        refine List.flatMap_congr fun q hq => ?_
        rw [orderOn_orderTrip (p := p) fun same => fresh (same ▸ hq)]
      rw [if_pos on, ih _ later, rest, orderTrip_eq]
      simp [on]
    · rw [if_neg on, ih _ later]
      simp [on]

/-- R72: orders change neither the sequence nor the Protection Unit, and end a running test. -/
theorem orderEach_blocks :
    (orderEach m ps s).1.seq = s.seq ∧ (orderEach m ps s).1.prot = s.prot ∧ s.closeKept (orderEach m ps s).1 ∧
    ((∃ p ∈ ps, m.get p = true) ∨ s.batt.test = none → (orderEach m ps s).1.batt.test = none) := by
  induction ps generalizing s with
  | nil => exact ⟨rfl, rfl, .refl s, by simp [orderEach]⟩
  | cons p ps ih =>
    unfold orderEach
    by_cases on : m.get p = true
    · rw [if_pos on]
      obtain ⟨seq, prot, close, test⟩ := ih (orderTrip p s).1
      exact ⟨seq, prot, (tripNotice_closeKept s).trans close, fun _ => test (Or.inr (tripNotice_test s))⟩
    · rw [if_neg on]
      obtain ⟨seq, prot, close, test⟩ := ih s
      refine ⟨seq, prot, close, fun h => test (h.imp_left ?_)⟩
      rintro ⟨q, hq, ordered⟩
      obtain rfl | later := List.mem_cons.mp hq
      · exact absurd ordered on
      · exact ⟨q, later, ordered⟩

end

/-- R72, R78: what an order set leaves. -/
theorem orderTrips_poleRec (m : PoleMask) (s : State) (q : Pole) :
    (orderTrips m s).1.poleRec q = if m.get q = true then (s.orderOn q).1 else s.poleRec q := by
  rw [orderTrips_eq_each, orderEach_poleRec m s (by decide)]
  have all : q ∈ [Pole.a, .b, .c] := by cases q <;> decide
  simp [all]

theorem orderTrips_completions (m : PoleMask) (s : State) :
    (orderTrips m s).2 =
      [Pole.a, .b, .c].flatMap fun p => if m.get p then Completion.ofOrder p (s.orderOn p).2 else [] := by
  rw [orderTrips_eq_each, orderEach_completions m s (by decide)]

theorem orderTrips_blocks (m : PoleMask) (s : State) :
    (orderTrips m s).1.seq = s.seq ∧ (orderTrips m s).1.prot = s.prot ∧ s.closeKept (orderTrips m s).1 ∧
    ((∃ p, m.get p = true) → (orderTrips m s).1.batt.test = none) := by
  rw [orderTrips_eq_each]
  obtain ⟨seq, prot, close, test⟩ := orderEach_blocks m (ps := [.a, .b, .c]) s
  refine ⟨seq, prot, close, fun ⟨p, on⟩ => test (Or.inl ⟨p, ?_, on⟩)⟩
  cases p <;> decide

/-! ## What one order brings -/

/-- R72, R76: a completion comes at once from a pole OPEN at rest, SUCCESS, or from a close under way, ABORTED. -/
theorem ofOrder_eq (p : Pole) (r : PoleRecord) (b : Bank) (now : Nat) :
    (r.openAtRest ∧ Completion.ofOrder p (r.order b now).2 = [⟨p, false, .success⟩]) ∨
    (¬ r.openAtRest ∧ (Completion.ofOrder p (r.order b now).2 = [] ∨
      Completion.ofOrder p (r.order b now).2 = [⟨p, true, .aborted⟩])) := by
  unfold PoleRecord.openAtRest
  cases hm : r.mech with
  | idle => by_cases hp : r.position = .opened <;> simp [PoleRecord.order, hm, hp, Completion.ofOrder]
  | failed => by_cases hp : r.position = .opened <;> simp [PoleRecord.order, hm, hp, Completion.ofOrder]
  | tripPulse => simp [PoleRecord.order, hm, Completion.ofOrder]
  | tripWait => simp [PoleRecord.order, hm, Completion.ofOrder]
  | tripRetry => simp [PoleRecord.order, hm, Completion.ofOrder]
  | closePulse => simp [PoleRecord.order, hm, Completion.ofOrder]
  | closeWait => simp [PoleRecord.order, hm, Completion.ofOrder]

/-! ## Members of a group -/

/-- A group of poles from its members. -/
theorem PerPole.ext_get {α : Type} {v w : PerPole α} (h : ∀ p, v.get p = w.get p) : v = w := by
  obtain ⟨a, b, c⟩ := v
  obtain ⟨a', b', c'⟩ := w
  have ha : a = a' := h .a
  have hb : b = b' := h .b
  have hc : c = c' := h .c
  rw [ha, hb, hc]

@[simp] theorem PerPole.get_set {α : Type} (v : PerPole α) (p q : Pole) (x : α) :
    (v.set p x).get q = if q = p then x else v.get q := by
  cases p <;> cases q <;> rfl

theorem PerPole.get_zip {α β γ : Type} (f : α → β → γ) (v : PerPole α) (w : PerPole β) (p : Pole) :
    (v.zip f w).get p = f (v.get p) (w.get p) := by
  cases p <;> rfl

/-! ## Release (R40) -/

theorem Element.release_release (e : Element) : e.release.release = e.release := by
  unfold Element.release
  by_cases h : e.state = .operated <;> simp [h, Element.rest]

theorem Element.release_not_operated (e : Element) : e.release.state ≠ .operated := by
  unfold Element.release
  by_cases h : e.state = .operated <;> simp [h, Element.rest]

/-- R40: after a release there is nothing to release. -/
theorem Protection.release_release (p : Protection) : p.release.release = p.release := by
  have elements : p.release.elements.map Element.release = p.release.elements := by
    simp [Protection.release, PerChannel.map, Element.release_release]
  have counts : p.release.release.highSet = p.release.highSet := by
    refine PerPole.ext_get fun x => ?_
    cases x
    · exact if_neg p.elements.a.release_not_operated
    · exact if_neg p.elements.b.release_not_operated
    · exact if_neg p.elements.c.release_not_operated
  have episode : p.release.release.episode = p.release.episode := by
    have again : p.release.release.episode =
        if allIdle (p.release.elements.map Element.release) = true then none else p.release.episode := rfl
    have once : p.release.episode = if allIdle p.release.elements = true then none else p.episode := rfl
    rw [again, elements, once]
    by_cases idle : allIdle p.release.elements = true <;> simp [idle]
  have whole : p.release.release = { p.release with
      elements := p.release.elements.map Element.release
      highSet := p.release.release.highSet, episode := p.release.release.episode } := rfl
  rw [whole, elements, counts, episode]

/-! ## The open record's maxima (R51, R66) -/

/-- R66: maxima raised to an episode's, while it is open. -/
def raisedMaxima (ep : Option Episode) (m : PerChannel Nat) : PerChannel Nat :=
  (ep.map fun ep => m.zip max ep.maxima).getD m

theorem raisedMaxima_raisedMaxima (ep : Option Episode) (m : PerChannel Nat) :
    raisedMaxima ep (raisedMaxima ep m) = raisedMaxima ep m := by
  cases ep <;> simp [raisedMaxima, PerChannel.zip]

/-- R66: the fault list with the open record's maxima raised. -/
def Sequence.raised (q : Sequence) (ep : Option Episode) : List FaultRecord :=
  q.faults.map fun r => if q.openRecord = some r.number then { r with maxima := raisedMaxima ep r.maxima } else r

theorem Sequence.raised_raised (q : Sequence) (ep : Option Episode) :
    { q with faults := q.raised ep }.raised ep = q.raised ep := by
  unfold Sequence.raised
  rw [List.map_map]
  refine List.map_congr_left fun r _ => ?_
  by_cases h : q.openRecord = some r.number <;> simp [h, raisedMaxima_raisedMaxima]

theorem raiseMaxima_eq (s : State) :
    raiseMaxima s = s.withSeq { s.seq with faults := s.seq.raised s.prot.episode } := by
  unfold raiseMaxima Sequence.raised
  cases s.prot.episode with
  | none => simp [raisedMaxima, State.withSeq]
  | some ep =>
    dsimp only
    rw [updateOpen_eq, updateOpen_faults]
    rfl

/-! ## Operator trips and the operator close (R60, R62) -/

/-- R60, R61: the ends of operator trips reach the cause of a LOCKOUT and the answers alone. -/
theorem operatorTripsEnd_eq (l : List OperatorTrip) (s : State) :
    operatorTripsEnd l s =
      { s with
        seq := { s.seq with cause := (operatorTripsEnd l s).seq.cause }
        cmd := (operatorTripsEnd l s).cmd, port := (operatorTripsEnd l s).port } := by
  induction l generalizing s with
  | nil => rfl
  | cons t rest ih =>
    have one : operatorTripEnds t s =
        { s with
          seq := { s.seq with cause := (operatorTripEnds t s).seq.cause }
          cmd := (operatorTripEnds t s).cmd, port := (operatorTripEnds t s).port } := by
      unfold operatorTripEnds
      dsimp only
      split <;> split <;> rfl
    unfold operatorTripsEnd
    rw [ih, one]

theorem operatorTripsEnd_cause {l : List OperatorTrip} {s : State} (h : s.seq.state ≠ .lockout) :
    (operatorTripsEnd l s).seq.cause = s.seq.cause := by
  induction l generalizing s with
  | nil => rfl
  | cons t rest ih =>
    have one : (operatorTripEnds t s).seq = s.seq := by
      unfold operatorTripEnds
      simp only [h, and_false, if_false]
      split <;> rfl
    unfold operatorTripsEnd
    rw [ih (by rwa [one]), one]

/-- R62, R105: handing over the close's outcome reaches the operator close alone. -/
theorem handCloseOutcome_blocks (o : CloseOutcome) (s : State) :
    (handCloseOutcome o s).seq = { s.seq with operatorClose := (handCloseOutcome o s).seq.operatorClose } ∧
    (handCloseOutcome o s).prot = s.prot ∧ (handCloseOutcome o s).poles = s.poles ∧
    (handCloseOutcome o s).batt = s.batt ∧ s.closeKept (handCloseOutcome o s) := by
  unfold handCloseOutcome
  split
  · split
    · refine ⟨rfl, rfl, rfl, rfl, fun r h => ?_⟩
      unfold closeEnds at h
      simp only [State.onlyClose_holds, State.withSeq_holds] at h
      split at h
      · simp at h
      · simpa using h
    · exact ⟨rfl, rfl, rfl, rfl, .refl s⟩
  · exact ⟨rfl, rfl, rfl, rfl, .refl s⟩

/-! ## Completions taken while a fault trip is outstanding (R51, R64) -/

/-- R64: while a trip ordered for a fault is outstanding, no TRIP of LOCKOUT is raised. -/
theorem lockoutTripDone_waiting {s : State} {q : Pole} (h : s.seq.ctx.tripsOut.get q = some .fault) :
    lockoutTripDone s = s := by
  unfold lockoutTripDone
  refine if_neg fun ⟨_, waiting, _⟩ => ?_
  simp only [PerPole.toList, List.any_cons, List.any_nil, Bool.or_false, Bool.or_eq_false_iff,
    decide_eq_false_iff_not] at waiting
  obtain ⟨a, b, c⟩ := waiting
  cases q
  exacts [a h, b h, c h]

/-- R51: while a trip is outstanding, TRIPPING does not end. -/
theorem endIfSettled_waiting {s : State} {q : Pole} (h : s.seq.ctx.tripsOut.get q = some .fault) :
    endIfSettled s = (s, []) := by
  unfold endIfSettled
  refine if_neg fun ⟨_, settled⟩ => ?_
  simp only [ShotContext.settled, ShotContext.tripping, PoleMask.isEmpty, PerPole.map, Bool.and_eq_true,
    Bool.not_eq_true', Bool.or_eq_false_iff] at settled
  obtain ⟨⟨⟨a, b⟩, c⟩, _⟩ := settled
  cases q <;> simp_all [PerPole.get]

end Sys2Proof.Machine
end

section
/-! PROOFS. What the completions that orders bring at once leave, while a trip ordered for a fault is outstanding
(R51). -/

namespace Sys2Proof.Machine

/-- What completions leave of `s` that is `t`: the trips of the poles in `done` have completed, and closes may have been
aborted. Nothing else of the sequence moves but what waits on them. -/
structure State.Settling (s : State) (done : PoleMask) (t : State) : Prop where
  seq : t.seq = { s.seq with
    cause := t.seq.cause, faults := t.seq.faults, operatorTrips := t.seq.operatorTrips
    operatorClose := t.seq.operatorClose
    ctx := { s.seq.ctx with
      tripsOut := done.zip (fun d k => if d then none else k) s.seq.ctx.tripsOut
      reclose := done.union s.seq.ctx.reclose
      closesOut := t.seq.ctx.closesOut } }
  cause : done.isEmpty = true ∨ s.seq.state ≠ .lockout → t.seq.cause = s.seq.cause
  closes : ∀ p, s.seq.ctx.closesOut.get p = false → t.seq.ctx.closesOut.get p = false
  faults : t.seq.faults = if done.isEmpty then s.seq.faults else s.seq.raised s.prot.release.episode
  prot : t.prot = if done.isEmpty then s.prot else s.prot.release
  poles : t.poles = s.poles
  batt : t.batt = s.batt
  close : s.closeKept t

/-- The trips still outstanding. -/
theorem State.Settling.tripsOut_get {s t : State} {done : PoleMask} (h : s.Settling done t) (p : Pole) :
    t.seq.ctx.tripsOut.get p = if done.get p = true then none else s.seq.ctx.tripsOut.get p := by
  rw [h.seq]
  exact PerPole.get_zip _ _ _ p

/-- Nothing has completed. -/
theorem State.Settling.start (s : State) : s.Settling .none s :=
  ⟨rfl, fun _ => rfl, fun _ none => none, rfl, rfl, rfl, rfl, .refl s⟩

@[simp] theorem PoleMask.isEmpty_set (m : PoleMask) (p : Pole) : PoleMask.isEmpty (m.set p true) = false := by
  cases p <;> simp [PoleMask.isEmpty, PerPole.set]

/-- R51 steps 1 to 4: a trip ordered for a fault completes SUCCESS. -/
theorem tripCompleted_fault {s : State} {p : Pole} (h : s.seq.ctx.tripsOut.get p = some .fault) :
    tripCompleted p .success s =
      { s with
        prot := s.prot.release
        seq := { s.seq with
          faults := s.seq.raised s.prot.release.episode
          ctx := { s.seq.ctx with
            tripsOut := s.seq.ctx.tripsOut.set p none, reclose := s.seq.ctx.reclose.set p true } } } := by
  simp only [tripCompleted, h, raiseMaxima_eq]
  rfl

/-- R51, R60: and the operator trips that wait for it are answered. -/
theorem tripTaken_blocks {s t : State} {p : Pole} (h : s.seq.ctx.tripsOut.get p = some .fault)
    (ht : operatorTripsTake p .success (tripCompleted p .success s) = t) :
    t.seq = { s.seq with
      cause := t.seq.cause, operatorTrips := t.seq.operatorTrips, faults := s.seq.raised s.prot.release.episode
      ctx := { s.seq.ctx with
        tripsOut := s.seq.ctx.tripsOut.set p none, reclose := s.seq.ctx.reclose.set p true } } ∧
    (s.seq.state ≠ .lockout → t.seq.cause = s.seq.cause) ∧ t.prot = s.prot.release ∧ t.poles = s.poles ∧
    t.batt = s.batt ∧ t.holds = s.holds := by
  subst ht
  rw [tripCompleted_fault h]
  unfold operatorTripsTake
  dsimp only
  refine ⟨?_, fun out => operatorTripsEnd_cause out, ?_, ?_, ?_, ?_⟩
  all_goals rw [operatorTripsEnd_eq]
  all_goals rfl

/-- R51: a trip completion, with another trip still outstanding for a fault. -/
theorem State.Settling.trip {s t : State} {done : PoleMask} (h : s.Settling done t) {p q : Pole}
    (hp : done.get p = false) (out : s.seq.ctx.tripsOut.get p = some .fault) (hq : done.get q = false) (other : q ≠ p)
    (waiting : s.seq.ctx.tripsOut.get q = some .fault) :
    ∃ u, takeCompletion ⟨p, false, .success⟩ t = (u, []) ∧ s.Settling (done.set p true) u := by
  have still : ∀ x, done.get x = false → t.seq.ctx.tripsOut.get x = s.seq.ctx.tripsOut.get x :=
    fun x hx => (h.tripsOut_get x).trans (if_neg (Bool.eq_false_iff.mp hx))
  have here := (still p hp).trans out
  generalize hu : operatorTripsTake p .success (tripCompleted p .success t) = u
  obtain ⟨seq, cause, prot, poles, batt, holds⟩ := tripTaken_blocks here hu
  have there : u.seq.ctx.tripsOut.get q = some .fault := by
    rw [seq]
    simp [other, still q hq, waiting]
  have taken : takeCompletion ⟨p, false, .success⟩ t = (u, []) := by
    show endIfSettled (lockoutTripDone (operatorTripsTake p .success (tripCompleted p .success t))) = _
    rw [hu, lockoutTripDone_waiting there, endIfSettled_waiting there]
  have release : t.prot.release = s.prot.release := by
    rw [h.prot]
    split
    · rfl
    · exact s.prot.release_release
  have raised : t.seq.raised s.prot.release.episode = s.seq.raised s.prot.release.episode := by
    have record : t.seq.openRecord = s.seq.openRecord := by rw [h.seq]
    have same : t.seq.raised s.prot.release.episode =
        { s.seq with faults := t.seq.faults }.raised s.prot.release.episode := by
      unfold Sequence.raised
      rw [record]
    rw [same, h.faults]
    split
    · rfl
    · exact s.seq.raised_raised _
  have state : t.seq.state = s.seq.state := by rw [h.seq]
  rw [release, raised] at seq
  refine ⟨u, taken, ?_, fun hc => ?_, fun x none => ?_, ?_, ?_, poles.trans h.poles, batt.trans h.batt,
    fun r hr => h.close r (holds ▸ hr)⟩
  · rw [seq, h.seq]
    cases p <;> rfl
  · rw [PoleMask.isEmpty_set] at hc
    have free := hc.resolve_left (by decide)
    exact (cause (state ▸ free)).trans (h.cause (Or.inr free))
  · rw [seq]
    exact h.closes x none
  · rw [seq, PoleMask.isEmpty_set]
    rfl
  · rw [prot, release, PoleMask.isEmpty_set]
    rfl

/-- R51, R76: a close aborted by a trip order, with a trip still outstanding for a fault. -/
theorem State.Settling.abortedClose {s t : State} {done : PoleMask} (h : s.Settling done t) (p : Pole) {q : Pole}
    (hq : done.get q = false) (waiting : s.seq.ctx.tripsOut.get q = some .fault) (state : s.seq.state ≠ .closing) :
    ∃ u, takeCompletion ⟨p, true, .aborted⟩ t = (u, []) ∧ s.Settling done u := by
  have still : t.seq.ctx.tripsOut.get q = some .fault :=
    (h.tripsOut_get q).trans ((if_neg (Bool.eq_false_iff.mp hq)).trans waiting)
  by_cases untracked : t.seq.ctx.closesOut.get p = false
  · exact ⟨t, if_pos untracked, h⟩
  · let ctx := { t.seq.ctx with closesOut := t.seq.ctx.closesOut.set p false }
    let taken := t.withSeq { t.seq with ctx := ctx, operatorClose := t.seq.operatorClose.map (·.take p .aborted) }
    generalize hu : handCloseOutcome .tripped taken = u
    obtain ⟨seq, prot, poles, batt, close⟩ := handCloseOutcome_blocks .tripped taken
    rw [hu] at seq prot poles batt close
    have there : u.seq.ctx.tripsOut.get q = some .fault := by
      rw [seq]
      exact still
    have tripping : t.seq.state ≠ .closing := by
      rw [h.seq]
      exact state
    have answer : takeCompletion ⟨p, true, .aborted⟩ t = (u, []) := by
      have noFailure : (t.seq.ctx.closeFailed || decide (OpOutcome.aborted = .failed)) = t.seq.ctx.closeFailed :=
        Bool.or_false _
      show takeCloseCompletion p .aborted t = _
      unfold takeCloseCompletion
      rw [if_neg untracked, noFailure]
      dsimp only
      refine (if_neg tripping).trans ?_
      exact (congrArg endIfSettled hu).trans (endIfSettled_waiting there)
    refine ⟨u, answer, ?_, fun hc => ?_, fun x none => ?_, ?_, prot.trans h.prot, poles.trans h.poles,
      batt.trans h.batt, h.close.trans close⟩
    · rw [seq]
      show { taken.seq with operatorClose := u.seq.operatorClose } = _
      simp only [taken, ctx, State.withSeq_seq]
      rw [h.seq]
    · rw [seq]
      exact h.cause hc
    · rw [seq]
      refine (PerPole.get_set _ p x false).trans ?_
      split
      · rfl
      · exact h.closes x none
    · rw [seq]
      exact h.faults

/-! ## The completions of an order set -/

section
variable {s u : State} {done m : PoleMask} {q : Pole} (r : Pole → PoleRecord) (b : Bank) (now : Nat)

/-- What one order of a set brings at once, taken with a trip still outstanding for a fault: the trip of a pole OPEN at
rest completes, and no other. -/
theorem State.Settling.order (h : s.Settling done u) (state : s.seq.state ≠ .closing)
    (out : ∀ p, m.get p = true → s.seq.ctx.tripsOut.get p = some .fault)
    (waiting : s.seq.ctx.tripsOut.get q = some .fault)
    (hq : done.get q = false) {p : Pole} (hp : done.get p = false) (rest : q = p → ¬ (r q).openAtRest) (n : Nat)
    (later : List Completion) :
    ∃ done' v n', s.Settling done' v ∧ n ≤ n' ∧
      settle (n + 1) ((if m.get p then Completion.ofOrder p ((r p).order b now).2 else []) ++ later) u =
        settle n' later v ∧
      ∀ x, done'.get x = true ↔ done.get x = true ∨ (x = p ∧ m.get x = true ∧ (r x).openAtRest) := by
  by_cases on : m.get p = true
  · rw [if_pos on]
    obtain ⟨atOnce, trip⟩ | ⟨notAtOnce, none | abort⟩ := ofOrder_eq p (r p) b now
    · have other : q ≠ p := fun same => rest same (same ▸ atOnce)
      obtain ⟨v, taken, settling⟩ := h.trip hp (out p on) hq other waiting
      refine ⟨done.set p true, v, n, settling, le_rfl, ?_, fun x => ?_⟩
      · rw [trip]
        show settle n (later ++ (takeCompletion _ u).2) (takeCompletion _ u).1 = _
        rw [taken, List.append_nil]
      · rw [PerPole.get_set]
        by_cases same : x = p
        · subst same
          simp [on, atOnce]
        · simp [same]
    · refine ⟨done, u, n + 1, h, n.le_succ, by rw [none, List.nil_append], fun x => ?_⟩
      exact (or_iff_left fun ⟨same, _, atOnce⟩ => notAtOnce (same ▸ atOnce)).symm
    · obtain ⟨v, taken, settling⟩ := h.abortedClose p hq waiting state
      refine ⟨done, v, n, settling, le_rfl, ?_, fun x => ?_⟩
      · rw [abort]
        show settle n (later ++ (takeCompletion _ u).2) (takeCompletion _ u).1 = _
        rw [taken, List.append_nil]
      · exact (or_iff_left fun ⟨same, _, atOnce⟩ => notAtOnce (same ▸ atOnce)).symm
  · rw [if_neg on]
    refine ⟨done, u, n + 1, h, n.le_succ, by rw [List.nil_append], fun x => ?_⟩
    exact (or_iff_left fun ⟨same, ordered, _⟩ => on (same ▸ ordered)).symm

/-- And what those of a list of poles bring. -/
theorem State.Settling.orders (h : s.Settling done u) (state : s.seq.state ≠ .closing)
    (out : ∀ p, m.get p = true → s.seq.ctx.tripsOut.get p = some .fault)
    (waiting : s.seq.ctx.tripsOut.get q = some .fault)
    (hq : done.get q = false) {ps : List Pole} (distinct : ps.Nodup) (fresh : ∀ p ∈ ps, done.get p = false)
    (rest : q ∈ ps → ¬ (r q).openAtRest) {n : Nat} (enough : ps.length ≤ n) (later : List Completion) :
    ∃ done' v n', s.Settling done' v ∧ n ≤ n' + ps.length ∧
      settle n ((ps.flatMap fun p => if m.get p then Completion.ofOrder p ((r p).order b now).2 else []) ++ later) u =
        settle n' later v ∧
      ∀ x, done'.get x = true ↔ done.get x = true ∨ (x ∈ ps ∧ m.get x = true ∧ (r x).openAtRest) := by
  induction ps generalizing done u n with
  | nil => exact ⟨done, u, n, h, le_rfl, rfl, fun x => by simp⟩
  | cons p ps ih =>
    obtain ⟨notLater, distinct⟩ := List.nodup_cons.mp distinct
    obtain ⟨n, rfl⟩ := Nat.exists_eq_add_of_le' (le_trans (Nat.succ_pos _) enough)
    obtain ⟨done₁, v₁, n₁, h₁, fuel₁, settle₁, which₁⟩ := h.order r b now state out waiting hq
      (fresh p List.mem_cons_self) (fun same => rest (same ▸ List.mem_cons_self)) n
      ((ps.flatMap fun p => if m.get p then Completion.ofOrder p ((r p).order b now).2 else []) ++ later)
    have clear : ∀ x, done.get x = false → (x = p → ¬ (r x).openAtRest ∨ x ∈ ps) → done₁.get x = false := by
      intro x outstanding notDone
      refine Bool.eq_false_iff.mpr fun set => ?_
      obtain before | ⟨same, -, atOnce⟩ := (which₁ x).mp set
      · exact absurd before (by simp [outstanding])
      · exact (notDone same).elim (fun not => not atOnce) fun mem => notLater (same ▸ mem)
    obtain ⟨done₂, v₂, n₂, h₂, fuel₂, settle₂, which₂⟩ := ih h₁
      (clear q hq fun same => Or.inl (rest (same ▸ List.mem_cons_self))) distinct
      (fun x mem => clear x (fresh x (List.mem_cons_of_mem p mem)) fun _ => Or.inr mem)
      (fun mem => rest (List.mem_cons_of_mem p mem)) (le_trans (Nat.le_of_succ_le_succ enough) fuel₁)
    refine ⟨done₂, v₂, n₂, h₂, by rw [List.length_cons]; omega, ?_, fun x => ?_⟩
    · rw [List.flatMap_cons, List.append_assoc, settle₁, settle₂]
    · rw [which₂, which₁, List.mem_cons]
      tauto

end

end Sys2Proof.Machine
end

section
/-! PROOFS. An operation signal up to its trip orders (R47 to R50, R56, R58, R59, R62, R64 to R66). -/

namespace Sys2Proof.Machine

/-! ## The signal by the sequence's state -/

/-- R48, R58, R59: the states in which a signal begins a shot. -/
abbrev Sequence.begins (q : Sequence) : Prop := q.state = .reset ∨ q.state = .closing ∨ q.state = .reclaim

/-- R48, R59, R62, R65: where the signal starts a fault record. -/
abbrev Sequence.starts (q : Sequence) : Prop :=
  q.state = .reset ∨ (q.state = .closing ∧ q.afterClose = true) ∨ (q.state = .reclaim ∧ q.openRecord = none)

theorem Sequence.starts.state {q : Sequence} (h : q.starts) : q.state ≠ .lockout := by
  obtain h | ⟨h, -⟩ | ⟨h, -⟩ := h <;> simp [h]

/-- R48, R58, R62: the shot of the signal. -/
def Sequence.signalShot (q : Sequence) : Nat :=
  if q.state = .reset then 1 else if q.state = .closing then (if q.afterClose then 1 else q.shot + 1) else q.shot

/-- R56, R59, R62: the end cause after the signal. -/
def State.signalCause (s : State) : Option EndCause :=
  let onto := if s.seq.afterClose = true ∧ s.store.active.closeOntoFaultLockout = true then some EndCause.closeOntoFault
    else none
  if s.seq.state = .reset then none else if s.seq.state = .closing ∨ s.seq.state = .reclaim then onto
  else if s.seq.state = .deadTime then some .evolving else s.seq.ctx.endCause

section
variable (op : ElementSet) (s : State)

/-- R47, R49, R50, R56, R64: the poles that the signal chooses. -/
def State.chosen : PoleMask :=
  if s.seq.begins then
    if s.store.active.threePole s.seq.signalShot = false ∧ op.time.g = false ∧
        op.phases ∈ ([⟨true, false, false⟩, ⟨false, true, false⟩, ⟨false, false, true⟩] : List PoleMask) then op.phases
    else countsClosed s
  else if s.seq.state = .deadTime then s.seq.ctx.tripping.map (!·)
  else if s.seq.state = .tripping then ((countsClosed s).diff s.seq.ctx.tripping).diff s.seq.ctx.failed
  else (countsClosed s).diff s.seq.ctx.tripping

/-- R47: the poles to trip. -/
def State.signalMask : PoleMask := orOrderAll (s.chosen op) s

/-! The signal is taken while the episode `ep` is open. -/

section
variable (ep : Option Episode)

/-- R65: the fault record that the signal starts. -/
def State.signalRecord : FaultRecord :=
  { number := s.seq.nextRecord, startTag := (ep.map Episode.tag).getD s.time.timeTag,
    shots := s.seq.signalShot, maxima := (ep.map Episode.maxima).getD ⟨0, 0, 0, 0⟩, elements := op,
    lastMask := ⟨false, false, false⟩, clearing := 0, outcome := none, cause := none }

/-- R65, R66: the fault list with the signal in it, before its orders. -/
def State.signalFaults : List FaultRecord :=
  if s.seq.starts then (if s.seq.faults.length < 8 then s.seq.faults else s.seq.faults.drop 1) ++ [s.signalRecord op ep]
  else if s.seq.state = .lockout then s.seq.faults
  else s.seq.faults.map fun r =>
    if s.seq.openRecord = some r.number then
      { r with elements := r.elements.union op, maxima := raisedMaxima ep r.maxima }
    else r

/-- The sequence with the signal in the fault record alone. -/
def State.recorded : Sequence :=
  { s.seq with
    openRecord := if s.seq.starts then some s.seq.nextRecord else s.seq.openRecord
    nextRecord := if s.seq.starts then (if s.seq.nextRecord = 65535 then 1 else s.seq.nextRecord + 1)
      else s.seq.nextRecord
    faults := s.signalFaults op ep }

/-- The shot context with the signal in it and the trips recorded, before the Pole Drive takes them. -/
def State.signalCtx : ShotContext :=
  { pickup := if s.seq.begins then ep.map Episode.instant else s.seq.ctx.pickup
    elements := if s.seq.begins then op else s.seq.ctx.elements.union op
    tripsOut := (s.signalMask op).zip (fun on old => if on then some .fault else old) s.seq.ctx.tripsOut
    closesOut := s.seq.ctx.closesOut
    ordered := if s.seq.begins then s.signalMask op else s.seq.ctx.ordered.union (s.signalMask op)
    reclose := if s.seq.begins then .none else s.seq.ctx.reclose
    failed := if s.seq.begins then .none else s.seq.ctx.failed
    closeFailed := !decide s.seq.begins && s.seq.ctx.closeFailed
    endCause := s.signalCause }

/-- The sequence with the signal in it, before the Pole Drive takes its trips. -/
def State.signalled : Sequence :=
  { s.recorded op ep with
    state := if s.seq.state = .lockout then .lockout else .tripping
    shot := s.seq.signalShot
    deadTimer := if s.seq.state = .deadTime then none else s.seq.deadTimer
    reclaimTimer := if s.seq.begins then none else s.seq.reclaimTimer
    afterClose := s.seq.afterClose && !decide s.seq.begins
    ctx := s.signalCtx op ep }

end

/-- R49: one phase alone, in the words of the statement. -/
theorem polesToTrip_eq (b : Bank) (n : Nat) (closed : PoleMask) :
    polesToTrip b n op closed =
      if b.threePole n = false ∧ op.time.g = false ∧
        op.phases ∈ ([⟨true, false, false⟩, ⟨false, true, false⟩, ⟨false, false, true⟩] : List PoleMask) then op.phases
      else closed := by
  have single : ∀ m : PoleMask, ((m.toList.filter id).length == 1) =
      decide (m ∈ ([⟨true, false, false⟩, ⟨false, true, false⟩, ⟨false, false, true⟩] : List PoleMask)) := by
    rintro ⟨a, b, c⟩
    cases a <;> cases b <;> cases c <;> rfl
  unfold polesToTrip
  dsimp only
  rw [single]
  cases b.threePole n <;> cases op.time.g <;> simp

/-- R66: the open record takes the signal. -/
theorem recordSignal_eq :
    recordSignal op s = s.withSeq { s.seq with
      faults := s.seq.faults.map fun r =>
        if s.seq.openRecord = some r.number then
          { r with elements := r.elements.union op, maxima := raisedMaxima s.prot.episode r.maxima }
        else r } := by
  unfold recordSignal
  rw [raiseMaxima_eq, updateOpen_eq, updateOpen_faults]
  unfold Sequence.raised
  simp only [State.withSeq, List.map_map]
  congr 3
  funext r
  by_cases h : s.seq.openRecord = some r.number <;> simp [h]

/-- R66: the open record takes the signal, where no record is started. -/
theorem recorded_joined (none : ¬ s.seq.starts) (out : s.seq.state ≠ .lockout) :
    s.withSeq (s.recorded op s.prot.episode) = recordSignal op s := by
  rw [recordSignal_eq]
  unfold State.recorded State.signalFaults
  rw [if_neg none, if_neg none, if_neg none, if_neg out]

/-- R65: a record is started. -/
theorem recorded_started (starts : s.seq.starts) :
    s.withSeq (s.recorded op s.prot.episode) = startRecord s.seq.signalShot op s := by
  have kept : (if s.seq.faults.length < 8 then s.seq.faults else s.seq.faults.drop 1) =
      if 8 ≤ s.seq.faults.length then s.seq.faults.drop 1 else s.seq.faults := by
    by_cases h : s.seq.faults.length < 8 <;> simp [h, Nat.not_le.mpr, Nat.not_lt.mp]
  unfold State.recorded State.signalFaults
  rw [if_pos starts, if_pos starts, if_pos starts, kept]
  rfl

/-- R64: in LOCKOUT there is none. -/
theorem recorded_lockout (h : s.seq.state = .lockout) : s.recorded op s.prot.episode = s.seq := by
  have none : ¬ s.seq.starts := fun starts => starts.state h
  unfold State.recorded State.signalFaults
  rw [if_neg none, if_neg none, if_neg none, if_pos h]

/-- R48, R58, R59, R62: where a signal begins a shot. -/
theorem takeSignal_begins (begins : s.seq.begins) :
    takeSignal op s = beginShot s.seq.signalShot op s.signalCause (s.withSeq (s.recorded op s.prot.episode)) := by
  obtain h | h | h := begins
  · have shot : s.seq.signalShot = 1 := by simp [Sequence.signalShot, h]
    have cause : s.signalCause = none := by simp [State.signalCause, h]
    rw [recorded_started op s (Or.inl h), shot, cause, takeSignal, h]
    rfl
  · by_cases after : s.seq.afterClose = true
    · have shot : s.seq.signalShot = 1 := by simp [Sequence.signalShot, h, after]
      have cause : s.signalCause = ontoFaultCause s := by simp [State.signalCause, ontoFaultCause, h, after]
      rw [recorded_started op s (Or.inr (Or.inl ⟨h, after⟩)), shot, cause, takeSignal, h]
      exact if_pos after
    · have shot : s.seq.signalShot = s.seq.shot + 1 := by simp [Sequence.signalShot, h, after]
      have cause : s.signalCause = none := by simp [State.signalCause, h, after]
      rw [recorded_joined op s (by simp [h, after]) (by simp [h]), shot, cause, takeSignal, h]
      exact if_neg after
  · have shot : s.seq.signalShot = s.seq.shot := by simp [Sequence.signalShot, h]
    have cause : s.signalCause = if s.seq.afterClose then ontoFaultCause s else none := by
      cases after : s.seq.afterClose <;> simp [State.signalCause, ontoFaultCause, h, after]
    have record : s.withSeq (s.recorded op s.prot.episode) =
        if s.seq.openRecord.isSome then recordSignal op s else startRecord s.seq.shot op s := by
      cases opened : s.seq.openRecord with
      | none => exact shot ▸ recorded_started op s (Or.inr (Or.inr ⟨h, opened⟩))
      | some k => exact recorded_joined op s (by simp [h, opened]) (by simp [h])
    rw [record, shot, cause, takeSignal, h]
    rfl

/-- R48, R58, R59: the shot begun, its poles chosen and its trips recorded. -/
theorem beginShot_eq (begins : s.seq.begins) :
    beginShot s.seq.signalShot op s.signalCause (s.withSeq (s.recorded op s.prot.episode)) =
      orderTrips (s.signalMask op) (s.withSeq (s.signalled op s.prot.episode)) := by
  have out : s.seq.state ≠ .lockout := by
    obtain h | h | h := begins <;> simp [h]
  have dead : s.seq.state ≠ .deadTime := by
    obtain h | h | h := begins <;> simp [h]
  have poles : s.chosen op = polesToTrip s.store.active s.seq.signalShot op (countsClosed s) := by
    rw [polesToTrip_eq]
    exact if_pos begins
  have signalled : s.signalled op s.prot.episode =
      { s.recorded op s.prot.episode with
        state := .tripping, shot := s.seq.signalShot, reclaimTimer := none, afterClose := false
        ctx := { pickup := s.prot.episode.map Episode.instant, elements := op, closesOut := s.seq.ctx.closesOut
                 tripsOut := (s.signalMask op).zip (fun on old => if on then some .fault else old) s.seq.ctx.tripsOut
                 ordered := s.signalMask op, reclose := .none, failed := .none, closeFailed := false
                 endCause := s.signalCause } } := by
    simp only [State.signalled, State.signalCtx, begins, out, dead, if_true, if_false, decide_true, Bool.not_true,
      Bool.and_false, Bool.false_and]
    rfl
  rw [signalled, State.signalMask, poles]
  rfl

/-- R50, R56, R64: where it begins none. -/
theorem takeSignal_joins (joins : ¬ s.seq.begins) :
    takeSignal op s = orderTrips (s.signalMask op) (s.withSeq (s.signalled op s.prot.episode)) := by
  have none : ¬ s.seq.starts := fun h => joins (h.imp_right fun h => h.imp And.left And.left)
  have signalled : s.signalled op s.prot.episode =
      { s.recorded op s.prot.episode with
        state := if s.seq.state = .deadTime then .tripping else s.seq.state
        deadTimer := if s.seq.state = .deadTime then Option.none else s.seq.deadTimer
        ctx := { s.seq.ctx with
          elements := s.seq.ctx.elements.union op
          tripsOut := (s.signalMask op).zip (fun on old => if on then some .fault else old) s.seq.ctx.tripsOut
          ordered := s.seq.ctx.ordered.union (s.signalMask op)
          endCause := if s.seq.state = .deadTime then some .evolving else s.seq.ctx.endCause } } := by
    obtain ⟨reset, closing, reclaim⟩ : s.seq.state ≠ .reset ∧ s.seq.state ≠ .closing ∧ s.seq.state ≠ .reclaim := by
      simpa only [not_or] using joins
    have state : (if s.seq.state = .lockout then SeqState.lockout else .tripping) =
        if s.seq.state = .deadTime then .tripping else s.seq.state := by
      cases h : s.seq.state <;> simp_all
    simp only [State.signalled, State.signalCtx, State.signalCause, Sequence.signalShot, joins, reset, closing, reclaim,
      state, or_self, if_false, decide_false, Bool.not_false, Bool.and_true, Bool.true_and]
    rfl
  have poles : s.chosen op = if s.seq.state = .deadTime then s.seq.ctx.tripping.map (!·)
      else if s.seq.state = .tripping then ((countsClosed s).diff s.seq.ctx.tripping).diff s.seq.ctx.failed
      else (countsClosed s).diff s.seq.ctx.tripping := if_neg joins
  cases h : s.seq.state with
  | reset => exact absurd (Or.inl h) joins
  | closing => exact absurd (Or.inr (Or.inl h)) joins
  | reclaim => exact absurd (Or.inr (Or.inr h)) joins
  | tripping =>
    have signal : takeSignal op s = signalInTripping op s := by rw [takeSignal, h]
    have alive : s.seq.state ≠ .deadTime := by simp [h]
    rw [signal, signalInTripping, ← recorded_joined op s none (by simp [h]), signalled, State.signalMask, poles]
    rw [if_neg alive, if_neg alive, if_neg alive, if_neg alive, if_pos h]
    rfl
  | deadTime =>
    have signal : takeSignal op s = signalInDeadTime op s := by rw [takeSignal, h]
    rw [signal, signalInDeadTime, ← recorded_joined op s none (by simp [h]), signalled, State.signalMask, poles]
    rw [if_pos h, if_pos h, if_pos h, if_pos h]
    rfl
  | lockout =>
    have signal : takeSignal op s = signalInLockout op s := by rw [takeSignal, h]
    have alive : s.seq.state ≠ .deadTime := by simp [h]
    have out : s.seq.state ≠ .tripping := by simp [h]
    rw [signal, signalInLockout, signalled, recorded_lockout op s h, State.signalMask, poles]
    rw [if_neg alive, if_neg alive, if_neg alive, if_neg alive, if_neg out]
    rfl

/-- R48 to R59, R64: an operation signal orders its trips in the state that has the signal in it. -/
theorem takeSignal_eq : takeSignal op s = orderTrips (s.signalMask op) (s.withSeq (s.signalled op s.prot.episode)) := by
  by_cases begins : s.seq.begins
  · rw [takeSignal_begins op s begins, beginShot_eq op s begins]
  · exact takeSignal_joins op s begins

end
end Sys2Proof.Machine
end

section
/-! PROOFS. What an operation signal leaves (R48 to R51, R56, R58, R59, R62, R64 to R66, R72, R76, R103), where some
order does not complete at once. -/

namespace Sys2Proof.Machine

theorem PoleMask.isEmpty_iff (m : PoleMask) : m.isEmpty = true ↔ ∀ p, m.get p = false := by
  obtain ⟨a, b, c⟩ := m
  refine ⟨fun h p => ?_, fun h => ?_⟩
  · simp only [PoleMask.isEmpty, Bool.not_eq_true', Bool.or_eq_false_iff] at h
    obtain ⟨⟨ha, hb⟩, hc⟩ := h
    cases p
    exacts [ha, hb, hc]
  · have ha : a = false := h .a
    have hb : b = false := h .b
    have hc : c = false := h .c
    rw [ha, hb, hc]
    rfl

/-- What the signal `op` leaves of `s`, with the trips of the poles in `done` completed at once. -/
structure State.SignalTaken (op : ElementSet) (s : State) (done : PoleMask) (t : State) : Prop where
  which : ∀ p, done.get p = true ↔ (s.signalMask op).get p = true ∧ (s.poleRec p).openAtRest
  seq : t.seq = { s.signalled op s.prot.episode with
    cause := t.seq.cause, faults := t.seq.faults, operatorTrips := t.seq.operatorTrips
    operatorClose := t.seq.operatorClose
    ctx := { s.signalCtx op s.prot.episode with
      tripsOut := done.zip (fun d k => if d then none else k) (s.signalCtx op s.prot.episode).tripsOut
      reclose := done.union (s.signalCtx op s.prot.episode).reclose
      closesOut := t.seq.ctx.closesOut } }
  cause : done.isEmpty = true ∨ s.seq.state ≠ .lockout → t.seq.cause = s.seq.cause
  faults : t.seq.faults = if done.isEmpty then s.signalFaults op s.prot.episode
    else (s.signalled op s.prot.episode).raised s.prot.release.episode
  prot : t.prot = if done.isEmpty then s.prot else s.prot.release
  poles : ∀ p, t.poleRec p = if (s.signalMask op).get p = true then ((s.poleRec p).order s.store.active s.now).1
    else s.poleRec p
  test : t.batt.test = none
  close : ∀ r, s.holds.close = some r → r.phase = .warning → t.holds.close = none

/-- R47 to R51, R72, R76: the signal, with an order that does not complete at once. -/
theorem operationSignal_taken (op : ElementSet) (s : State)
    (pending : ∃ p, (s.signalMask op).get p = true ∧ ¬ (s.poleRec p).openAtRest) :
    ∃ done, s.SignalTaken op done (operationSignal op s) := by
  obtain ⟨q, ordered, notAtOnce⟩ := pending
  let e := s.signalled op s.prot.episode
  generalize hu : orderTrips (s.signalMask op) (s.withSeq e) = u
  obtain ⟨seq, prot, close, test⟩ := orderTrips_blocks (s.signalMask op) (s.withSeq e)
  have poles := orderTrips_poleRec (s.signalMask op) (s.withSeq e)
  have completions := orderTrips_completions (s.signalMask op) (s.withSeq e)
  rw [hu] at seq prot close test poles completions
  have out : ∀ p, (s.signalMask op).get p = true → u.1.seq.ctx.tripsOut.get p = some .fault := by
    intro p on
    rw [seq]
    exact (PerPole.get_zip _ _ _ p).trans (if_pos on)
  have state : u.1.seq.state ≠ .closing := by
    rw [seq]
    show (if s.seq.state = .lockout then SeqState.lockout else .tripping) ≠ .closing
    split <;> decide
  obtain ⟨done, v, n, settling, -, settled', which⟩ := (State.Settling.start u.1).orders s.poleRec s.store.active s.now
    state out (out q ordered) (by cases q <;> rfl) (ps := [.a, .b, .c]) (by decide) (fun p _ => by cases p <;> rfl)
    (fun _ => notAtOnce) (n := 12) (by decide) []
  have result : operationSignal op s = s.onlySequence (cancelWarning .sequenceActive v) := by
    unfold operationSignal settled
    rw [takeSignal_eq, hu, completions]
    rw [List.append_nil, settle_nil] at settled'
    exact congrArg (fun w => s.onlySequence (cancelWarning .sequenceActive w)) settled'
  have all : ∀ p : Pole, p ∈ [Pole.a, .b, .c] := by
    intro p
    cases p <;> decide
  rw [result]
  refine ⟨done, ⟨fun p => ?_, ?_, fun free => ?_, ?_, ?_, fun p => ?_, ?_, fun r was warning => ?_⟩⟩
  · have none : PoleMask.none.get p = false := by cases p <;> rfl
    simp [which, none, all]
  · have moved := settling.seq
    rw [seq] at moved
    exact moved
  · have notLockout : done.isEmpty = true ∨ u.1.seq.state ≠ .lockout := by
      refine free.imp_right fun notLockout => ?_
      rw [seq]
      show (if s.seq.state = .lockout then SeqState.lockout else .tripping) ≠ .lockout
      rw [if_neg notLockout]
      decide
    have kept := settling.cause notLockout
    rw [seq] at kept
    exact kept
  · have moved := settling.faults
    rw [seq, prot] at moved
    exact moved
  · have moved := settling.prot
    rw [prot] at moved
    exact moved
  · have same : v.poleRec p = u.1.poleRec p := congrArg (fun d : PoleDrive => d.pole.get p) settling.poles
    exact same.trans (poles p)
  · exact (congrArg (·.test) settling.batt).trans (test ⟨q, ordered⟩)
  · show (cancelWarning .sequenceActive v).holds.close = none
    rw [cancelWarning_close, Option.filter_eq_none_iff]
    intro r' kept
    have same : r' = r := Option.some.inj (((close.trans settling.close) r' kept).symm.trans was)
    simp [same, warning]

end Sys2Proof.Machine
end

section
/-! PROOFS. What an operation signal leaves, clause by clause as the statement says it. -/

namespace Sys2Proof.Machine

/-! ## The orders, pole by pole (R51, R72, R76) -/

section
variable {op : ElementSet} {s t : State} {done : PoleMask} {p : Pole}

/-- R72: no order completes at once where no chosen pole is OPEN at rest. -/
theorem State.SignalTaken.isEmpty_iff (h : s.SignalTaken op done t) :
    done.isEmpty = true ↔ ∀ p, ¬ ((s.signalMask op).get p = true ∧ (s.poleRec p).openAtRest) := by
  simp only [PoleMask.isEmpty_iff, ← h.which, Bool.not_eq_true]

/-- R51, R72: a pole OPEN at rest. -/
theorem State.SignalTaken.atOnce (h : s.SignalTaken op done t)
    (atOnce : (s.signalMask op).get p = true ∧ (s.poleRec p).openAtRest) :
    t.seq.ctx.tripsOut.get p = none ∧ t.seq.ctx.reclose.get p = true ∧
      t.poleRec p = { s.poleRec p with last := some .success } := by
  have completed := (h.which p).mpr atOnce
  obtain ⟨on, position, rest⟩ := atOnce
  refine ⟨?_, ?_, ?_⟩
  · rw [h.seq]
    exact (PerPole.get_zip _ _ _ p).trans (if_pos completed)
  · rw [h.seq]
    refine (PerPole.get_zip _ _ _ p).trans ?_
    rw [completed, Bool.true_or]
  · rw [h.poles, if_pos on, PoleRecord.order_atOnce _ _ position rest]

/-- R51: any other pole. -/
theorem State.SignalTaken.notAtOnce (h : s.SignalTaken op done t)
    (notAtOnce : ¬ ((s.signalMask op).get p = true ∧ (s.poleRec p).openAtRest)) :
    t.seq.ctx.tripsOut.get p = (if (s.signalMask op).get p then some .fault else s.seq.ctx.tripsOut.get p) ∧
      t.seq.ctx.reclose.get p = (!decide s.seq.begins && s.seq.ctx.reclose.get p) := by
  have outstanding : done.get p = false := Bool.eq_false_iff.mpr (mt (h.which p).mp notAtOnce)
  refine ⟨?_, ?_⟩
  · rw [h.seq]
    refine (PerPole.get_zip _ _ _ p).trans ((if_neg (by simp [outstanding])).trans ?_)
    exact PerPole.get_zip _ _ _ p
  · rw [h.seq]
    refine (PerPole.get_zip _ _ _ p).trans ?_
    rw [outstanding, Bool.false_or]
    show PerPole.get (if s.seq.begins then PoleMask.none else s.seq.ctx.reclose) p = _
    by_cases begins : s.seq.begins
    · rw [if_pos begins, decide_eq_true begins]
      cases p <;> rfl
    · rw [if_neg begins, decide_eq_false begins]
      rfl

/-- R72: a pole at rest that does not read OPEN. -/
theorem State.SignalTaken.begun (h : s.SignalTaken op done t) (on : (s.signalMask op).get p = true)
    (notAtOnce : ¬ ((s.signalMask op).get p = true ∧ (s.poleRec p).openAtRest))
    (rest : (s.poleRec p).mech = .idle ∨ (s.poleRec p).mech = .failed) :
    t.poleRec p = (s.poleRec p).tripBegun s.store.active s.now := by
  rw [h.poles, if_pos on, PoleRecord.order_begins _ _ (fun position => notAtOnce ⟨on, position, rest⟩) rest]
  rfl

/-- R76: a pole that is closing. -/
theorem State.SignalTaken.aborted (h : s.SignalTaken op done t) (on : (s.signalMask op).get p = true)
    (closing : (s.poleRec p).mech = .closePulse ∨ (s.poleRec p).mech = .closeWait) :
    t.poleRec p = { (s.poleRec p).tripBegun s.store.active s.now with
      last := some .aborted, heldOpen := decide ((s.poleRec p).position = .opened) } := by
  rw [h.poles, if_pos on, PoleRecord.order_closing _ _ closing]
  rfl

/-- R72: a pole that is tripping, or is not chosen. -/
theorem State.SignalTaken.kept (h : s.SignalTaken op done t)
    (kept : (s.signalMask op).get p = false ∨ (s.poleRec p).tripping) : t.poleRec p = s.poleRec p := by
  rw [h.poles]
  split
  case isTrue on =>
    rw [PoleRecord.order_tripping _ _ (kept.resolve_left (by simp [on]))]
  case isFalse => rfl

end

/-! ## The elements (R40) -/

theorem Protection.release_get (q : Protection) (x : Channel) :
    q.release.elements.get x = (q.elements.get x).release := by
  cases x <;> rfl

theorem Protection.release_episode (q : Protection) : q.release.episode = none ∨ q.release.episode = q.episode := by
  unfold Protection.release
  dsimp only
  split
  · exact Or.inl rfl
  · exact Or.inr rfl

/-! ## The fault records (R65, R66) -/

/-- R66: maxima raised to those of an episode stay so when it is released. -/
theorem raisedMaxima_released {e ep : Option Episode} (h : e = none ∨ e = ep) (m : PerChannel Nat) :
    raisedMaxima e (raisedMaxima ep m) = raisedMaxima ep m := by
  obtain rfl | rfl := h
  · rfl
  · exact raisedMaxima_raisedMaxima e m

/-- R66: where the open record has the episode's maxima already, raising them changes nothing. -/
theorem Sequence.raised_eq_self {q : Sequence} {e : Option Episode}
    (h : ∀ r ∈ q.faults, q.openRecord = some r.number → raisedMaxima e r.maxima = r.maxima) :
    q.raised e = q.faults := by
  refine (List.map_congr_left fun r mem => ?_).trans (List.map_id _)
  by_cases opened : q.openRecord = some r.number
  · rw [if_pos opened, h r mem opened]
    rfl
  · rw [if_neg opened]
    rfl

section
variable (op : ElementSet) (s : State) (ep : Option Episode) {e : Option Episode}

/-- R65, R66: completions leave the fault list that the signal left: the open record has the episode's maxima. -/
theorem raised_signalFaults (released : e = none ∨ e = ep)
    (fresh : s.seq.starts → ∀ r ∈ s.seq.faults, r.number ≠ s.seq.nextRecord)
    (out : s.seq.state = .lockout → s.seq.openRecord = none) :
    (s.signalled op ep).raised e = s.signalFaults op ep := by
  refine Sequence.raised_eq_self (q := s.signalled op ep) fun r mem opened => ?_
  change r ∈ s.signalFaults op ep at mem
  unfold State.signalFaults at mem
  by_cases starts : s.seq.starts
  · have new : some s.seq.nextRecord = some r.number := (if_pos starts).symm.trans opened
    rw [if_pos starts, List.mem_append, List.mem_singleton] at mem
    obtain old | rfl := mem
    · have was : r ∈ s.seq.faults := by
        split at old
        · exact old
        · exact List.mem_of_mem_drop old
      exact absurd (Option.some.inj new).symm (fresh starts r was)
    · obtain rfl | rfl := released
      · rfl
      · cases e <;> simp [State.signalRecord, raisedMaxima, PerChannel.zip]
  · have kept : s.seq.openRecord = some r.number := (if_neg starts).symm.trans opened
    by_cases lockout : s.seq.state = .lockout
    · exact absurd ((out lockout).symm.trans kept) (by simp)
    · rw [if_neg starts, if_neg lockout, List.mem_map] at mem
      obtain ⟨r', -, rfl⟩ := mem
      split
      case isTrue => exact raisedMaxima_released released _
      case isFalse closed => exact absurd kept (by rwa [if_neg closed])

end

theorem State.SignalTaken.faults_kept {op : ElementSet} {s t : State} {done : PoleMask} (h : s.SignalTaken op done t)
    (free : done.isEmpty = true ∨ (s.seq.starts → ∀ r ∈ s.seq.faults, r.number ≠ s.seq.nextRecord) ∧
      (s.seq.state = .lockout → s.seq.openRecord = none)) : t.seq.faults = s.signalFaults op s.prot.episode := by
  rw [h.faults]
  split
  case isTrue => rfl
  case isFalse loud =>
    obtain ⟨fresh, out⟩ := free.resolve_left loud
    exact raised_signalFaults op s _ s.prot.release_episode fresh out

section
variable {op : ElementSet} {s t : State} {done : PoleMask}

/-- R65: a record started. -/
theorem State.SignalTaken.started (h : s.SignalTaken op done t) (starts : s.seq.starts) :
    t.seq.openRecord = some s.seq.nextRecord ∧
    t.seq.nextRecord = (if s.seq.nextRecord = 65535 then 1 else s.seq.nextRecord + 1) ∧
    ((∀ p, ¬ ((s.signalMask op).get p = true ∧ (s.poleRec p).openAtRest)) ∨
        (∀ r ∈ s.seq.faults, r.number ≠ s.seq.nextRecord) →
      t.seq.faults = (if s.seq.faults.length < 8 then s.seq.faults else s.seq.faults.drop 1) ++
        [s.signalRecord op s.prot.episode]) := by
  refine ⟨?_, ?_, fun free => (h.faults_kept ?_).trans (if_pos starts)⟩
  · rw [h.seq]
    exact if_pos starts
  · rw [h.seq]
    exact if_pos starts
  · exact free.imp h.isEmpty_iff.mpr fun fresh => ⟨fun _ => fresh, fun lockout => absurd lockout starts.state⟩

/-- R64, R66: none started: in LOCKOUT the list stays, else an open record takes the signal. -/
theorem State.SignalTaken.joined (h : s.SignalTaken op done t) (none : ¬ s.seq.starts) :
    t.seq.openRecord = s.seq.openRecord ∧ t.seq.nextRecord = s.seq.nextRecord ∧
    (s.seq.state = .lockout →
      (∀ p, ¬ ((s.signalMask op).get p = true ∧ (s.poleRec p).openAtRest)) ∨ s.seq.openRecord = Option.none →
      t.seq.faults = s.seq.faults) ∧
    (s.seq.state ≠ .lockout → t.seq.faults = s.seq.faults.map fun r =>
      if s.seq.openRecord = some r.number then
        { r with elements := r.elements.union op, maxima := raisedMaxima s.prot.episode r.maxima }
      else r) := by
  refine ⟨?_, ?_, fun lockout free => ?_, fun out => ?_⟩
  · rw [h.seq]
    exact if_neg none
  · rw [h.seq]
    exact if_neg none
  · refine (h.faults_kept ?_).trans ((if_neg none).trans (if_pos lockout))
    exact free.imp h.isEmpty_iff.mpr fun closed => ⟨fun starts => absurd starts none, fun _ => closed⟩
  · refine (h.faults_kept (Or.inr ?_)).trans ((if_neg none).trans (if_neg out))
    exact ⟨fun starts => absurd starts none, fun lockout => absurd lockout out⟩

end

end Sys2Proof.Machine
end

section
/-! PROOFS. An operation signal in DEAD_TIME with every pole OPEN at rest: the trips complete at once and the sequence
ends in LOCKOUT (R51, R52, R56, R63, R72). -/

namespace Sys2Proof.Machine

theorem reportTrip_poles (s : State) : (reportTrip s).poles = s.poles := by
  unfold reportTrip raiseTrip
  dsimp only
  split
  · rfl
  · split <;> rfl

theorem reportTrip_prot (s : State) : (reportTrip s).prot = s.prot := by
  unfold reportTrip raiseTrip
  dsimp only
  split
  · rfl
  · split <;> rfl

/-- R52, R56: TRIPPING ends after an evolving fault, no pole failed. -/
theorem trippingEnds_evolving {s : State} (failed : s.seq.ctx.failed.isEmpty = true)
    (closeFailed : s.seq.ctx.closeFailed = false) (cause : s.seq.ctx.endCause = some .evolving) :
    trippingEnds s = (enterLockout .evolving .lockout (reportTrip s), []) := by
  have lockout : trippingLockout s = some (.evolving, .lockout) := by
    unfold trippingLockout
    simp only [failed, closeFailed, cause]
    rfl
  unfold trippingEnds
  simp only [failed, lockout]
  rfl

/-- R51: TRIPPING ends at the last trip's completion. -/
theorem endIfSettled_last {s : State} (state : s.seq.state = .tripping) (trips : ∀ p, s.seq.ctx.tripsOut.get p = none)
    (closes : ∀ p, s.seq.ctx.closesOut.get p = false) : endIfSettled s = trippingEnds s := by
  have noTrip : s.seq.ctx.tripping.isEmpty = true := by
    rw [PoleMask.isEmpty_iff]
    intro p
    have isNone : (s.seq.ctx.tripsOut.get p).isSome = false := by rw [trips p]; rfl
    cases p <;> exact isNone
  have noClose : s.seq.ctx.closesOut.isEmpty = true := (PoleMask.isEmpty_iff _).mpr closes
  have settled : s.seq.ctx.settled = true := by
    unfold ShotContext.settled
    rw [noTrip, noClose]
    rfl
  exact if_pos ⟨state, settled⟩

/-- R56, R72: in DEAD_TIME with no trip outstanding every pole is ordered to trip. -/
theorem signalMask_deadTime (op : ElementSet) {s : State} (dead : s.seq.state = .deadTime)
    (none : s.seq.ctx.tripping.isEmpty = true) : s.signalMask op = .full := by
  have chosen : s.chosen op = s.seq.ctx.tripping.map (!·) := by
    unfold State.chosen
    rw [if_neg (by simp [dead]), if_pos dead]
  have all : s.seq.ctx.tripping.map (!·) = PoleMask.full := by
    refine PerPole.ext_get fun p => ?_
    have out := (PoleMask.isEmpty_iff _).mp none p
    cases p
    all_goals exact congrArg (!·) out
  unfold State.signalMask
  rw [chosen, all]
  rfl

/-- R51, R52: the last trip of an evolving fault completes SUCCESS. -/
theorem takeCompletion_evolved {s : State} {p : Pole} (state : s.seq.state = .tripping)
    (out : s.seq.ctx.tripsOut.get p = some .fault) (last : ∀ q, q ≠ p → s.seq.ctx.tripsOut.get q = none)
    (closes : ∀ q, s.seq.ctx.closesOut.get q = false) (failed : s.seq.ctx.failed.isEmpty = true)
    (closeFailed : s.seq.ctx.closeFailed = false) (cause : s.seq.ctx.endCause = some .evolving) :
    ∃ t, takeCompletion ⟨p, false, .success⟩ s = (enterLockout .evolving .lockout (reportTrip t), []) ∧
      t.poles = s.poles ∧ t.prot = s.prot.release := by
  generalize ht : operatorTripsTake p .success (tripCompleted p .success s) = t
  obtain ⟨seq, -, prot, poles, -, -⟩ := tripTaken_blocks out ht
  have tripping : t.seq.state = .tripping := by
    rw [seq]
    exact state
  have trips : ∀ q, t.seq.ctx.tripsOut.get q = none := by
    intro q
    rw [seq]
    refine (PerPole.get_set _ p q _).trans ?_
    split
    case isTrue => rfl
    case isFalse other => exact last q other
  refine ⟨t, ?_, poles, prot⟩
  have idle : lockoutTripDone t = t := if_neg (by simp [tripping])
  show endIfSettled (lockoutTripDone (operatorTripsTake p .success (tripCompleted p .success s))) = _
  rw [ht, idle, endIfSettled_last tripping trips, trippingEnds_evolving]
  all_goals rw [seq]
  exacts [failed, closeFailed, cause, closes]

/-- What an evolving fault leaves whose trips complete at once. -/
structure State.EvolvedLockout (s t : State) : Prop where
  seq : ∃ q, t.seq = Sequence.lockedOut q .evolving
  poles : ∀ p, t.poleRec p = { s.poleRec p with last := some .success }
  released : ∃ q : Protection, t.prot = q.release

/-- R56: the sequence that the signal leaves in DEAD_TIME, where nothing was outstanding or failed. -/
theorem signalled_deadTime (op : ElementSet) {s : State} (ep : Option Episode) (dead : s.seq.state = .deadTime) :
    let q := s.signalled op ep
    q.state = .tripping ∧ q.ctx.closesOut = s.seq.ctx.closesOut ∧ q.ctx.failed = s.seq.ctx.failed ∧
    q.ctx.closeFailed = s.seq.ctx.closeFailed ∧ q.ctx.endCause = some .evolving := by
  have joins : ¬ s.seq.begins := by simp [dead]
  refine ⟨if_neg (by simp [dead]), rfl, if_neg joins, ?_, ?_⟩
  · exact congrArg (!· && s.seq.ctx.closeFailed) (decide_eq_false joins)
  · exact (if_neg (by simp [dead])).trans ((if_neg (by simp [dead])).trans (if_pos dead))

/-- R51, R52, R56, R63, R72. -/
theorem operationSignal_evolves (op : ElementSet) {s : State} (dead : s.seq.state = .deadTime)
    (rest : ∀ p, (s.poleRec p).openAtRest) (noTrip : s.seq.ctx.tripping.isEmpty = true)
    (noClose : s.seq.ctx.closesOut.isEmpty = true) (noneFailed : s.seq.ctx.failed.isEmpty = true)
    (noCloseFailed : s.seq.ctx.closeFailed = false) : s.EvolvedLockout (operationSignal op s) := by
  let e := s.signalled op s.prot.episode
  have mask : ∀ p, (s.signalMask op).get p = true := by
    intro p
    rw [signalMask_deadTime op dead noTrip]
    cases p <;> rfl
  have order : ∀ p, (s.poleRec p).order s.store.active s.now =
      ({ s.poleRec p with last := some .success }, some (false, .success)) := by
    intro p
    obtain ⟨position, still⟩ := rest p
    exact PoleRecord.order_atOnce _ _ position still
  generalize hu : orderTrips (s.signalMask op) (s.withSeq e) = u
  obtain ⟨seq, -, -, -⟩ := orderTrips_blocks (s.signalMask op) (s.withSeq e)
  have poles := orderTrips_poleRec (s.signalMask op) (s.withSeq e)
  have completions := orderTrips_completions (s.signalMask op) (s.withSeq e)
  rw [hu] at seq poles completions
  have out : ∀ p, u.1.seq.ctx.tripsOut.get p = some .fault := by
    intro p
    rw [seq]
    exact (PerPole.get_zip _ _ _ p).trans (if_pos (mask p))
  obtain ⟨state, closes, failed, closeFailed, cause⟩ := signalled_deadTime op s.prot.episode dead
  obtain ⟨done, v, n, settling, fuel, settled', which⟩ := (State.Settling.start u.1).orders s.poleRec s.store.active
    s.now (m := s.signalMask op) (fun closing => by simp [seq, e, state] at closing) (fun p _ => out p) (out .c) rfl
    (ps := [.a, .b]) (by decide) (fun p _ => by cases p <;> rfl) (fun mem => absurd mem (by decide)) (n := 12)
    (by decide) [⟨.c, false, .success⟩]
  obtain ⟨n, rfl⟩ := Nat.exists_eq_add_of_le' (show 1 ≤ n from Nat.le_of_add_le_add_right (le_trans (by decide) fuel))
  have completed : ∀ p, done.get p = true ↔ p ≠ .c := by
    intro p
    have none : PoleMask.none.get p = false := by cases p <;> rfl
    rw [which, none]
    cases p <;> simp [mask, rest]
  obtain ⟨w, taken, wPoles, wProt⟩ : ∃ w, takeCompletion ⟨.c, false, .success⟩ v =
      (enterLockout .evolving .lockout (reportTrip w), []) ∧ w.poles = v.poles ∧ w.prot = v.prot.release := by
    refine takeCompletion_evolved ?_ ?_ (fun q other => ?_) (fun q => ?_) ?_ ?_ ?_
    · rw [settling.seq, seq]
      exact state
    · rw [settling.tripsOut_get, if_neg fun set => (completed .c).mp set rfl]
      exact out .c
    · rw [settling.tripsOut_get, if_pos ((completed q).mpr other)]
    · refine settling.closes q ?_
      rw [seq]
      exact (PoleMask.isEmpty_iff _).mp noClose q
    · rw [settling.seq, seq]
      exact (congrArg PoleMask.isEmpty failed).trans noneFailed
    · rw [settling.seq, seq]
      exact closeFailed.trans noCloseFailed
    · rw [settling.seq, seq]
      exact cause
  have all : u.2 = ([Pole.a, .b].flatMap fun p => if (s.signalMask op).get p then
      Completion.ofOrder p ((s.poleRec p).order s.store.active s.now).2 else []) ++ [⟨.c, false, .success⟩] := by
    have last : (if (s.signalMask op).get .c then
        Completion.ofOrder .c ((s.poleRec .c).order s.store.active s.now).2 else []) = [⟨.c, false, .success⟩] := by
      rw [if_pos (mask .c), order]
      rfl
    rw [← last, completions]
    exact (List.flatMap_append (xs := [Pole.a, .b]) (ys := [.c])).trans (congrArg _ (List.flatMap_singleton _ _))
  have result : operationSignal op s =
      s.onlySequence (cancelWarning .sequenceActive (enterLockout .evolving .lockout (reportTrip w))) := by
    have ended : settled (takeSignal op s) = enterLockout .evolving .lockout (reportTrip w) := by
      unfold settled
      rw [takeSignal_eq, hu, all, settled']
      show settle n ([] ++ (takeCompletion _ v).2) (takeCompletion _ v).1 = _
      rw [taken]
      exact settle_nil n _
    unfold operationSignal
    rw [ended]
  rw [result]
  refine ⟨⟨_, enterLockout_seq .evolving (reportTrip w)⟩, fun p => ?_, ⟨v.prot, (reportTrip_prot w).trans wProt⟩⟩
  have same : (enterLockout .evolving .lockout (reportTrip w)).poles = u.1.poles :=
    (reportTrip_poles w).trans (wPoles.trans settling.poles)
  have ordered : u.1.poleRec p = ((s.poleRec p).order s.store.active s.now).1 := (poles p).trans (if_pos (mask p))
  rw [order p] at ordered
  exact (congrArg (fun d : PoleDrive => d.pole.get p) same).trans ordered

end Sys2Proof.Machine
end

section
/-! PROOFS. A MEASURE frame's elements, and the operation signal it may give (R30 to R40, R47 to R51). -/

namespace Sys2Proof.Machine

/-- The poles to trip depend on the sequence, the poles and the bank alone. -/
theorem signalMask_congr (op : ElementSet) {s t : State} (seq : t.seq = s.seq) (poles : t.poles = s.poles)
    (store : t.store = s.store) : t.signalMask op = s.signalMask op := by
  cases s
  cases t
  cases seq
  cases poles
  cases store
  rfl

/-- What a signal leaves depends on neither the Battery Unit nor the reports before it. -/
theorem State.SignalTaken.congr {op : ElementSet} {s s' t : State} {done : PoleMask} (h : s.SignalTaken op done t)
    (seq : s.seq = s'.seq) (poles : s.poles = s'.poles) (store : s.store = s'.store) (time : s.time = s'.time)
    (holds : s.holds = s'.holds) (prot : s.prot = s'.prot) : s'.SignalTaken op done t := by
  cases s
  cases s'
  cases seq
  cases poles
  cases store
  cases time
  cases holds
  cases prot
  obtain ⟨which, seq, cause, faults, prot, poles, test, close⟩ := h
  exact ⟨which, seq, cause, faults, prot, poles, test, close⟩

/-- R31, R36: a phase's frame, by what its high-set counter does. -/
theorem phaseStep_counted {b : Bank} {n : Nat} {profile : Bool} {x : Evaluated} {e : Element} {count : Nat}
    {run : Nat × Bool} (h : highSetStep b (highSetInForce b n profile) x.magnitude e.state count = run) :
    phaseStep b n profile x e count =
      let own := e.stepMaybe b (phaseCurveInForce b n profile) (2 * b.phasePickup) x.magnitude
      { element := if run.2 then { own.element with state := .operated, byHighSet := true } else own.element
        count := run.1, clamped := own.clamped } := by
  subst h
  rfl

section
variable (s : State) (n : Half) (cur : PerChannel Sample) (vol : PerPole Sample)

/-- R41, R42: the exception record and LATEST after any frame. -/
theorem exec_measure_exception (powered : s.powered = true) :
    ∃ t, exec (.measure n cur vol) s = .next t ∧ t.prot.latestFlag = !(s.trapped cur).isEmpty ∧
      t.prot.exception = (match (s.trapped cur).getLast? with
        | some x => some { kind := x.1, channel := x.2, number := n, tag := s.time.timeTag }
        | none => s.prot.exception) := by
  refine ⟨_, exec_measure n cur vol powered, ?_⟩
  generalize ht : handSignal _ _ = t
  have ledger : t.ledger = (s.metered n cur vol).ledger := by
    rw [← ht, handSignal_ledger, handException_ledger, handPickup_ledger]
  have flag : t.prot.latestFlag = (s.frameResult n cur vol).prot.latestFlag := congrArg Ledger.latestFlag ledger
  have exception : t.prot.exception = (s.frameResult n cur vol).prot.exception := congrArg Ledger.exception ledger
  refine ⟨flag.trans ?_, exception.trans (frameResult_exception s n cur vol)⟩
  rw [frameResult_eq]

/-- The state in which the operation signal of a frame is taken, as far as the signal depends on it. -/
def State.measured : State :=
  { s with prot := { (s.handed n cur vol).prot with
      elements := s.elementsAfter cur, highSet := s.countsAfter cur, episode := s.episodeAfter cur } }

theorem measured_prot : (s.measured n cur vol).prot = (s.handed n cur vol).prot := by
  obtain ⟨elements, counts, episode⟩ := handed_elements s n cur vol
  unfold State.measured
  rw [← elements, ← counts, ← episode]

/-- R47 to R51: a frame with an operation signal, an order of which does not complete at once. -/
theorem exec_measure_taken (powered : s.powered = true) (became : ∃ x, s.becomes cur x = true) :
    let op := newlyOperated s.prot.elements (s.elementsAfter cur)
    (∃ p, ((s.measured n cur vol).signalMask op).get p = true ∧ ¬ ((s.measured n cur vol).poleRec p).openAtRest) →
    ∃ done t, exec (.measure n cur vol) s = .next t ∧ (s.measured n cur vol).SignalTaken op done t ∧
      t.holds.slots = s.holds.slots ∧ t.holds.lever = s.holds.lever ∧ t.store = s.store ∧ t.time = s.time := by
  intro op ⟨q, ordered, notAtOnce⟩
  have seq := handed_seq s n cur vol
  have poles := handed_poles s n cur vol
  have store := handed_store s n cur vol
  have time := handed_time s n cur vol
  have holds := handed_holds s n cur vol
  have vault := operationSignal_vault op (s.handed n cur vol)
  have mask := signalMask_congr op seq poles store
  have poleRec : (s.handed n cur vol).poleRec q = s.poleRec q := congrArg (fun d : PoleDrive => d.pole.get q) poles
  obtain ⟨done, taken⟩ := operationSignal_taken op (s.handed n cur vol) ⟨q, mask ▸ ordered, poleRec ▸ notAtOnce⟩
  exact ⟨done, _, exec_measure_signal s n cur vol powered became,
    taken.congr seq poles store time holds (measured_prot s n cur vol).symm,
    (congrArg Vault.slots vault).trans (congrArg HoldUnit.slots holds),
    (congrArg Vault.lever vault).trans (congrArg HoldUnit.lever holds), store, time⟩

/-- R56, R63: a frame with an operation signal in DEAD_TIME, every order of which completes at once. -/
theorem exec_measure_evolves (powered : s.powered = true) (became : ∃ x, s.becomes cur x = true)
    (dead : s.seq.state = .deadTime) (rest : ∀ p, (s.poleRec p).openAtRest) (noTrip : s.seq.ctx.tripping.isEmpty = true)
    (noClose : s.seq.ctx.closesOut.isEmpty = true) (noneFailed : s.seq.ctx.failed.isEmpty = true)
    (noCloseFailed : s.seq.ctx.closeFailed = false) :
    ∃ t, exec (.measure n cur vol) s = .next t ∧ s.EvolvedLockout t := by
  have poleRec : ∀ p, (s.handed n cur vol).poleRec p = s.poleRec p :=
    fun p => congrArg (fun d : PoleDrive => d.pole.get p) (handed_poles s n cur vol)
  refine ⟨_, exec_measure_signal s n cur vol powered became, ?_⟩
  rw [← handed_seq s n cur vol] at dead noTrip noClose noneFailed noCloseFailed
  obtain ⟨seq, poles, released⟩ := operationSignal_evolves (newlyOperated s.prot.elements (s.elementsAfter cur)) dead
    (fun p => (poleRec p).symm ▸ rest p) noTrip noClose noneFailed noCloseFailed
  exact ⟨seq, fun p => poleRec p ▸ poles p, released⟩

end

/-- Settles O18: one frame is taken by the elements (R31 to R37) and handed on with no signal (`exec_measure_quiet`), or
with one (`exec_measure_signal`); the signal's orders are `operationSignal_taken`, and in DEAD_TIME with every pole OPEN
at rest `operationSignal_evolves`. -/
theorem measureStepsElements : Obligations.MeasureStepsElements := by
  refine ⟨fun b n profile x e count => ?_, fun n cur vol s powered => ?_⟩
  · exact ⟨phaseStep_counted (highSetStep_eq ..), rfl⟩
  · intro b profile value a bb c g after amounts resting episode found trapped left
    have trappedEq : s.trapped cur = trapped := trapped_eq s cur
    refine ⟨?_, fun none ends => ?_, fun none => ?_, ?_⟩
    · rw [← trappedEq]
      exact exec_measure_exception s n cur vol powered
    · refine ⟨_, exec_measure_quiet s n cur vol powered none, (handed_rep s n cur vol ?_).trans ?_⟩
      · exact ends
      · rw [trappedEq]
        simp only [exceptionBody_entry]
        rfl
    · obtain ⟨elements, counts, opened⟩ := handed_elements s n cur vol
      obtain ⟨ended, kept⟩ := handed_batt s n cur vol
      refine ⟨_, exec_measure_quiet s n cur vol powered none, elements, counts, opened, handed_seq s n cur vol,
        handed_poles s n cur vol, handed_holds s n cur vol, fun ⟨x, was, out⟩ => ?_, fun stays => ?_⟩
      · exact ended ⟨x, decide_eq_true ⟨was, out⟩⟩
      · exact kept fun x => decide_eq_false fun ⟨was, out⟩ => out (stays x was)
    · intro q became op phases single out closed begins shot chosen mask onto atOnce quiet
      refine ⟨fun signal pending => ?_, fun signal dead rest noTrip noClose noneFailed noCloseFailed => ?_⟩
      · obtain ⟨done, t, run, taken, slots, lever, store, time⟩ := exec_measure_taken s n cur vol powered signal pending
        have completes : done.isEmpty = true ↔ quiet := taken.isEmpty_iff
        have seq := taken.seq
        refine ⟨t, run, fun silent => ?_, fun loud x => ?_, congrArg Sequence.state seq, congrArg Sequence.shot seq,
          fun free => taken.cause (free.imp_left completes.mpr), congrArg Sequence.afterClose seq,
          congrArg Sequence.deadTimer seq, congrArg Sequence.reclaimTimer seq, congrArg (·.ctx.elements) seq,
          congrArg (·.ctx.pickup) seq, congrArg (·.ctx.ordered) seq, congrArg (·.ctx.endCause) seq,
          fun p => ⟨taken.atOnce, taken.notAtOnce⟩, ⟨taken.started, taken.joined⟩, fun p => taken.begun,
          fun p => taken.aborted, fun p => taken.kept, fun _ => taken.test, taken.close, slots, lever,
          (congrArg Sequence.userFlags seq).trans rfl, (congrArg Sequence.lamp seq).trans rfl, store, time⟩
        · rw [taken.prot, if_pos (completes.mpr silent)]
          exact ⟨rfl, rfl, rfl⟩
        · rw [taken.prot, if_neg (mt completes.mp loud), Protection.release_get]
          rfl
      · obtain ⟨t, run, ⟨before, seq⟩, poles, ⟨protection, released⟩⟩ := exec_measure_evolves s n cur vol powered signal
          dead rest noTrip noClose noneFailed noCloseFailed
        refine ⟨t, run, congrArg Sequence.state seq, congrArg Sequence.cause seq, congrArg Sequence.shot seq,
          congrArg Sequence.deadTimer seq, congrArg Sequence.openRecord seq, congrArg Sequence.lamp seq, poles,
          fun x => ?_⟩
        rw [released, Protection.release_get]
        exact Element.release_not_operated _

end Sys2Proof.Machine
end

section
/-! PROOFS. The user flags (R54), the ends of the dead and the reclaim timers (R57, R59, R63). -/

namespace Sys2Proof.Machine

/-! ## FLAGS (R54) -/

/-- R54: a flag after an action given by its code. -/
def actedFlag (code : Byte) (old : Bool) : Bool :=
  match code.toNat with
  | 0 => old
  | 1 => true
  | 2 => false
  | _ => !old

/-- R54: an action code is taken up to 3, and acts as its code says. -/
theorem flagActionArg_good {code : Byte} (h : code.toNat ≤ 3) :
    ∃ x, flagActionArg code = some x ∧ ∀ old, FlagAction.apply old x = actedFlag code old := by
  unfold flagActionArg actedFlag
  have codes : code.toNat = 0 ∨ code.toNat = 1 ∨ code.toNat = 2 ∨ code.toNat = 3 := by omega
  obtain c | c | c | c := codes <;> rw [c] <;> exact ⟨_, rfl, fun _ => rfl⟩

theorem flagActionArg_bad {code : Byte} (h : 3 < code.toNat) : flagActionArg code = none := by
  unfold flagActionArg
  split
  case h_5 => rfl
  all_goals omega

/-- R54: one bad action makes the whole argument bad. -/
theorem flagActionsArg_bad {a : PerFlag Byte}
    (h : 3 < a.f0.toNat ∨ 3 < a.f1.toNat ∨ 3 < a.f2.toNat ∨ 3 < a.f3.toNat) : flagActionsArg a = none := by
  unfold flagActionsArg
  obtain bad | bad | bad | bad := h <;> simp [flagActionArg_bad bad]

/-- Settles O21: four good actions act flag by flag; one bad action makes a bad argument. -/
theorem flagsChangeUserFlags : Obligations.FlagsChangeUserFlags := by
  intro p n a s h act f new
  refine ⟨fun ⟨h0, h1, h2, h3⟩ => ?_, fun bad => ?_⟩
  · obtain ⟨x0, e0, acts0⟩ := flagActionArg_good h0
    obtain ⟨x1, e1, acts1⟩ := flagActionArg_good h1
    obtain ⟨x2, e2, acts2⟩ := flagActionArg_good h2
    obtain ⟨x3, e3, acts3⟩ := flagActionArg_good h3
    have actions : flagActionsArg a = some ⟨x0, x1, x2, x3⟩ := by simp only [flagActionsArg, e0, e1, e2, e3]
    have flags : s.seq.userFlags.zip FlagAction.apply ⟨x0, x1, x2, x3⟩ = new := by
      simp only [PerFlag.zip, acts0, acts1, acts2, acts3]
      rfl
    refine command_answered h rfl ?_ rfl
    simp only [flagsTaken, actions, State.admitted_seq, flags]
    rfl
  · refine command_answered (f := id) h rfl ?_ rfl
    simp only [flagsTaken, flagActionsArg_bad bad]
    rfl

/-! ## RECLAIM_TIMER_EXPIRY (R59) -/

/-- R59: the fault list with the open record closed, whether there is one or not. -/
theorem closeRecord_faults (q : Sequence) (o : FaultOutcome) (cause : Option LockoutCause) :
    (q.closeRecord o cause).faults = match q.openRecord with
      | some n => q.faults.map fun r => if r.number = n then { r with outcome := some o, cause := cause } else r
      | none => q.faults := by
  unfold Sequence.closeRecord Sequence.updateOpen
  cases q.openRecord <;> rfl

/-- R65, R66: closing the open record changes the fault list and the open record's number alone. -/
theorem closeRecord_eq (q : Sequence) (o : FaultOutcome) (cause : Option LockoutCause) :
    q.closeRecord o cause = { q with faults := (q.closeRecord o cause).faults, openRecord := none } := by
  unfold Sequence.closeRecord
  rw [updateOpen_eq]

/-- Settles O24: the sequence is RESET's, with the open record closed RECLOSED_OK. -/
theorem reclaimTimerResets : Obligations.ReclaimTimerResets := by
  intro s h
  have closed := closeRecord_eq s.seq .reclosedOk none
  refine ⟨(s.seq.closeRecord .reclosedOk none).toReset, expires_run h, rfl, rfl, rfl, rfl, rfl, rfl, rfl, ?_, ?_, ?_⟩
  · exact (congrArg Sequence.userFlags closed : (s.seq.closeRecord .reclosedOk none).userFlags = _)
  · exact (congrArg Sequence.nextRecord closed : (s.seq.closeRecord .reclosedOk none).nextRecord = _)
  · exact closeRecord_faults s.seq .reclosedOk none

/-! ## DEAD_TIMER_EXPIRY (R57) -/

/-- R84: the gate does not judge the sequence. -/
theorem gateQuery_withSeq (mask : PoleMask) (s : State) (q : Sequence) :
    gateQuery mask (s.withSeq q) = gateQuery mask s := rfl

/-- R57: the close request of the reclose mask, with the dead timer stopped. -/
def State.askedToReclose (s : State) : State := abortTest .close (s.withSeq { s.seq with deadTimer := none })

/-- R57, R63: the gate refuses the reclose. -/
theorem deadTimeEnds_refused {s : State} {r : GateReason} (h : gateQuery s.seq.ctx.reclose s = some r) :
    deadTimeEnds s = s.onlySequence (enterLockout r.cause .lockout
      (raise .closeRefused (closeRefusedBody r.reason none s.seq.ctx.reclose) s.askedToReclose)) := by
  unfold deadTimeEnds
  dsimp only
  rw [closeRequest_refused (g := r) (by rwa [gateQuery_withSeq])]
  rfl

/-- R57: the gate admits the reclose. -/
theorem deadTimeEnds_admitted {s : State} (h : gateQuery s.seq.ctx.reclose s = none) :
    deadTimeEnds s = s.onlySequence (raise .reclose (recloseBody s.seq.ctx.reclose s.seq.shot s.seq.recordNumber)
      ((beginCloses s.seq.ctx.reclose s.askedToReclose).withSeq
        { s.seq with deadTimer := none, state := .closing, afterClose := false,
                     ctx := { s.seq.ctx with closesOut := s.seq.ctx.reclose } })) := by
  unfold deadTimeEnds
  dsimp only
  rw [closeRequest_admitted (by rwa [gateQuery_withSeq])]
  rfl

/-- Settles O23: the gate's two answers. -/
theorem deadTimerRecloses : Obligations.DeadTimerRecloses := by
  intro s h
  refine ⟨fun r refused => ?_, fun admitted => ?_⟩
  · have run := (expires_run (f := (·.seq.deadTimer)) (g := deadTimeEnds) h).trans (congrArg _ (deadTimeEnds_refused refused))
    refine ⟨_, run, ?_⟩
    have seq := enterLockout_seq r.cause
      (raise .closeRefused (closeRefusedBody r.reason none s.seq.ctx.reclose) s.askedToReclose)
    rw [State.onlySequence_seq, seq]
    exact ⟨rfl, rfl, rfl, rfl, rfl, rfl, rfl, rfl, rfl, rfl, rfl, rfl, rfl, rfl, rfl⟩
  · have run := (expires_run (f := (·.seq.deadTimer)) (g := deadTimeEnds) h).trans (congrArg _ (deadTimeEnds_admitted admitted))
    have poles := beginCloses_pole s.seq.ctx.reclose s.askedToReclose
    refine ⟨_, run, rfl, fun p on => (poles p).trans (if_pos on), fun p off => (poles p).trans (if_neg (by simp [off])),
      ?_, rfl, rfl, rfl, rfl, rfl⟩
    exact abortTest_test .close _

end Sys2Proof.Machine
end

section
/-! PROOFS. A hold placed (R91, R93, R94), and the lever hold placed or removed (R95, R183). -/

namespace Sys2Proof.Machine

/-! ## An outcome of one command leaves the contexts of others -/

/-- A context holds one command alone. -/
theorem holding_unique {s : State} {r k : CmdRef} {e : Executing} (h : s.holding r = some e) (port : k.port = r.port)
    (other : k ≠ r) : s.holding k = none := by
  obtain ⟨port', serial'⟩ := k
  obtain ⟨port₀, serial⟩ := r
  dsimp only at port
  subst port
  unfold State.holding at h ⊢
  dsimp only at h ⊢
  cases running : (s.cmd.ctx port').executing with
  | none => rfl
  | some x =>
    simp only [running] at h ⊢
    split at h
    case isFalse => cases h
    case isTrue same => exact if_neg fun again => other (congrArg (CmdRef.mk port') (again.symm.trans same))

/-- R169: the outcome of a command leaves the context that holds another. -/
theorem complete_ctx_held {s : State} {r k : CmdRef} {e : Executing} (a : Answer) (h : s.holding r = some e)
    (other : k ≠ r) : (complete k a s).cmd.ctx r.port = s.cmd.ctx r.port := by
  by_cases port : k.port = r.port
  · rw [complete_unheld a (holding_unique h port other)]
  · have across : r.port = PortId.other k.port := by cases hr : r.port <;> cases hk : k.port <;> simp_all [PortId.other]
    unfold complete
    rw [across]
    split
    · split <;> exact setCtx_ctx_other _ _ _
    · rfl

/-! ## The notices of a placement (R93, R102, R55) -/

/-- R102: cancelling a warning removes the record and withdraws its tone. -/
theorem cancelWarning_blocks (x : Reason) (s : State) :
    (cancelWarning x s).holds = { s.holds with close := (cancelWarning x s).holds.close } ∧
    (cancelWarning x s).line = { s.line with warningEnd := (cancelWarning x s).line.warningEnd } := by
  unfold cancelWarning
  split
  · split <;> exact ⟨rfl, rfl⟩
  · exact ⟨rfl, rfl⟩

/-- R102: cancelling a warning answers its CLOSE alone. -/
theorem cancelWarning_ctx (x : Reason) {s : State} {r : CmdRef} {e : Executing} (h : s.holding r = some e)
    (other : ∀ k, s.holds.close = some k → k.cmd ≠ r) : (cancelWarning x s).cmd.ctx r.port = s.cmd.ctx r.port := by
  unfold cancelWarning
  split
  case h_1 k record =>
    split
    · exact complete_ctx_held _ (s := s.withoutClose.withdrawWarning) h (other k record)
    · rfl
  case h_2 => rfl

/-- R93 step 3, R102: the record consulted: nothing, a warning cancelled, or an event. -/
theorem consultClose_cases (k : Nat) (h : Hold) (s : State) :
    consultClose k h s = s ∨ consultClose k h s = s.onlyClose (cancelWarning .hold s) ∨
    ∃ b, consultClose k h s = raise .holdDuringClose b s := by
  unfold consultClose
  split
  · split
    · split
      · exact .inl rfl
      · exact .inr (.inl rfl)
    · exact .inr (.inr ⟨_, rfl⟩)
  · exact .inl rfl

/-- R102: a warning that the hold overlaps is cancelled. -/
theorem consultClose_warning (k : Nat) {h : Hold} {s : State} {r : CloseRecord} (record : s.holds.close = some r)
    (warning : r.phase = .warning) (overlaps : (h.scope.inter r.mask).isEmpty = false) :
    (consultClose k h s).holds.close = none := by
  have cancelled : consultClose k h s = s.onlyClose (cancelWarning .hold s) := by
    unfold consultClose
    simp only [record, warning, overlaps, Bool.false_eq_true, if_false]
  rw [cancelled, State.onlyClose_holds, cancelWarning_close, record, Option.filter_some]
  simp [warning]

/-- R93 step 3: consulting the record reaches no other part of the Hold Unit and no other of the Line Unit. -/
theorem consultClose_blocks (k : Nat) (h : Hold) (s : State) :
    (consultClose k h s).holds = { s.holds with close := (consultClose k h s).holds.close } ∧
    (consultClose k h s).line = { s.line with warningEnd := (consultClose k h s).line.warningEnd } := by
  obtain same | cancelled | ⟨b, event⟩ := consultClose_cases k h s
  · rw [same]
    exact ⟨rfl, rfl⟩
  · rw [cancelled]
    exact cancelWarning_blocks .hold s
  · rw [event]
    exact ⟨rfl, rfl⟩

theorem consultClose_ctx (k : Nat) (h : Hold) {s : State} {r : CmdRef} {e : Executing} (held : s.holding r = some e)
    (other : ∀ k, s.holds.close = some k → k.cmd ≠ r) : (consultClose k h s).cmd.ctx r.port = s.cmd.ctx r.port := by
  obtain same | cancelled | ⟨b, event⟩ := consultClose_cases k h s
  · rw [same]
  · rw [cancelled]
    exact cancelWarning_ctx .hold held other
  · rw [event]
    rfl

/-- R55, R58: the hold-placed notice: LOCKOUT (HOLD) in DEAD_TIME, and events. -/
theorem sequenceTakesHold_blocks (k : Nat) (m : PoleMask) (s : State) :
    sequenceTakesHold k m s = { s with
      seq := if s.seq.state = .deadTime then s.seq.lockedOut .hold else s.seq
      rep := (sequenceTakesHold k m s).rep, port := (sequenceTakesHold k m s).port } := by
  unfold sequenceTakesHold
  cases state : s.seq.state with
  | deadTime =>
    have locked : enterLockout .hold .lockout s = { s with
        seq := (enterLockout .hold .lockout s).seq
        rep := (enterLockout .hold .lockout s).rep, port := (enterLockout .hold .lockout s).port } := rfl
    rw [enterLockout_seq] at locked
    exact locked
  | closing =>
    dsimp only
    split <;> rfl
  | reset => rfl
  | tripping => rfl
  | reclaim => rfl
  | lockout => rfl

/-! ## A placement (R93) -/

/-- R93 steps 1 to 5: the hold in its slot, and what that is told to. -/
def State.holdTold (s : State) (k : Nat) (h : Hold) : State :=
  (sequenceTakesHold k h.scope (consultClose k h (raise .holdSet (holdBody k h) (s.withSlot k (some h))))).askAlarm

theorem placeHold_eq (c : Option CmdRef) (k : Nat) (h : Hold) (s : State) :
    placeHold c k h s = writeHolds c k (s.holdTold k h) := rfl

@[simp] theorem setSlot_close (h : HoldUnit) (k : Nat) (x : Option Hold) : (h.setSlot k x).close = h.close := by
  cases k <;> rfl

@[simp] theorem setSlot_waiters (h : HoldUnit) (k : Nat) (x : Option Hold) : (h.setSlot k x).waiters = h.waiters := by
  cases k <;> rfl

/-- What a placement leaves before it asks for a write. -/
structure State.HoldTold (s : State) (k : Nat) (h : Hold) (t : State) : Prop where
  seq : t.seq = if s.seq.state = .deadTime then s.seq.lockedOut .hold else s.seq
  holds : t.holds = { s.holds.setSlot k (some h) with close := t.holds.close }
  line : t.line = { s.line with warningEnd := t.line.warningEnd, alarmEnd := t.line.alarmEnd }
  store : t.store = s.store
  poles : t.poles = s.poles
  prot : t.prot = s.prot
  batt : t.batt = s.batt
  time : t.time = s.time
  close : ∀ r, s.holds.close = some r → r.phase = .warning → (h.scope.inter r.mask).isEmpty = false →
    t.holds.close = none
  ctx : ∀ r e, s.holding r = some e → (∀ x, s.holds.close = some x → x.cmd ≠ r) → t.cmd.ctx r.port = s.cmd.ctx r.port

theorem State.holdTold_told (s : State) (k : Nat) (h : Hold) : s.HoldTold k h (s.holdTold k h) := by
  let placed := raise .holdSet (holdBody k h) (s.withSlot k (some h))
  have told : s.holdTold k h = (sequenceTakesHold k h.scope (consultClose k h placed)).askAlarm := rfl
  have close : placed.holds.close = s.holds.close := setSlot_close _ _ _
  obtain ⟨holds, line⟩ := consultClose_blocks k h placed
  rw [told, sequenceTakesHold_blocks]
  refine ⟨rfl, holds, ?_, rfl, rfl, rfl, rfl, rfl, fun r record warning overlaps => ?_, fun r e held other => ?_⟩
  · show ({ (consultClose k h placed).line with alarmEnd := _ } : LineUnit) = _
    rw [line]
    rfl
  · exact consultClose_warning k (close.trans record) warning overlaps
  · exact consultClose_ctx k h (s := placed) held fun x record => other x (close.symm.trans record)

/-! ## One slot of the hold table (R89) -/

theorem slot_congr {h g : HoldUnit} (lever : g.lever = h.lever) (slots : g.slots = h.slots) (j : Nat) :
    g.slot j = h.slot j := by
  cases j with
  | zero => exact lever
  | succ j => exact congrArg (fun v : Vector (Option Hold) 7 => (v[j]?).getD none) slots

/-- R89: the slot that is changed. -/
theorem slot_setSlot_same (h : HoldUnit) {i : Nat} (x : Option Hold) (bound : i < 7) :
    (h.setSlot (i + 1) x).slot (i + 1) = x := by
  simp [HoldUnit.slot, HoldUnit.setSlot, bound]

/-- R89: every other slot. -/
theorem slot_setSlot_other (h : HoldUnit) {k j : Nat} (x : Option Hold) (other : j ≠ k) :
    (h.setSlot k x).slot j = h.slot j := by
  cases k with
  | zero =>
    cases j with
    | zero => exact absurd rfl other
    | succ j => rfl
  | succ k =>
    cases j with
    | zero => rfl
    | succ j =>
      have apart : k ≠ j := fun same => other (congrArg (· + 1) same.symm)
      simp [HoldUnit.slot, HoldUnit.setSlot, Vector.getElem?_setIfInBounds_ne apart]

/-! ## The write of the hold image (R94) -/

/-- R94: a command that waits for a write of the hold image is among those told. -/
theorem requestWrite_waiters (i : ImageId) {s : State} {w : HoldWaiter} (h : w ∈ s.holds.waiters) :
    ∃ started, ({ w with covered := started } : HoldWaiter) ∈ (requestWrite i s).holds.waiters := by
  unfold requestWrite
  split
  · cases i with
    | settings => exact ⟨w.covered, h⟩
    | hold => exact ⟨true, List.mem_map.mpr ⟨w, h, rfl⟩⟩
  · split <;> exact ⟨w.covered, h⟩

/-- R22, R94: a request reaches the store and the marks of the waiting commands alone. -/
theorem requestWrite_blocks (i : ImageId) (s : State) :
    requestWrite i s = { s with store := (requestWrite i s).store, holds := (requestWrite i s).holds } := by
  unfold requestWrite
  split
  · rfl
  · split <;> rfl

/-- R93 step 6, R94: what the request for a command's change leaves. -/
theorem writeHolds_command (r : CmdRef) (i : Nat) (s : State) (t : State) (ht : writeHolds (some r) (i + 1) s = t) :
    t = { s with store := t.store, holds := t.holds } ∧ (∀ j, t.holds.slot j = s.holds.slot j) ∧
    t.holds.close = s.holds.close ∧ (∃ started, (⟨r, i + 1, started⟩ : HoldWaiter) ∈ t.holds.waiters) ∧
    (t.store.inFlight.map ImageWrite.image = some .hold ∨ ImageId.hold ∈ t.store.waiting) ∧
    t.store.active = s.store.active ∧ t.store.shadow = s.store.shadow := by
  subst ht
  let waits := addWaiter (some r) (i + 1) s
  have asked : writeHolds (some r) (i + 1) s = requestWrite .hold waits := if_neg (Nat.succ_ne_zero i)
  rw [asked]
  obtain ⟨active, shadow, slots, lever, close⟩ := requestWrite_keeps .hold waits
  have waiter : (⟨r, i + 1, false⟩ : HoldWaiter) ∈ waits.holds.waiters := by simp [waits, addWaiter]
  exact ⟨requestWrite_blocks .hold waits, slot_congr lever slots, close, requestWrite_waiters .hold waiter,
    requestWrite_queued .hold waits, active, shadow⟩

/-! ## HOLD_SET (R91) -/

/-- R164: a pole mask that is taken. -/
theorem poleMaskArg_good {b : Byte} (h : b.toNat ≠ 0) (h7 : b.toNat ≤ 7) :
    poleMaskArg b = some ⟨b.getLsbD 0, b.getLsbD 1, b.getLsbD 2⟩ := if_neg (by omega)

/-- R164: a pole mask that is a bad argument. -/
theorem poleMaskArg_bad {b : Byte} (h : b.toNat = 0 ∨ 7 < b.toNat) : poleMaskArg b = none := if_pos h

/-- R91: a profile flag that is taken. -/
theorem profileArg_good {b : Byte} (h : b.toNat ≤ 1) : profileArg b = some (decide (b.toNat = 1)) := by
  unfold profileArg
  obtain zero | one : b.toNat = 0 ∨ b.toNat = 1 := by omega
  · rw [zero]
    rfl
  · rw [one]
    rfl

theorem profileArg_bad {b : Byte} (h : 1 < b.toNat) : profileArg b = none := by
  unfold profileArg
  split
  case h_3 => rfl
  all_goals omega

/-- R91: a bad tag, scope or profile. -/
theorem holdSetTaken_bad {tag : Half} {scope profile : Byte} (r : CmdRef) (s : State)
    (bad : ¬ (tag ≠ 0 ∧ scope.toNat ≠ 0 ∧ scope.toNat ≤ 7 ∧ profile.toNat ≤ 1)) :
    holdSetTaken tag scope profile r s = complete r .badArgument s := by
  unfold holdSetTaken
  by_cases mask : scope.toNat = 0 ∨ 7 < scope.toNat
  · rw [poleMaskArg_bad mask]
  · by_cases flag : 1 < profile.toNat
    · rw [profileArg_bad flag]
      split
      · rename_i none
        cases none
      · rfl
    · rw [poleMaskArg_good (by omega) (by omega), profileArg_good (by omega)]
      have zero : tag = 0 := Decidable.byContradiction fun tagged => bad ⟨tagged, by omega, by omega, by omega⟩
      exact if_pos zero

/-- R91: a HOLD_SET with good arguments, by the place it finds. -/
theorem holdSetTaken_good {tag : Half} {scope profile : Byte} (r : CmdRef) (s : State) (tagged : tag ≠ 0)
    (named : scope.toNat ≠ 0) (small : scope.toNat ≤ 7) (flag : profile.toNat ≤ 1) :
    holdSetTaken tag scope profile r s =
      match holdPlace s.holds (PortId.holdOrigin r.port) tag s.time.timeTag with
      | some (k, set) => placeHold (some r) k
          { origin := PortId.holdOrigin r.port, tag := tag,
            scope := ⟨scope.getLsbD 0, scope.getLsbD 1, scope.getLsbD 2⟩, profile := decide (profile.toNat = 1),
            setTag := set } s
      | none => complete r (.refused .tableFull) s := by
  unfold holdSetTaken
  rw [poleMaskArg_good named small, profileArg_good flag]
  exact if_neg tagged

/-- R91: no empty slot among 1 to 7. -/
theorem firstEmpty_none {h : HoldUnit} (full : h.slots.toList.all Option.isSome = true) : h.firstEmpty = none := by
  refine Option.map_eq_none_iff.mpr (List.findIdx?_eq_none_iff.mpr fun x mem => ?_)
  have taken := List.all_eq_true.mp full x mem
  cases x with
  | none => cases taken
  | some y => rfl

/-- R91: the lowest empty slot is one of 1 to 7. -/
theorem firstEmpty_some {h : HoldUnit} {k : Nat} (found : h.firstEmpty = some k) : ∃ i, k = i + 1 ∧ i < 7 := by
  obtain ⟨i, at', rfl⟩ := Option.map_eq_some_iff.mp found
  obtain ⟨bound, -⟩ := List.findIdx?_eq_some_iff_getElem.mp at'
  exact ⟨i, rfl, by simpa using bound⟩

/-- R91: a hold found stands in one of the slots 1 to 7. -/
theorem find_bound {h : HoldUnit} {o : HoldOrigin} {tag : Half} {k : Nat} (found : h.find o tag = some k) :
    ∃ i, k = i + 1 ∧ i < 7 := by
  obtain ⟨i, x, rfl, at', -⟩ := HoldUnit.find_some found
  obtain ⟨bound, -⟩ := List.getElem?_eq_some_iff.mp at'
  exact ⟨i, rfl, by simpa using bound⟩

/-- Settles O32: the bad argument, the full table, and the slot found with what its placement leaves. -/
theorem holdSetPlaces : Obligations.HoldSetPlaces := by
  intro p n tag scope profile s ready origin mask good
  let u := s.admitted p n .holdSet
  refine ⟨fun bad => ?_, fun ⟨tagged, named, small, flag⟩ absent full => ?_, fun k h ⟨tagged, named, small, flag⟩ slot => ?_⟩
  · exact command_answered (f := id) ready rfl (holdSetTaken_bad _ _ bad) rfl
  · refine command_answered (f := id) ready rfl ?_ rfl
    rw [holdSetTaken_good _ _ tagged named small flag]
    have place : holdPlace u.holds origin tag u.time.timeTag = none := by
      simp only [holdPlace, u, State.admitted_holds, origin, absent, firstEmpty_none full, Option.map_none]
    simp only [State.nextRef_port, show holdPlace u.holds (PortId.holdOrigin p) tag u.time.timeTag = none from place, u]
    rfl
  · let hold : Hold := { origin := origin, tag := tag, scope := mask, profile := decide (profile.toNat = 1),
                         setTag := (h.map Hold.setTag).getD s.time.timeTag }
    have place : holdPlace u.holds origin tag u.time.timeTag = some (k, hold.setTag) := by
      obtain ⟨found, here⟩ | ⟨absent, empty, rfl⟩ := slot
      · simp only [holdPlace, u, State.admitted_holds, State.admitted_time, origin, found, here, hold]
      · simp only [holdPlace, u, State.admitted_holds, State.admitted_time, origin, absent, empty, hold]
        rfl
    obtain ⟨i, rfl, bound⟩ : ∃ i, k = i + 1 ∧ i < 7 := by
      obtain ⟨found, -⟩ | ⟨-, empty, -⟩ := slot
      · exact find_bound found
      · exact firstEmpty_some empty
    have taken : holdSetTaken tag scope profile (s.nextRef p) u =
        writeHolds (some (s.nextRef p)) (i + 1) (u.holdTold (i + 1) hold) := by
      rw [holdSetTaken_good _ _ tagged named small flag]
      simp only [State.nextRef_port,
        show holdPlace u.holds (PortId.holdOrigin p) tag u.time.timeTag = _ from place]
      rfl
    have told := u.holdTold_told (i + 1) hold
    obtain ⟨rest, slots, close, waiter, queued, active, shadow⟩ :=
      writeHolds_command (s.nextRef p) i (u.holdTold (i + 1) hold) _ rfl
    have placed : ∀ j, (u.holdTold (i + 1) hold).holds.slot j = (s.holds.setSlot (i + 1) (some hold)).slot j := by
      intro j
      rw [told.holds]
      exact slot_congr rfl rfl j
    refine ⟨_, (command_owner ready rfl).trans (congrArg _ taken), ?_, fun j other => ?_, fun free => ?_, waiter, queued,
      fun r record warning overlaps => ?_, ?_, ?_, ?_, ?_, ?_, ?_, ?_⟩
    · rw [slots, placed, slot_setSlot_same _ _ bound]
    · rw [slots, placed, slot_setSlot_other _ _ other]
    · rw [rest]
      exact (told.ctx (s.nextRef p) _ (holding_admitted rfl) free).trans (admitted_ctx s p n .holdSet)
    · exact close.trans (told.close r record warning overlaps)
    · rw [rest]
      exact told.seq
    · rw [rest]
      exact told.poles
    · rw [rest]
      exact told.prot
    · rw [rest]
      exact told.batt
    · rw [rest]
      exact told.time
    · rw [active, told.store]
      rfl
    · rw [shadow, told.store]
      rfl

/-! ## HOLD_LEVER_CHANGE (R95, R183) -/

/-- What the Hold Unit leaves of an accepted change of HOLD_LEVER (R95). -/
structure State.LeverTaken (s : State) (level : Bool) (t : State) : Prop where
  seq : t.seq = if level = true ∧ s.seq.state = .deadTime then s.seq.lockedOut .hold else s.seq
  lever : t.holds.lever = if level then some (leverHold s.time.timeTag) else none
  slots : t.holds.slots = s.holds.slots
  accepted : t.holds.leverAccepted = true
  close : level = true → ∀ r, s.holds.close = some r → r.phase = .warning → r.mask.isEmpty = false →
    t.holds.close = none
  line : t.line = { s.line with warningEnd := t.line.warningEnd, alarmEnd := t.line.alarmEnd }
  store : t.store = s.store
  poles : t.poles = s.poles
  prot : t.prot = s.prot
  batt : t.batt = s.batt
  time : t.time = s.time

/-- R95: the lever hold covers every pole. -/
theorem full_inter (m : PoleMask) : PoleMask.full.inter m = m := by
  obtain ⟨a, b, c⟩ := m
  rfl

theorem holdUnitTakesLever_taken (level : Bool) (s : State) : s.LeverTaken level (holdUnitTakesLever level s) := by
  let known : State := { s with holds := { s.holds with leverAccepted := true } }
  cases level with
  | true =>
    have told := known.holdTold_told 0 (leverHold s.time.timeTag)
    refine ⟨?_, congrArg HoldUnit.lever told.holds, (congrArg HoldUnit.slots told.holds).trans rfl,
      (congrArg HoldUnit.leverAccepted told.holds).trans rfl, fun _ r record warning named => ?_, told.line, told.store, told.poles,
      told.prot, told.batt, told.time⟩
    · exact told.seq.trans (by simp [known])
    · exact told.close r record warning ((congrArg PoleMask.isEmpty (full_inter r.mask)).trans named)
  | false =>
    cases standing : s.holds.lever with
    | some h =>
      have removed : holdUnitTakesLever false s =
          (raise .holdCleared (holdBody 0 h) (known.withSlot 0 none)).askAlarm := by
        simp only [holdUnitTakesLever, standing]
        rfl
      rw [removed]
      exact ⟨rfl, rfl, rfl, rfl, fun on => absurd on Bool.false_ne_true, rfl, rfl, rfl, rfl, rfl, rfl⟩
    | none =>
      have nothing : holdUnitTakesLever false s = known := by
        unfold holdUnitTakesLever
        dsimp only
        rw [if_neg Bool.false_ne_true]
        split
        · rename_i h found
          cases standing.symm.trans found
        · rfl
      rw [nothing]
      exact ⟨rfl, standing, rfl, rfl, fun on => absurd on Bool.false_ne_true, rfl, rfl, rfl, rfl, rfl, rfl⟩

/-- R183: the event flags after HOLD_LEVER's change, which raises no event. -/
theorem lineTakes_lever (x : Accepted) (s : State) :
    lineTakes .holdLever x s = { s with line := { s.line with
      radioFlags := { s.line.radioFlags with
        holdLever := s.line.radioFlags.holdLever || (x.level && !x.first && s.line.masks.holdLever) }
      crewFlags := { s.line.crewFlags with
        holdLever := s.line.crewFlags.holdLever || (x.level && !x.first && s.line.masks.holdLever) } } } := by
  obtain ⟨level, first⟩ := x
  have member : MaskInput.holdLever.get s.line.masks = s.line.masks.holdLever := rfl
  unfold lineTakes
  rw [member]
  cases first <;> cases masked : s.line.masks.holdLever <;> cases level <;>
    simp [lineEffect, raiseLineEvent, MaskInput.event, LineUnit.setFlags, MaskInput.set]

/-- Log 9: a change row that names the level already accepted changes nothing. -/
theorem leverChange_same {level : Bool} {s : State} (h : s.line.filters.cabinet.holdLever.accepted = .of level) :
    changeCabinet .holdLever takeLever level s = s := by
  have none : (MaskInput.holdLever.get s.line.filters.cabinet).change level = (s.line.filters.cabinet.holdLever, none) :=
    if_pos h
  unfold changeCabinet
  rw [none]
  rfl

/-- R95, R182: a change row that names another level is accepted and handed to the Hold Unit. -/
theorem leverChange_other {level : Bool} {s : State} (h : s.line.filters.cabinet.holdLever.accepted ≠ .of level) :
    ∃ f : Filter, f.accepted = .of level ∧ changeCabinet .holdLever takeLever level s =
      takeLever ⟨level, decide (s.line.filters.cabinet.holdLever.accepted = .notYet)⟩
        (s.withFilters { s.line.filters with cabinet := { s.line.filters.cabinet with holdLever := f } }) := by
  have accepts : (MaskInput.holdLever.get s.line.filters.cabinet).change level =
      s.line.filters.cabinet.holdLever.accept level := if_neg h
  unfold changeCabinet
  rw [accepts]
  exact ⟨(s.line.filters.cabinet.holdLever.accept level).1, rfl, rfl⟩

/-- Settles O34: no change, or the lever hold placed or removed. -/
theorem holdLeverPlacesOrRemoves : Obligations.HoldLeverPlacesOrRemoves := by
  intro level s powered lvl flagged
  refine ⟨fun same => ?_, fun other => ?_⟩
  · exact (run_powered powered).trans (congrArg _ (leverChange_same same))
  · obtain ⟨f, accepted, change⟩ := leverChange_other other
    have run := (run_powered (f := changeCabinet .holdLever takeLever level) powered).trans (congrArg _ change)
    generalize hu : s.withFilters { s.line.filters with cabinet := { s.line.filters.cabinet with holdLever := f } } = u
      at run
    have taken := holdUnitTakesLever_taken level u
    unfold takeLever at run
    rw [lineTakes_lever, taken.line] at run
    subst hu
    have flags : (level && !decide (s.line.filters.cabinet.holdLever.accepted = .notYet) &&
        s.line.masks.holdLever) = flagged := by simp [flagged]
    refine ⟨_, run, accepted, taken.accepted, taken.lever, taken.seq, ?_, ?_, taken.slots, taken.store, taken.poles,
      taken.prot, taken.batt, taken.time, taken.close⟩
    · simp only [← flags]
      rfl
    · simp only [← flags]
      rfl

end Sys2Proof.Machine
end

section
/-! PROOFS. The reads that answer in frames: FAULT_READ (R67) and HOLD_LIST (R98), and the bytes of a fault record, of the
summary and of a hold (R66, R98, R164). -/

namespace Sys2Proof.Machine

/-! ## FAULT_READ (R67) -/

/-- R67: the records a good FAULT_READ chooses. -/
theorem chosenRecords_good (l : List FaultRecord) {mode : Byte} {v : Half}
    (good : (mode.toNat = 0 ∧ v ≠ 0) ∨ (mode.toNat = 1 ∧ v ≠ 0 ∧ v.toNat ≤ 8)) :
    chosenRecords l mode v =
      some (if mode.toNat = 0 then l.filter fun r => r.number = v else l.drop (l.length - v.toNat)) := by
  unfold chosenRecords
  obtain ⟨zero, named⟩ | ⟨one, named, few⟩ := good
  · rw [zero]
    exact if_neg named
  · rw [one]
    exact if_neg (not_or.mpr ⟨named, Nat.not_lt.mpr few⟩)

/-- R67: a bad mode, number or count. -/
theorem chosenRecords_bad (l : List FaultRecord) {mode : Byte} {v : Half}
    (bad : ¬ ((mode.toNat = 0 ∧ v ≠ 0) ∨ (mode.toNat = 1 ∧ v ≠ 0 ∧ v.toNat ≤ 8))) : chosenRecords l mode v = none := by
  obtain ⟨byNumber, byCount⟩ := not_or.mp bad
  unfold chosenRecords
  split
  case h_1 zero => exact if_pos (Decidable.byContradiction fun named => byNumber ⟨zero, named⟩)
  case h_2 one =>
    refine if_pos (Decidable.or_iff_not_imp_left.mpr fun named => ?_)
    exact Nat.lt_of_not_le fun few => byCount ⟨one, named, few⟩
  case h_3 => rfl

/-- R67: a good FAULT_READ that its port's context takes. -/
theorem faultRead_taken {s : State} {p : PortId} (n : Half) {mode : Byte} {v : Half} {l : List FaultRecord}
    (h : s.ready p) (chosen : chosenRecords s.seq.faults mode v = some l) :
    exec (.faultRead p n mode v) s =
      .next (completeFrames (s.nextRef p) (recordFrames l) (s.admitted p n .faultRead)) := by
  refine (command_owner h rfl).trans (congrArg _ ?_)
  simp only [faultReadTaken, State.admitted_seq, chosen]

/-- R170: an answer of a single frame. -/
theorem completeFrames_answered (s : State) (p : PortId) (n : Half) (c : CommandCode) (d : List Byte) :
    completeFrames (s.nextRef p) [d] (s.admitted p n c) = s.answered p n c (.done d) :=
  completeFrames_one d rfl

/-- R170: an answer of several frames, the first not dropped. -/
theorem completeFrames_answering {s : State} {p : PortId} (n : Half) (c : CommandCode) (d e : List Byte)
    (rest : List (List Byte)) (room : ¬ s.port.drops p) :
    completeFrames (s.nextRef p) (d :: e :: rest) (s.admitted p n c) = s.answering p n c d (e :: rest) :=
  completeFrames_many d e rest rfl (mt (admitted_drops s p p n c).mp room)

/-! ## HOLD_LIST (R98) -/

/-- R98: HOLD_LIST that its port's context takes. -/
theorem holdList_taken {s : State} {p : PortId} (n : Half) (h : s.ready p) :
    exec (.holdList p n) s =
      .next ((completeFrames (s.nextRef p) (holdListFrames s.freeCount s.now s.holds) (s.admitted p n .holdList)).spend
        3) :=
  command_owner h rfl

/-- R98: up to four holds stand in one frame. -/
theorem holdListFrames_one (k now : Nat) {h : HoldUnit} (few : h.table.length ≤ 4) :
    holdListFrames k now h = [holdListSummary k now h ++ (h.table.take 4).flatMap holdBytes] := by
  have one : groups 3 8 h.table = [h.table] := groups_short few
  unfold holdListFrames
  rw [one, List.take_of_length_le few]
  rfl

/-- R98: more stand in two frames. -/
theorem holdListFrames_two (k now : Nat) {h : HoldUnit} (many : 4 < h.table.length) :
    holdListFrames k now h =
      [holdListSummary k now h ++ (h.table.take 4).flatMap holdBytes, (h.table.drop 4).flatMap holdBytes] := by
  have last : (h.table.drop 4).length ≤ 3 + 1 := by
    have most := holdTable_length h
    rw [List.length_drop]
    omega
  have two : groups 3 8 h.table = [h.table.take 4, h.table.drop 4] :=
    (groups_long many).trans (congrArg _ (groups_short last))
  unfold holdListFrames
  rw [two]
  rfl

/-! ## The bytes (R66, R98, R164) -/

/-- R66: the code of an outcome is its place. -/
theorem FaultOutcome.code_toNat (x : FaultOutcome) :
    (FaultOutcome.code x).toNat = [FaultOutcome.reclosedOk, .lockout, .tripFailed].idxOf x := by cases x <;> rfl

/-- R63: the code of a cause is its place. -/
theorem LockoutCause.code_toNat (x : LockoutCause) :
    (LockoutCause.code x).toNat = [LockoutCause.lastShot, .gate, .hold, .evolving, .mechFail, .operator,
      .closeOntoFault, .supply, .start, .handle, .poleFailed, .poleBusy, .positionUnknown, .linkLost, .supplyCritical,
      .shutdown, .energyLow].idxOf x := by
  cases x <;> rfl

/-- R89: the code of an origin is its place. -/
theorem HoldOrigin.code_toNat (x : HoldOrigin) :
    (HoldOrigin.code x).toNat = placeIn [HoldOrigin.lever, .crew, .radio, .store] (some x) := by cases x <;> rfl

/-- R164: a pole mask as sent. -/
theorem PoleMask.byte_toNat (m : PoleMask) : (PoleMask.byte m).toNat = setNumber [m.a, m.b, m.c] :=
  bits_toNat (by simp [PerPole.toList])

/-- R129: the range flag of a clearing time. -/
theorem rangeFlag_toNat (n : Nat) : (bits [overflows16 n]).toNat = if n < 65536 then 0 else 1 := by
  unfold overflows16
  by_cases fits : n < 65536
  · rw [if_pos fits, decide_eq_false (Nat.not_le.mpr fits)]
    rfl
  · rw [if_neg fits, decide_eq_true (Nat.le_of_not_lt fits)]
    rfl

/-- R98: the close record's mask, origin and phase in one byte. -/
theorem closeByte_toNat (m : PoleMask) (crew pulsing : Prop) [Decidable crew] [Decidable pulsing] :
    (PoleMask.byte m ||| (if crew then 0x10 else 0) ||| (if pulsing then 0x20 else 0)).toNat =
      setNumber [m.a, m.b, m.c] + (if crew then 16 else 0) + if pulsing then 32 else 0 := by
  have all : ∀ a b c x y : Bool,
      (PoleMask.byte ⟨a, b, c⟩ ||| (if x then 0x10 else 0) ||| (if y then 0x20 else 0)).toNat =
        setNumber [a, b, c] + (if x then 16 else 0) + if y then 32 else 0 := by decide
  obtain ⟨a, b, c⟩ := m
  simpa using all a b c (decide crew) (decide pulsing)

/-- R98: the time of the close record as sent: 0 once its pulses have begun. -/
theorem warningLeft_fitted (r : CloseRecord) (now : Nat) :
    fitted 2 (if r.phase = .warning then r.warningEnd - now else 0) =
      if r.phase = .pulsing then 0 else fitted 2 (r.warningEnd - now) := by
  cases r.phase <;> rfl

/-- R98: the summary with a close record. -/
theorem holdListSummary_close (k now : Nat) {h : HoldUnit} {r : CloseRecord} (record : h.close = some r) :
    holdListSummary k now h =
      [holdSummaryByte h, PoleMask.byte r.mask ||| (if r.cmd.port = .crew then 0x10 else 0) |||
        (if r.phase = .pulsing then 0x20 else 0)] ++ u16 (if r.phase = .warning then r.warningEnd - now else 0) := by
  unfold holdListSummary
  rw [record]

/-- R98, log 21: the summary's length and first byte do not depend on the close record's other bytes. -/
theorem holdListSummary_first (k now : Nat) (h : HoldUnit) :
    (holdListSummary k now h).length = 4 ∧ (holdListSummary k now h).take 1 = [holdSummaryByte h] := by
  unfold holdListSummary
  cases h.close <;> exact ⟨rfl, rfl⟩

/-- Settles O22: FAULT_READ by its operands, HOLD_LIST by the number of holds, and the three layouts byte by byte. -/
theorem readsAnswerInFrames : Obligations.ReadsAnswerInFrames := by
  refine ⟨fun p n s h => ⟨?faults, ?list⟩, ?record, ?summary, ?hold⟩
  case faults =>
    intro mode v good chosen
    refine ⟨fun bad => ?_, fun ok none => ?_, fun ok r one => ?_, fun ok r q rest many room => ?_⟩
    · refine command_answered (f := id) h rfl ?_ rfl
      simp only [faultReadTaken, State.admitted_seq, chosenRecords_bad _ bad]
      rfl
    · have frames : recordFrames chosen = [[]] := by rw [none]; rfl
      rw [faultRead_taken n h (chosenRecords_good _ ok), show recordFrames _ = _ from frames, completeFrames_answered]
    · have frames : recordFrames chosen = [faultRecordBytes r] := by rw [one]; rfl
      rw [faultRead_taken n h (chosenRecords_good _ ok), show recordFrames _ = _ from frames, completeFrames_answered]
    · have frames : recordFrames chosen = faultRecordBytes r :: faultRecordBytes q :: rest.map faultRecordBytes := by
        rw [many]; rfl
      rw [faultRead_taken n h (chosenRecords_good _ ok), show recordFrames _ = _ from frames,
        completeFrames_answering _ _ _ _ _ room]
      rfl
  case list =>
    intro holds first
    refine ⟨fun few => ?_, fun many room => ?_⟩
    · rw [holdList_taken n h, holdListFrames_one _ _ few, completeFrames_answered]
    · rw [holdList_taken n h, holdListFrames_two _ _ many, completeFrames_answering _ _ _ _ _ room]
  case record =>
    intro r d
    exact ⟨rfl, numberAt_of_part (numberAt_be16 _) rfl, numberAt_of_part (numberAt_be32 _) rfl,
      numberAt_of_part (numberAt_u8 _) rfl, numberAt_of_u16s rfl rfl rfl, numberAt_of_byte (bits_toNat (by simp)) rfl,
      numberAt_of_byte (PoleMask.byte_toNat _) rfl, numberAt_of_part (numberAt_u16 _) rfl,
      numberAt_of_byte (rangeFlag_toNat _) rfl, numberAt_of_byte (optByte_toNat FaultOutcome.code_toNat _) rfl,
      numberAt_of_byte (optByte_toNat LockoutCause.code_toNat _) rfl⟩
  case summary =>
    intro k now h d
    obtain ⟨length, first⟩ := holdListSummary_first k now h
    refine ⟨length, numberAt_of_byte ?_ first, fun r record => ?_⟩
    · rw [holdSummaryByte_toNat]
      have profile : h.profileInForce = h.table.any fun x => x.2.profile := rfl
      rw [profile]
      split <;> split <;> rfl
    · have bytes : d = _ := holdListSummary_close k now record
      rw [bytes]
      exact ⟨numberAt_of_byte (closeByte_toNat _ _ _) rfl,
        numberAt_of_part ((numberAt_u16 _).trans (warningLeft_fitted r now)) rfl⟩
  case hold =>
    intro x d
    exact ⟨rfl, numberAt_of_part (numberAt_u8 _) rfl, numberAt_of_byte (HoldOrigin.code_toNat _) rfl,
      numberAt_of_part (numberAt_be16 _) rfl, numberAt_of_byte (PoleMask.byte_toNat _) rfl,
      numberAt_of_byte (Bool.byte_toNat _) rfl, numberAt_of_part (numberAt_be32 _) rfl⟩

end Sys2Proof.Machine
end

section
/-! PROOFS. A cabinet reading: what it leaves of the battery record (R107 to R115, R118, R120, R124), of the energy store
(R81 to R83) and of the sequence (R55). -/

namespace Sys2Proof.Machine

/-! ## The charger judged on a reading (R109 to R112) -/

/-- R112: a fault condition taken by the charger. -/
def Battery.takesFault (b : Battery) (c : FaultCondition) : Battery :=
  match b.charger with
  | .test => { b with pendingFault := some c }
  | .fault => { b with faultClear := none }
  | _ => { b with charger := .fault }

/-- R109 to R112: the battery record after step 4 of a reading. -/
def Battery.judged (b : Battery) (bank : Bank) (now : Nat) (first : Bool) : Battery :=
  match b.faultPresent bank with
  | some c => b.takesFault c
  | none =>
    match b.charger with
    | .fault => { b with faultClear := some (b.faultClear.getD (now + 60000)) }
    | .off => if first then b.entry bank else b
    | _ => b.stage bank now

theorem chargerTakesFault_batt (c : FaultCondition) (s : State) :
    (chargerTakesFault c s).batt = s.batt.takesFault c := by
  unfold chargerTakesFault Battery.takesFault
  cases charger : s.batt.charger with
  | test | fault => simp only [charger]
  | off | bulk | absorb | float => rfl

theorem chargerStep_batt (first : Bool) (s : State) :
    (chargerStep first s).batt = s.batt.judged s.store.active s.now first := by
  unfold chargerStep Battery.judged
  cases s.batt.faultPresent s.store.active with
  | some c => exact chargerTakesFault_batt c s
  | none =>
    cases charger : s.batt.charger with
    | fault => simp only [charger]
    | off => cases first <;> rfl
    | bulk | absorb | float | test => rfl

@[simp] theorem chargerStep_cmd (first : Bool) (s : State) : (chargerStep first s).cmd = s.cmd := by
  unfold chargerStep chargerTakesFault
  split
  · split <;> rfl
  · split
    · rfl
    · split <;> rfl
    · rfl

/-- R112: whether the latest reading shows a fault condition. -/
theorem faultPresent_none_iff (b : Battery) (bank : Bank) :
    b.faultPresent bank = none ↔
      ¬ (b.temperature < bank.temperatureMin ∨ bank.temperatureMax < b.temperature ∨ bank.maximumVoltage < b.voltage) := by
  unfold Battery.faultPresent
  split_ifs <;> simp_all

section
variable (bank : Bank) (now : Nat) (first : Bool) {b : Battery}

/-- R109, R111, R112: a reading's judgement reaches the charger's own items alone. -/
theorem judged_keeps (b : Battery) : ∃ (charger : ChargerState) (absorb : Option Nat) (clear : Timer)
    (pending : Option FaultCondition) (coulomb : Nat) (estimated : Bool), b.judged bank now first =
      { b with charger := charger, absorbEntry := absorb, faultClear := clear, pendingFault := pending,
               coulomb := coulomb, estimated := estimated } := by
  unfold Battery.judged
  split
  · unfold Battery.takesFault
    split <;> exact ⟨_, _, _, _, _, _, rfl⟩
  · split
    · exact ⟨_, _, _, _, _, _, rfl⟩
    · rw [entry_eq]
      split <;> exact ⟨_, _, _, _, _, _, rfl⟩
    · unfold Battery.stage
      split
      · split <;> exact ⟨_, _, _, _, _, _, rfl⟩
      · split_ifs <;> exact ⟨_, _, _, _, _, _, rfl⟩
      · split <;> exact ⟨_, _, _, _, _, _, rfl⟩
      · exact ⟨_, _, _, _, _, _, rfl⟩

/-- R112: a fault condition, with no test running. -/
theorem judged_faulty (faulty : b.faultPresent bank ≠ none) (idle : b.charger ≠ .test) :
    b.judged bank now first =
      { b with charger := .fault, faultClear := if b.charger = .fault then none else b.faultClear } := by
  obtain ⟨c, present⟩ := Option.ne_none_iff_exists'.mp faulty
  simp only [Battery.judged, present, Battery.takesFault]
  split
  · rename_i test
    exact absurd test idle
  · rename_i fault
    rw [if_pos fault, ← fault]
  · rename_i other
    rw [if_neg other]

/-- R112: a reading with no fault condition runs the fault-clear timer. -/
theorem judged_clearing (sound : b.faultPresent bank = none) (fault : b.charger = .fault) :
    b.judged bank now first = { b with faultClear := some (b.faultClear.getD (now + 60000)) } := by
  simp only [Battery.judged, sound, fault]

/-- R109: OFF takes the entry rule at the first reading. -/
theorem judged_off (sound : b.faultPresent bank = none) (off : b.charger = .off) :
    b.judged bank now first = if first then b.entry bank else b := by
  simp only [Battery.judged, sound, off]

/-- R111: BULK becomes ABSORB at the absorb voltage. -/
theorem judged_bulk (sound : b.faultPresent bank = none) (bulk : b.charger = .bulk) :
    b.judged bank now first =
      if bank.absorbVoltage ≤ b.voltage then { b with charger := .absorb, absorbEntry := some now } else b := by
  simp only [Battery.judged, sound, bulk, Battery.stage]

/-- R111: ABSORB becomes FLOAT at the end current, or at its time limit. -/
theorem judged_absorb (sound : b.faultPresent bank = none) (absorb : b.charger = .absorb) :
    b.judged bank now first =
      if 0 ≤ b.current ∧ b.current ≤ bank.endCurrent then
        { b with charger := .float, coulomb := bank.fullCount, estimated := false }
      else if bank.absorbLimit ≤ now - b.absorbEntry.getD now then { b with charger := .float }
      else b := by
  simp only [Battery.judged, sound, absorb, Battery.stage]

/-- R111: FLOAT becomes BULK below the rebulk voltage. -/
theorem judged_float (sound : b.faultPresent bank = none) (float : b.charger = .float) :
    b.judged bank now first =
      if b.voltage < bank.floatVoltage - bank.rebulkMargin then { b with charger := .bulk } else b := by
  simp only [Battery.judged, sound, float, Battery.stage]

/-- R112: TEST stores a fault condition as pending. -/
theorem judged_test (test : b.charger = .test) :
    b.judged bank now first = { b with pendingFault := (b.faultPresent bank).or b.pendingFault } := by
  unfold Battery.judged
  cases b.faultPresent bank with
  | some c => simp only [Battery.takesFault, test, Option.some_or]
  | none =>
    simp only [test, Battery.stage, Option.none_or]
    rw [← test]

end

/-! ## The load test under a reading (R118, R120) -/

/-- R112, R120: the battery record as the charger leaves TEST. -/
def Battery.leftTest (b : Battery) (bank : Bank) : Battery :=
  if b.pendingFault.isSome then { b with charger := .fault, pendingFault := none } else b.entry bank

/-- R120: the battery record after a test that ends without a grade. -/
def Battery.aborted (b : Battery) (bank : Bank) (now : Nat) (cause : TestCause) (x : LoadTest) : Battery :=
  let left := (b.endTest (x.record .aborted (some cause))).leftTest bank
  { left with retryWait := if x.origin = .scheduled then some (now + 600000) else b.retryWait }

/-- R120: the end of a test up to its event. -/
def State.testEnded (s : State) (cause : TestCause) (x : LoadTest) : State :=
  startRetry x.origin (chargerLeavesTest { s with batt := s.batt.endTest (x.record .aborted (some cause)) })

theorem chargerLeavesTest_leaves (s : State) :
    (chargerLeavesTest s).batt = s.batt.leftTest s.store.active ∧ (chargerLeavesTest s).cmd = s.cmd ∧
    (chargerLeavesTest s).time = s.time := by
  unfold chargerLeavesTest Battery.leftTest
  cases s.batt.pendingFault <;> exact ⟨rfl, rfl, rfl⟩

theorem startRetry_batt (origin : TestOrigin) (s : State) :
    (startRetry origin s).batt = { s.batt with
      retryWait := if origin = .scheduled then some (s.now + 600000) else s.batt.retryWait } := by
  unfold startRetry
  split <;> rfl

@[simp] theorem startRetry_cmd (origin : TestOrigin) (s : State) : (startRetry origin s).cmd = s.cmd := by
  unfold startRetry
  split <;> rfl

theorem leftTest_retryWait (b : Battery) (bank : Bank) : (b.leftTest bank).retryWait = b.retryWait := by
  unfold Battery.leftTest
  rw [entry_eq]
  split <;> rfl

theorem testEnded_blocks (s : State) (cause : TestCause) (x : LoadTest) :
    (s.testEnded cause x).batt = s.batt.aborted s.store.active s.now cause x ∧ (s.testEnded cause x).cmd = s.cmd := by
  obtain ⟨batt, cmd, time⟩ :=
    chargerLeavesTest_leaves { s with batt := s.batt.endTest (x.record .aborted (some cause)) }
  refine ⟨?_, (startRetry_cmd _ _).trans cmd⟩
  unfold State.testEnded
  rw [startRetry_batt, batt, State.now, time, leftTest_retryWait]
  rfl

/-- R120: a running test ends: the event, and where it was commanded its answer. -/
theorem abortTest_running {s : State} {x : LoadTest} {cause : TestCause} (running : s.batt.test = some x)
    (commanded : cause ≠ .abort) :
    ∃ body, abortTest cause s = s.onlyBattery (answerTest x.origin
      (.failed (testRecordBytes (x.record .aborted (some cause)))) (raise .testResult body (s.testEnded cause x))) := by
  unfold abortTest
  rw [running]
  dsimp only
  rw [if_neg commanded]
  exact ⟨_, rfl⟩

@[simp] theorem answerTest_batt (o : TestOrigin) (a : Answer) (s : State) : (answerTest o a s).batt = s.batt := by
  cases o <;> rfl

theorem abortTest_batt {s : State} {x : LoadTest} {cause : TestCause} (running : s.batt.test = some x)
    (commanded : cause ≠ .abort) : (abortTest cause s).batt = s.batt.aborted s.store.active s.now cause x := by
  obtain ⟨body, ended⟩ := abortTest_running running commanded
  rw [ended, State.onlyBattery_batt, answerTest_batt, raise_batt, (testEnded_blocks s cause x).1]

/-- R120, R169: the BATTERY_TEST that ran is answered. -/
theorem abortTest_idle {s : State} {x : LoadTest} {cause : TestCause} {r : CmdRef} {n : Half} {e : Executing}
    (running : s.batt.test = some x) (commanded : cause ≠ .abort) (origin : x.origin = .command r n)
    (held : s.holding r = some e) : (abortTest cause s).cmd.ctx r.port = .idle := by
  obtain ⟨body, ended⟩ := abortTest_running running commanded
  rw [ended, origin]
  refine complete_idle _ (e := e) (Eq.trans (holding_congr ?_) held)
  rw [raise_cmd, (testEnded_blocks s cause x).2]

/-- R109: the state the entry rule chooses once a reading was taken. -/
def Battery.entered (b : Battery) (bank : Bank) : ChargerState :=
  if b.ac ≠ .active then .off else if b.voltage < bank.floatVoltage - bank.rebulkMargin then .bulk else .float

theorem entry_of_taken {b : Battery} (bank : Bank) (taken : b.readingTaken = true) :
    b.entry bank = { b with charger := b.entered bank } := by
  rw [entry_eq]
  simp only [taken, Bool.true_eq_false, or_false, Battery.entered]

theorem entered_ne (b : Battery) (bank : Bank) : b.entered bank ≠ .test ∧ b.entered bank ≠ .fault := by
  unfold Battery.entered
  split_ifs <;> decide

/-- R112, R120: what an aborted test changes. -/
theorem aborted_eq (bank : Bank) (now : Nat) (cause : TestCause) (x : LoadTest) {b : Battery}
    (taken : b.readingTaken = true) :
    b.aborted bank now cause x =
      { b with test := none, lastTest := some (x.record .aborted (some cause))
               charger := if b.pendingFault.isSome then .fault else b.entered bank, pendingFault := none
               retryWait := if x.origin = .scheduled then some (now + 600000) else b.retryWait } := by
  have after : (b.endTest (x.record .aborted (some cause))).readingTaken = true := taken
  unfold Battery.aborted Battery.leftTest
  rw [entry_of_taken bank after]
  cases pending : b.pendingFault with
  | some c => simp only [Battery.endTest, pending, Option.isSome_some, if_true]
  | none => simp only [Battery.endTest, Battery.entered, pending, Option.isSome_none, Bool.false_eq_true, if_false]

/-! ## Steps 1 to 4 of a reading (R108) -/

/-- R108 steps 1 and 2: the readings replaced and the coulomb count advanced. -/
def Battery.counted (b : Battery) (bank : Bank) (v c t : Int) : Battery :=
  { b.reading v c t with
    coulomb := advancedCount bank.fullCount (b.reading v c t).coulomb (b.reading v c t).current }

/-- R118: a running test's minimum after a reading. -/
def LoadTest.lowered (x : LoadTest) (v : Nat) : LoadTest := { x with minVoltage := min x.minVoltage v }

section
variable (v c t : Int) {s : State}

/-- R108: a reading with no test running. -/
theorem batteryTakesReading_untested (idle : s.batt.test = none) :
    (batteryTakesReading v c t s).batt =
      (s.batt.counted s.store.active v c t).judged s.store.active s.now (!s.batt.readingTaken) := by
  have counted : (s.batt.counted s.store.active v c t).test = none := idle
  have taken : testTakesReading { s with batt := s.batt.counted s.store.active v c t } =
      { s with batt := s.batt.counted s.store.active v c t } := by
    unfold testTakesReading
    rw [counted]
  exact (congrArg (fun u => (chargerStep (!s.batt.readingTaken) u).batt) taken).trans (chargerStep_batt _ _)

/-- R118: the running test takes the reading. -/
def State.testLowered (s : State) (v c t : Int) (x : LoadTest) : State :=
  { s with batt := { s.batt.counted s.store.active v c t with
      test := some (x.lowered (s.batt.counted s.store.active v c t).voltage) } }

theorem testTakesReading_running {x : LoadTest} (running : s.batt.test = some x) :
    testTakesReading { s with batt := s.batt.counted s.store.active v c t } =
      if (s.batt.counted s.store.active v c t).voltage < s.store.active.testAbortVoltage then
        abortTest .lowVoltage (s.testLowered v c t x)
      else s.testLowered v c t x := by
  have counted : (s.batt.counted s.store.active v c t).test = some x := running
  unfold testTakesReading
  rw [counted]
  rfl

/-- R112, R118: a reading that lets the test go on. -/
theorem batteryTakesReading_tested {x : LoadTest} (running : s.batt.test = some x)
    (enough : s.store.active.testAbortVoltage ≤ (s.batt.counted s.store.active v c t).voltage) :
    (batteryTakesReading v c t s).batt =
      (s.testLowered v c t x).batt.judged s.store.active s.now (!s.batt.readingTaken) := by
  have taken := (testTakesReading_running v c t running).trans (if_neg (Nat.not_lt.mpr enough))
  exact (congrArg (fun u => (chargerStep (!s.batt.readingTaken) u).batt) taken).trans (chargerStep_batt _ _)

/-- R120: a reading that ends the test. -/
theorem batteryTakesReading_ends {x : LoadTest} (running : s.batt.test = some x)
    (short : (s.batt.counted s.store.active v c t).voltage < s.store.active.testAbortVoltage) :
    (batteryTakesReading v c t s).batt =
      ((s.testLowered v c t x).batt.aborted s.store.active s.now .lowVoltage
        (x.lowered (s.batt.counted s.store.active v c t).voltage)).judged s.store.active s.now (!s.batt.readingTaken) ∧
    ∀ r n e, x.origin = .command r n → s.holding r = some e → (batteryTakesReading v c t s).cmd.ctx r.port = .idle := by
  have taken := (testTakesReading_running v c t running).trans (if_pos short)
  have low : (s.testLowered v c t x).batt.test = some (x.lowered (s.batt.counted s.store.active v c t).voltage) := rfl
  have result : batteryTakesReading v c t s =
      s.onlyBattery (chargerStep (!s.batt.readingTaken) (abortTest .lowVoltage (s.testLowered v c t x))) :=
    congrArg (fun u => s.onlyBattery (chargerStep (!s.batt.readingTaken) u)) taken
  rw [result]
  refine ⟨?_, fun r n e origin held => ?_⟩
  · rw [State.onlyBattery_batt, chargerStep_batt, abortTest_batt low (by decide)]
    rfl
  · rw [State.onlyBattery_cmd, chargerStep_cmd]
    exact abortTest_idle low (by decide) origin held

end

/-! ## What a reading leaves in the battery record -/

/-- R108, R112: what no reading's judgement or test changes after the readings were replaced. -/
theorem batteryTakesReading_keeps (v c t : Int) (s : State) :
    let b := (batteryTakesReading v c t s).batt
    let k := s.batt.counted s.store.active v c t
    b.voltage = k.voltage ∧ b.current = k.current ∧ b.temperature = k.temperature ∧ b.readingTaken = true ∧
    b.ac = s.batt.ac ∧ b.level = s.batt.level ∧ b.shutdown = s.batt.shutdown ∧
    b.shutdownTimer = s.batt.shutdownTimer ∧ b.nextDue = s.batt.nextDue := by
  intro b k
  have judged : ∀ j : Battery, b = j.judged s.store.active s.now (!s.batt.readingTaken) →
      b.voltage = j.voltage ∧ b.current = j.current ∧ b.temperature = j.temperature ∧
      b.readingTaken = j.readingTaken ∧ b.ac = j.ac ∧ b.level = j.level ∧ b.shutdown = j.shutdown ∧
      b.shutdownTimer = j.shutdownTimer ∧ b.nextDue = j.nextDue := by
    intro j found
    obtain ⟨_, _, _, _, _, _, kept⟩ := judged_keeps s.store.active s.now (!s.batt.readingTaken) j
    rw [found, kept]
    exact ⟨rfl, rfl, rfl, rfl, rfl, rfl, rfl, rfl, rfl⟩
  cases running : s.batt.test with
  | none => exact judged _ (batteryTakesReading_untested v c t running)
  | some x =>
    rcases Nat.lt_or_ge k.voltage s.store.active.testAbortVoltage with short | enough
    · have left := aborted_eq s.store.active s.now .lowVoltage (x.lowered k.voltage)
        (b := (s.testLowered v c t x).batt) rfl
      have ended := judged _ (batteryTakesReading_ends v c t running short).1
      rw [left] at ended
      exact ended
    · have tested := judged _ (batteryTakesReading_tested v c t running enough)
      exact tested

/-! ## The supply level after a reading (R114, R115) -/

/-- R114, R124: the battery record with its level judged. -/
def Battery.levelled (b : Battery) (bank : Bank) (now : Nat) : Battery :=
  let new := judgedLevel bank b.level b.voltage
  let begins := new = .shutdownPending ∧ b.level ≠ .shutdownPending
  { b with level := new, shutdown := if begins then .waiting else b.shutdown,
           shutdownTimer := if begins then some (now + 30000) else b.shutdownTimer }

/-- R55, R115: the sequence told of the level. -/
def Sequence.levelled (q : Sequence) (bank : Bank) (b : Battery) : Sequence :=
  if judgedLevel bank b.level b.voltage = .shutdownPending ∧ b.level ≠ .shutdownPending ∧ q.state = .deadTime then
    q.lockedOut .supply
  else q

theorem sequenceTakesLevel_blocks (s : State) : ∃ r q, sequenceTakesLevel s =
    { s with seq := if s.seq.state = .deadTime ∧ s.batt.level = .shutdownPending then s.seq.lockedOut .supply else s.seq,
             rep := r, port := q } := by
  unfold sequenceTakesLevel
  split
  · rw [← enterLockout_seq]
    exact ⟨_, _, rfl⟩
  · exact ⟨_, _, rfl⟩

theorem levelStep_blocks (s : State) : ∃ r q, levelStep s =
    { s with seq := s.seq.levelled s.store.active s.batt, batt := s.batt.levelled s.store.active s.now,
             rep := r, port := q } := by
  unfold levelStep
  dsimp only
  split
  case isTrue same =>
    have batt : s.batt.levelled s.store.active s.now = s.batt := by
      simp only [Battery.levelled, same, ne_eq, and_not_self, if_false]
    have seq : s.seq.levelled s.store.active s.batt = s.seq :=
      if_neg fun ⟨pending, changed, _⟩ => changed (same.symm.trans pending)
    rw [batt, seq]
    exact ⟨s.rep, s.port, rfl⟩
  case isFalse changed =>
    unfold levelChanges
    dsimp only
    obtain ⟨r, q, told⟩ := sequenceTakesLevel_blocks
      { s with batt := { s.batt with level := judgedLevel s.store.active s.batt.level s.batt.voltage } }
    rw [selectionIfOpen_blocks, told]
    unfold Sequence.levelled Battery.levelled
    split
    case isTrue pending =>
      have new : s.batt.level ≠ .shutdownPending := fun old => changed (pending.trans old.symm)
      simp only [pending, new, ne_eq, not_false_eq_true, true_and, and_true, if_true]
      exact ⟨_, _, rfl⟩
    case isFalse sound =>
      simp only [sound, false_and, and_false, if_false]
      exact ⟨_, _, rfl⟩

/-! ## The energy store after a reading (R81 to R83) -/

/-- R81 to R83: the Pole Drive's record after a store reading, in the words of the statement. -/
def PoleDrive.stored (d : PoleDrive) (b : Bank) (x : Nat) : PoleDrive :=
  { d with storeVoltage := x
           charging := if x + 50 < b.storeTarget then true else if x < b.storeTarget then d.charging else false
           storeLow := if x < b.tripReserve ∧ d.storeLow = false then true
             else if b.closeReserve ≤ x then false else d.storeLow }

theorem poleTakesReading_blocks (x : Nat) (s : State) : ∃ r q, poleTakesReading x s =
    { s with poles := s.poles.stored s.store.active x, rep := r, port := q } := by
  have charging : chargingAfter s.store.active x s.poles.charging =
      if x + 50 < s.store.active.storeTarget then true
      else if x < s.store.active.storeTarget then s.poles.charging else false := by
    unfold chargingAfter
    simp only [Nat.lt_sub_iff_add_lt]
  unfold poleTakesReading PoleDrive.stored
  dsimp only
  rw [charging]
  split
  · exact ⟨_, _, rfl⟩
  · split <;> exact ⟨_, _, rfl⟩

/-! ## A reading taken -/

/-- R108, R179: a reading's reach outside the battery record. -/
theorem readingTaken_blocks (v c : Int) (x : Half) (t : Int) (s : State) :
    let read := (batteryTakesReading v c t s).batt
    let w := readingTaken v c x t s
    w.batt = (if s.batt.test.isSome then read else read.levelled s.store.active s.now) ∧
    w.seq = (if s.batt.test.isSome then s.seq else s.seq.levelled s.store.active read) ∧
    w.poles = s.poles.stored s.store.active x.toNat ∧ w.cmd = (batteryTakesReading v c t s).cmd ∧
    w.paced = s.paced ∧ w.prot = s.prot ∧ w.holds = s.holds ∧ w.store = s.store ∧ w.line = s.line ∧
    w.time = s.time := by
  intro read w
  obtain ⟨r, q, levelled⟩ := levelStep_blocks (batteryTakesReading v c t s)
  obtain ⟨r', q', taken⟩ := poleTakesReading_blocks x.toNat
    (if s.batt.test.isSome then batteryTakesReading v c t s else levelStep (batteryTakesReading v c t s))
  have shape : w = _ := taken
  rw [shape]
  cases s.batt.test.isSome with
  | true => exact ⟨rfl, rfl, rfl, rfl, rfl, rfl, rfl, rfl, rfl, rfl⟩
  | false =>
    simp only [Bool.false_eq_true, if_false]
    rw [levelled]
    exact ⟨rfl, rfl, rfl, rfl, rfl, rfl, rfl, rfl, rfl, rfl⟩

/-- R109 to R112: the charger after a reading with no test running, stage by stage. -/
theorem judged_untested (bank : Bank) (now : Nat) (first : Bool) (b : Battery) (idle : b.charger ≠ .test)
    (taken : b.readingTaken = true) :
    let j := b.judged bank now first
    let entry : ChargerState := if b.ac ≠ .active then .off
      else if b.voltage < bank.floatVoltage - bank.rebulkMargin then .bulk else .float
    let faulty : Prop :=
      b.temperature < bank.temperatureMin ∨ bank.temperatureMax < b.temperature ∨ bank.maximumVoltage < b.voltage
    let same := j.coulomb = b.coulomb ∧ j.estimated = b.estimated
    let keeps := same ∧ j.faultClear = b.faultClear
    (faulty → j.charger = .fault ∧ same ∧ j.faultClear = if b.charger = .fault then none else b.faultClear) ∧
    (¬ faulty → b.charger = .fault →
      j.charger = .fault ∧ same ∧ j.faultClear = some (b.faultClear.getD (now + 60000))) ∧
    (¬ faulty → b.charger = .off → keeps ∧ j.charger = if first then entry else .off) ∧
    (¬ faulty → b.charger = .bulk → keeps ∧
      (bank.absorbVoltage ≤ b.voltage → j.charger = .absorb ∧ j.absorbEntry = some now) ∧
      (b.voltage < bank.absorbVoltage → j.charger = .bulk)) ∧
    (∀ began, ¬ faulty → b.charger = .absorb → b.absorbEntry = some began →
      (0 ≤ b.current ∧ b.current ≤ bank.endCurrent →
        j.charger = .float ∧ j.coulomb = bank.fullCount ∧ j.estimated = false) ∧
      (¬ (0 ≤ b.current ∧ b.current ≤ bank.endCurrent) → keeps ∧
        j.charger = if bank.absorbLimit ≤ now - began then .float else .absorb)) ∧
    (¬ faulty → b.charger = .float → keeps ∧
      j.charger = if b.voltage < bank.floatVoltage - bank.rebulkMargin then .bulk else .float) := by
  intro j entry faulty same keeps
  refine ⟨?faulty, ?clearing, ?off, ?bulk, ?absorb, ?float⟩
  case faulty =>
    intro bad
    have present : b.faultPresent bank ≠ none := fun sound => (faultPresent_none_iff b bank).mp sound bad
    have judged : j = _ := judged_faulty bank now first present idle
    simp only [same, judged, and_self]
  case clearing =>
    intro good fault
    have judged : j = _ := judged_clearing bank now first ((faultPresent_none_iff b bank).mpr good) fault
    simp only [same, judged, fault, and_self]
  case off =>
    intro good off
    have judged : j = _ := judged_off bank now first ((faultPresent_none_iff b bank).mpr good) off
    simp only [keeps, same, judged, entry_eq, taken]
    cases first <;> simp [off, entry]
  case bulk =>
    intro good bulk
    have judged : j = _ := judged_bulk bank now first ((faultPresent_none_iff b bank).mpr good) bulk
    simp only [keeps, same, judged]
    split
    case isTrue full => exact ⟨⟨⟨rfl, rfl⟩, rfl⟩, fun _ => ⟨rfl, rfl⟩, fun below => absurd full (Nat.not_le.mpr below)⟩
    case isFalse below => exact ⟨⟨⟨rfl, rfl⟩, rfl⟩, fun full => absurd full below, fun _ => bulk⟩
  case absorb =>
    intro began good absorb since
    have judged : j = _ := judged_absorb bank now first ((faultPresent_none_iff b bank).mpr good) absorb
    rw [since] at judged
    refine ⟨fun full => ?_, fun short => ?_⟩
    · rw [judged, if_pos full]
      exact ⟨rfl, rfl, rfl⟩
    · rw [if_neg short] at judged
      simp only [keeps, same, judged, Option.getD_some]
      split
      · exact ⟨⟨⟨rfl, rfl⟩, rfl⟩, rfl⟩
      · exact ⟨⟨⟨rfl, rfl⟩, rfl⟩, absorb⟩
  case float =>
    intro good float
    have judged : j = _ := judged_float bank now first ((faultPresent_none_iff b bank).mpr good) float
    simp only [keeps, same, judged]
    split
    · exact ⟨⟨⟨rfl, rfl⟩, rfl⟩, rfl⟩
    · exact ⟨⟨⟨rfl, rfl⟩, rfl⟩, float⟩

/-- R109, R111: the stage reached on the reading that the entry rule chose its state from. -/
theorem judged_entered (bank : Bank) (now : Nat) (first : Bool) {b : Battery} (taken : b.readingTaken = true)
    (sound : b.faultPresent bank = none) (entered : b.charger = b.entered bank) :
    (b.judged bank now first).charger =
      (if b.entered bank = .bulk ∧ bank.absorbVoltage ≤ b.voltage then .absorb else b.entered bank) ∧
    (b.judged bank now first).faultClear = b.faultClear ∧
    (b.judged bank now first).pendingFault = b.pendingFault ∧ (b.judged bank now first).coulomb = b.coulomb := by
  by_cases inactive : b.ac ≠ .active
  · have off : b.entered bank = .off := if_pos inactive
    rw [judged_off bank now first sound (entered.trans off), entry_of_taken bank taken, off]
    cases first <;> simp [entered, off]
  · by_cases flat : b.voltage < bank.floatVoltage - bank.rebulkMargin
    · have bulk : b.entered bank = .bulk := by simp only [Battery.entered, inactive, flat, if_true, if_false]
      rw [judged_bulk bank now first sound (entered.trans bulk), bulk]
      split <;> simp_all
    · have float : b.entered bank = .float := by simp only [Battery.entered, inactive, flat, if_false]
      rw [judged_float bank now first sound (entered.trans float), if_neg flat, float]
      exact ⟨entered.trans float, rfl, rfl, rfl⟩

/-- R112, R120: the charger leaves TEST for an aborted test and is judged on the same reading. -/
theorem judged_aborted (bank : Bank) (now : Nat) (first : Bool) (cause : TestCause) (x : LoadTest) {b : Battery}
    (taken : b.readingTaken = true) :
    let j := (b.aborted bank now cause x).judged bank now first
    let faulty : Prop :=
      b.temperature < bank.temperatureMin ∨ bank.temperatureMax < b.temperature ∨ bank.maximumVoltage < b.voltage
    j.charger = (if faulty ∨ b.pendingFault.isSome = true then .fault
      else if b.entered bank = .bulk ∧ bank.absorbVoltage ≤ b.voltage then .absorb else b.entered bank) ∧
    j.pendingFault = none ∧ j.coulomb = b.coulomb ∧
    j.faultClear = (if b.pendingFault = none then b.faultClear
      else if faulty then none else some (b.faultClear.getD (now + 60000))) := by
  have left := aborted_eq bank now cause x taken
  generalize b.aborted bank now cause x = a at left ⊢
  intro j faulty
  have sound : a.faultPresent bank = none ↔ ¬ faulty := by
    rw [left]
    exact faultPresent_none_iff _ bank
  have entered : a.entered bank = b.entered bank := by rw [left, Battery.entered, Battery.entered]
  have clear : a.faultClear = b.faultClear := by rw [left]
  have volts : a.voltage = b.voltage := by rw [left]
  have none : a.pendingFault = none := by rw [left]
  have coulomb : a.coulomb = b.coulomb := by rw [left]
  have charger : a.charger = if b.pendingFault.isSome then .fault else b.entered bank := by rw [left]
  have leaves : a.charger ≠ .test := by
    rw [charger]
    split
    · decide
    · exact (entered_ne b bank).1
  by_cases bad : faulty
  · have judged : j = { a with charger := .fault, faultClear := if a.charger = .fault then .none else a.faultClear } :=
      judged_faulty bank now first (fun good => sound.mp good bad) leaves
    refine ⟨?_, ?_, ?_, ?_⟩
    · rw [judged, if_pos (Or.inl bad)]
    · rw [judged, none]
    · rw [judged, coulomb]
    · rw [judged, if_pos bad, clear, charger]
      cases b.pendingFault with
      | some c => simp
      | none => simp [(entered_ne b bank).2]
  · cases pending : b.pendingFault with
    | some c =>
      rw [pending, Option.isSome_some, if_pos rfl] at charger
      have judged : j = { a with faultClear := some (a.faultClear.getD (now + 60000)) } :=
        judged_clearing bank now first (sound.mpr bad) charger
      simp [judged, charger, none, coulomb, clear, bad]
    | none =>
      rw [pending, Option.isSome_none, if_neg Bool.false_ne_true, ← entered] at charger
      have read : a.readingTaken = true := by rw [left, taken]
      obtain ⟨stage, kept, still, count⟩ := judged_entered bank now first read (sound.mpr bad) charger
      refine ⟨?_, still.trans none, count.trans coulomb, ?_⟩
      · rw [entered, volts] at stage
        rw [if_neg (by simp [bad])]
        exact stage
      · rw [if_pos rfl]
        exact kept.trans clear

/-- R120: the test's record after the reading that ended it. -/
theorem judged_aborted_record (bank : Bank) (now : Nat) (first : Bool) (cause : TestCause) (x : LoadTest) {b : Battery}
    (taken : b.readingTaken = true) :
    let j := (b.aborted bank now cause x).judged bank now first
    j.test = none ∧ j.lastTest = some (x.record .aborted (some cause)) ∧
    j.retryWait = (if x.origin = .scheduled then some (now + 600000) else b.retryWait) ∧ j.nextDue = b.nextDue := by
  intro j
  obtain ⟨_, _, _, _, _, _, kept⟩ := judged_keeps bank now first (b.aborted bank now cause x)
  have found : j = _ := kept
  rw [aborted_eq bank now cause x taken] at found
  rw [found]
  exact ⟨rfl, rfl, rfl, rfl⟩

/-! ## O31 -/

/-- R112, R118: a reading that lets a running test go on, in the words of the statement. -/
theorem judged_lowered (v c t : Int) {s : State} {x : LoadTest} (first : Bool) (test : s.batt.charger = .test) :
    let k := s.batt.counted s.store.active v c t
    (s.testLowered v c t x).batt.judged s.store.active s.now first =
      { k with test := some (x.lowered k.voltage)
               pendingFault := (k.faultPresent s.store.active).or s.batt.pendingFault } :=
  judged_test s.store.active s.now first (b := (s.testLowered v c t x).batt) test

/-- The reading taken at a due count, in the words of the statement. -/
theorem execCabinetReading_due (v c : Int) (x : Half) (t : Int) {s : State} (on : s.powered = true)
    (due : s.readingDue = true) : exec (.cabinetReading v c x t) s =
      .next (readingTaken v c x t { s with paced := { s.paced with read := true } }) := by
  refine (run_powered on).trans (congrArg Host.Outcome.next ?_)
  exact if_pos due

theorem execCabinetReading_idle (v c : Int) (x : Half) (t : Int) {s : State} (on : s.powered = true)
    (idle : ¬ s.readingDue = true) : exec (.cabinetReading v c x t) s = .next s :=
  (run_powered on).trans (congrArg Host.Outcome.next (if_neg idle))

/-- Settles O31: the readings and the count are replaced, a running test is lowered or aborted, the charger is judged
stage by stage, and the level, the store and the sequence follow. -/
theorem cabinetReadingTaken : Obligations.CabinetReadingTaken := by
  unfold Obligations.CabinetReadingTaken
  intro v c store temp s on b clamp volts amps degrees old level count faulty entry
  refine ⟨fun idle => execCabinetReading_idle v c store temp on (mt s.readingDue_iff.mp idle),
    fun multiple running unread => ?_⟩
  have due : s.readingDue = true := s.readingDue_iff.mpr ⟨multiple, running, unread⟩
  refine ⟨_, execCabinetReading_due v c store temp on due, ?_⟩
  obtain ⟨u, paced⟩ : ∃ u, u = { s with paced := { s.paced with read := true } } := ⟨_, rfl⟩
  rw [← paced]
  have blocks := readingTaken_blocks v c store temp u
  have keeps := batteryTakesReading_keeps v c temp u
  have untested := batteryTakesReading_untested v c temp (s := u)
  have tested := @batteryTakesReading_tested v c temp u
  have ends := @batteryTakesReading_ends v c temp u
  generalize readingTaken v c store temp u = t at blocks ⊢
  generalize batteryTakesReading v c temp u = read at blocks keeps untested tested ends
  subst paced
  obtain ⟨hbatt, hseq, hpoles, hcmd, hpaced, hprot, hholds, hstore, hline, htime⟩ := blocks
  obtain ⟨voltage, current, temperature, taken, ac, kept, shutdown, shutdownTimer, nextDue⟩ := keeps
  have carried {α : Type} (f : Battery → α) (blind : ∀ r : Battery, f (r.levelled b s.now) = f r) :
      f t.batt = f read.batt := by
    rw [hbatt]
    split
    · rfl
    · exact blind read.batt
  have judgedTo : judgedLevel b read.batt.level read.batt.voltage = level := by rw [kept, voltage]; rfl
  refine ⟨hpaced, ?voltage, ?current, ?temperature, ?taken, ?ac, ?volts, ?charging, ?low, ?pole, ?underTest, ?level,
    ?begins, ?stays, ?untested, ?tested, ?seq, hprot, hholds, hstore, hline, htime⟩
  case voltage => exact (carried (·.voltage) fun _ => rfl).trans voltage
  case current => exact (carried (·.current) fun _ => rfl).trans current
  case temperature => exact (carried (·.temperature) fun _ => rfl).trans temperature
  case taken => exact (carried (·.readingTaken) fun _ => rfl).trans taken
  case ac => exact (carried (·.ac) fun _ => rfl).trans ac
  case volts => rw [hpoles]; rfl
  case charging => rw [hpoles]; rfl
  case low => rw [hpoles]; rfl
  case pole => rw [hpoles]; rfl
  case underTest =>
    intro running
    obtain ⟨x, running⟩ := Option.isSome_iff_exists.mp running
    rw [hbatt, if_pos (Option.isSome_iff_exists.mpr ⟨x, running⟩)]
    refine ⟨kept, fun test => ?_⟩
    rcases Nat.lt_or_ge volts b.testAbortVoltage with short | enough
    · rw [(ends running short).1]
      exact (judged_aborted b s.now _ .lowVoltage _ rfl).2.2.1
    · rw [tested running enough]
      exact congrArg Battery.coulomb (judged_lowered v c temp _ test)
  case level =>
    intro idle
    rw [hbatt, if_neg (by simp [idle])]
    exact judgedTo
  case begins =>
    intro idle pending changed
    rw [hbatt, if_neg (by simp [idle])]
    have begins : judgedLevel b read.batt.level read.batt.voltage = .shutdownPending ∧
        read.batt.level ≠ .shutdownPending := ⟨judgedTo.trans pending, kept.trans_ne changed⟩
    exact ⟨if_pos begins, if_pos begins⟩
  case stays =>
    intro idle calm
    rw [hbatt, if_neg (by simp [idle])]
    have calm : ¬ (judgedLevel b read.batt.level read.batt.voltage = .shutdownPending ∧
        read.batt.level ≠ .shutdownPending) := by
      rw [judgedTo, kept]
      exact fun ⟨pending, changed⟩ => calm.elim (· pending) changed
    exact ⟨(if_neg calm).trans shutdown, (if_neg calm).trans shutdownTimer⟩
  case untested =>
    intro idle notTest
    have judged := untested idle
    have stages := judged_untested b s.now (!s.batt.readingTaken) (s.batt.counted b v c temp) notTest rfl
    intro same keeps
    have charger := (carried (·.charger) fun _ => rfl).trans (congrArg (·.charger) judged)
    have coulomb := (carried (·.coulomb) fun _ => rfl).trans (congrArg (·.coulomb) judged)
    have estimated := (carried (·.estimated) fun _ => rfl).trans (congrArg (·.estimated) judged)
    have clear := (carried (·.faultClear) fun _ => rfl).trans (congrArg (·.faultClear) judged)
    have absorb := (carried (·.absorbEntry) fun _ => rfl).trans (congrArg (·.absorbEntry) judged)
    dsimp only at charger coulomb estimated clear absorb
    simp only [same, keeps, charger, coulomb, estimated, clear, absorb]
    obtain ⟨hfaulty, hclearing, hoff, hbulk, habsorb, hfloat⟩ := stages
    refine ⟨hfaulty, hclearing, fun good off => ?_, hbulk, habsorb, hfloat⟩
    obtain ⟨still, state⟩ := hoff good off
    refine ⟨still, state.trans ?_⟩
    cases s.batt.readingTaken <;> rfl
  case tested =>
    intro x running test lowest condition
    rw [hbatt, if_pos (Option.isSome_iff_exists.mpr ⟨x, running⟩)]
    refine ⟨fun enough => ?_, fun short => ?_⟩
    · rw [tested running enough]
      exact judged_lowered v c temp _ test
    · obtain ⟨ended, answered⟩ := ends running short
      obtain ⟨charger, pending, coulomb, clear⟩ := judged_aborted b s.now (!s.batt.readingTaken) .lowVoltage
        (x.lowered volts) (b := (State.testLowered { s with paced := { s.paced with read := true } } v c temp x).batt)
        rfl
      obtain ⟨done, record, wait, due⟩ := judged_aborted_record b s.now (!s.batt.readingTaken) .lowVoltage
        (x.lowered volts) (b := (State.testLowered { s with paced := { s.paced with read := true } } v c temp x).batt)
        rfl
      rw [ended]
      exact ⟨done, pending, record, wait, due, charger, clear, fun r n e origin held => hcmd ▸ answered r n e origin held⟩
  case seq =>
    have told : s.seq.levelled b read.batt =
        if level = .shutdownPending ∧ old ≠ .shutdownPending ∧ s.seq.state = .deadTime then s.seq.lockedOut .supply
        else s.seq := by
      unfold Sequence.levelled
      rw [judgedTo, kept]
    rw [hseq]
    cases idle : s.batt.test with
    | some x => simp only [Option.isSome_some, reduceCtorEq, false_and, if_true, if_false]
    | none =>
      simp only [Option.isSome_none, Bool.false_eq_true, true_and, if_false]
      exact told


end Sys2Proof.Machine
end

section
/-! PROOFS. What trip orders and completions never change, however TRIPPING ends (R51, R52, R60, R72, R169). -/

namespace Sys2Proof.Machine

/-! ## What lasts through orders and completions -/

/-- No position or discovery changes, a trip in flight stays one, the user flags stay, and a context changes only by
becoming IDLE. -/
structure State.Lasting (s t : State) : Prop where
  position : ∀ q, (t.poleRec q).position = (s.poleRec q).position
  discovered : ∀ q, (t.poleRec q).discovered = (s.poleRec q).discovered
  tripping : ∀ q, (s.poleRec q).tripping → (t.poleRec q).tripping
  flags : t.seq.userFlags = s.seq.userFlags
  ctx : ∀ p, t.cmd.ctx p = s.cmd.ctx p ∨ t.cmd.ctx p = .idle

theorem State.Lasting.refl (s : State) : s.Lasting s :=
  ⟨fun _ => rfl, fun _ => rfl, fun _ h => h, rfl, fun _ => .inl rfl⟩

theorem State.Lasting.trans {s t u : State} (h : s.Lasting t) (k : t.Lasting u) : s.Lasting u where
  position q := (k.position q).trans (h.position q)
  discovered q := (k.discovered q).trans (h.discovered q)
  tripping q trip := k.tripping q (h.tripping q trip)
  flags := k.flags.trans h.flags
  ctx p := (k.ctx p).elim (fun same => (h.ctx p).imp same.trans same.trans) .inr

/-- What leaves the poles alone lasts by its flags and its answers. -/
theorem State.Lasting.of_poles {s t : State} (poles : t.poles = s.poles) (flags : t.seq.userFlags = s.seq.userFlags)
    (ctx : ∀ p, t.cmd.ctx p = s.cmd.ctx p ∨ t.cmd.ctx p = .idle) : s.Lasting t := by
  have same : ∀ q, t.poleRec q = s.poleRec q := fun q => congrArg (fun d : PoleDrive => d.pole.get q) poles
  exact ⟨fun q => by rw [same], fun q => by rw [same], fun q trip => by rwa [same], flags, ctx⟩

/-- What leaves the commands alone too lasts by its flags. -/
theorem State.Lasting.of_blocks {s t : State} (poles : t.poles = s.poles) (flags : t.seq.userFlags = s.seq.userFlags)
    (cmd : t.cmd = s.cmd) : s.Lasting t :=
  .of_poles poles flags fun _ => .inl (by rw [cmd])

/-- What lasts from a state that differs in no pole, flag or context. -/
theorem State.Lasting.after {s t u : State} (k : u.Lasting t) (poles : u.poles = s.poles)
    (flags : u.seq.userFlags = s.seq.userFlags) (cmd : u.cmd = s.cmd) : s.Lasting t :=
  (State.Lasting.of_blocks poles flags cmd).trans k

theorem complete_lasting (r : CmdRef) (a : Answer) (s : State) : s.Lasting (complete r a s) :=
  .of_poles rfl rfl (complete_ctx r a s)

/-! ## Trip orders (R72) -/

theorem abortTest_ctx_or_idle (s : State) (p : PortId) :
    (abortTest .trip s).cmd.ctx p = s.cmd.ctx p ∨ (abortTest .trip s).cmd.ctx p = .idle := by
  cases test : s.batt.test with
  | none => exact .inl (by rw [abortTest_none .trip test])
  | some x =>
    obtain ⟨body, ended⟩ := abortTest_running (cause := .trip) test (by decide)
    have cmd : (raise .testResult body (s.testEnded .trip x)).cmd = s.cmd := by
      rw [raise_cmd, (testEnded_blocks s .trip x).2]
    rw [ended, State.onlyBattery_cmd]
    cases x.origin with
    | command r n =>
      have answered := complete_ctx r (.failed (testRecordBytes (x.record .aborted (some .trip))))
        (raise .testResult body (s.testEnded .trip x)) p
      rwa [cmd] at answered
    | scheduled => exact .inl (congrArg (·.ctx p) cmd)

theorem cancelWarning_ctx_or_idle (x : Reason) (s : State) (p : PortId) :
    (cancelWarning x s).cmd.ctx p = s.cmd.ctx p ∨ (cancelWarning x s).cmd.ctx p = .idle := by
  unfold cancelWarning
  split
  · split
    · exact complete_ctx _ _ s.withoutClose.withdrawWarning p
    · exact .inl rfl
  · exact .inl rfl

theorem tripNotice_lasting (s : State) : s.Lasting (tripNotice s) := by
  refine .of_poles rfl rfl fun p => ?_
  obtain same | idle := cancelWarning_ctx_or_idle .sequenceActive (abortTest .trip s) p
  · exact (abortTest_ctx_or_idle s p).imp same.trans same.trans
  · exact .inr idle

/-- R72: one order: its pole's trip goes on or begins, or it stays OPEN. -/
theorem orderTrip_lasting (p : Pole) (s : State) : s.Lasting (orderTrip p s).1 := by
  have told := tripNotice_lasting s
  rw [orderTrip_eq]
  obtain ⟨-, position, discovered⟩ := (s.poleRec p).order_driven s.store.active s.now
  have pole : ∀ q, q ≠ p → ((tripNotice s).withPole p (s.orderOn p).1).poleRec q = s.poleRec q :=
    fun q other => State.poleRec_withPole_other _ _ _ _ other
  have own : ((tripNotice s).withPole p (s.orderOn p).1).poleRec p = (s.orderOn p).1 :=
    State.poleRec_withPole_same _ _ _
  refine ⟨fun q => ?_, fun q => ?_, fun q trip => ?_, told.flags, told.ctx⟩
  all_goals by_cases same : q = p
  · rw [same, own]
    exact position
  · rw [pole q same]
  · rw [same, own]
    exact discovered
  · rw [pole q same]
  · rw [same] at trip ⊢
    have still : (s.orderOn p).1 = s.poleRec p := congrArg Prod.fst (PoleRecord.order_tripping _ _ trip)
    rwa [own, still]
  · rwa [pole q same]

theorem orderTrips_lasting (m : PoleMask) (s : State) : s.Lasting (orderTrips m s).1 := by
  rw [orderTrips_eq_each]
  generalize [Pole.a, .b, .c] = ps
  induction ps generalizing s with
  | nil => exact .refl s
  | cons p ps ih =>
    unfold orderEach
    split
    · exact (orderTrip_lasting p s).trans (ih _)
    · exact ih s

/-! ## Completions, and the end of TRIPPING (R51, R52, R60, R62) -/

theorem updateOpen_flags (q : Sequence) (f : FaultRecord → FaultRecord) : (q.updateOpen f).userFlags = q.userFlags := by
  rw [updateOpen_eq]

theorem raiseTrip_lasting (m : PoleMask) (n : Nat) (r : Half) (e : ElementSet) (c : Option Nat) (s : State) :
    s.Lasting (raiseTrip m n r e c s) := by
  cases c <;> exact .of_blocks rfl rfl rfl

theorem reportTrip_lasting (s : State) : s.Lasting (reportTrip s) := by
  unfold reportTrip
  split
  · exact .refl s
  · exact (raiseTrip_lasting ..).after rfl (updateOpen_flags _ _) rfl

theorem enterLockout_lasting (c : LockoutCause) (o : FaultOutcome) (s : State) : s.Lasting (enterLockout c o s) := by
  refine .of_blocks rfl ?_ rfl
  exact updateOpen_flags _ _

theorem trippingEnds_lasting (s : State) : s.Lasting (trippingEnds s).1 := by
  unfold trippingEnds
  dsimp only
  split
  · exact (orderTrips_lasting _ _).after rfl rfl rfl
  · split
    · exact (reportTrip_lasting s).trans (enterLockout_lasting _ _ _)
    · exact (reportTrip_lasting s).trans (.of_blocks rfl rfl rfl)

theorem operatorTripsEnd_lasting (l : List OperatorTrip) (s : State) : s.Lasting (operatorTripsEnd l s) := by
  induction l generalizing s with
  | nil => exact .refl s
  | cons t rest ih =>
    refine .trans ?_ (ih _)
    unfold operatorTripEnds
    dsimp only
    split
    · refine (complete_lasting _ _ _).after ?_ ?_ ?_ <;> split <;> rfl
    · split
      · exact .of_blocks rfl rfl rfl
      · exact .refl s

theorem tripCompleted_lasting (p : Pole) (o : OpOutcome) (s : State) : s.Lasting (tripCompleted p o s) := by
  unfold tripCompleted
  dsimp only
  split
  · exact .of_blocks rfl rfl rfl
  · split
    · rw [raiseMaxima_eq]
      exact .of_blocks rfl rfl rfl
    · exact .of_blocks rfl rfl rfl

theorem lockoutTripDone_lasting (s : State) : s.Lasting (lockoutTripDone s) := by
  unfold lockoutTripDone
  dsimp only
  split
  · exact (raiseTrip_lasting ..).after rfl rfl rfl
  · exact .refl s

theorem endIfSettled_lasting (s : State) : s.Lasting (endIfSettled s).1 := by
  unfold endIfSettled
  split
  · exact trippingEnds_lasting s
  · exact .refl s

theorem handCloseOutcome_lasting (o : CloseOutcome) (s : State) : s.Lasting (handCloseOutcome o s) := by
  unfold handCloseOutcome
  split
  · split
    · refine .of_poles rfl rfl fun p => ?_
      unfold closeEnds
      split
      · exact complete_ctx _ _ (State.withoutClose _) p
      · exact .inl rfl
    · exact .refl s
  · exact .refl s

theorem closingEnds_lasting (s : State) : s.Lasting (closingEnds s) := by
  unfold closingEnds
  split
  · exact (enterLockout_lasting _ _ s).trans (handCloseOutcome_lasting _ _)
  · exact (handCloseOutcome_lasting _ _).after rfl rfl rfl

theorem takeCloseCompletion_lasting (p : Pole) (o : OpOutcome) (s : State) :
    s.Lasting (takeCloseCompletion p o s).1 := by
  unfold takeCloseCompletion
  split
  · exact .refl s
  · dsimp only
    split
    · split
      · exact (closingEnds_lasting _).after rfl rfl rfl
      · exact .of_blocks rfl rfl rfl
    · exact ((handCloseOutcome_lasting _ _).trans (endIfSettled_lasting _)).after rfl rfl rfl

theorem operatorTripsTake_lasting (p : Pole) (o : OpOutcome) (s : State) : s.Lasting (operatorTripsTake p o s) :=
  (operatorTripsEnd_lasting _ _).after rfl rfl rfl

theorem takeTripCompletion_lasting (p : Pole) (o : OpOutcome) (s : State) :
    s.Lasting (takeTripCompletion p o s).1 :=
  (tripCompleted_lasting p o s).trans <| (operatorTripsTake_lasting p o _).trans <|
    (lockoutTripDone_lasting _).trans (endIfSettled_lasting _)

theorem takeCompletion_lasting (c : Completion) (s : State) : s.Lasting (takeCompletion c s).1 := by
  unfold takeCompletion
  split
  · exact takeCloseCompletion_lasting _ _ s
  · exact takeTripCompletion_lasting _ _ s

theorem settle_lasting (n : Nat) (l : List Completion) (s : State) : s.Lasting (settle n l s) := by
  induction n generalizing l s with
  | zero => exact .refl s
  | succ n ih =>
    cases l with
    | nil => exact .refl s
    | cons c rest => exact (takeCompletion_lasting c s).trans (ih _ _)

end Sys2Proof.Machine
end

section
/-! PROOFS. What the completions that an operator's trip orders bring at once leave, while some trip is still outstanding
(R51, R60, R61, R62, R64). -/

namespace Sys2Proof.Machine

/-! ## The steps of a completion -/

/-- R51: with a trip outstanding TRIPPING does not end. -/
theorem endIfSettled_outstanding {s : State} {q : Pole} (h : s.seq.ctx.tripsOut.get q ≠ none) :
    endIfSettled s = (s, []) := by
  unfold endIfSettled
  refine if_neg fun ⟨_, settled⟩ => h ?_
  have none : s.seq.ctx.tripping.isEmpty = true := (Bool.and_eq_true_iff.mp settled).1
  have out := (PoleMask.isEmpty_iff _).mp none q
  cases q <;> exact Option.isSome_eq_false_iff.mp out |> Option.isNone_iff_eq_none.mp

/-- R60: a completion taken by the operator trips reaches them, a cause and their answers. -/
theorem operatorTripsTake_eq (p : Pole) (o : OpOutcome) (s : State) :
    operatorTripsTake p o s = { s with
      seq := { s.seq with
        cause := (operatorTripsTake p o s).seq.cause
        operatorTrips := (s.seq.operatorTrips.map (·.take p o)).filter fun t => !t.waiting.isEmpty }
      cmd := (operatorTripsTake p o s).cmd, port := (operatorTripsTake p o s).port } := by
  unfold operatorTripsTake
  dsimp only
  rw [operatorTripsEnd_eq]
  rfl

theorem operatorTripsTake_cause (p : Pole) (o : OpOutcome) {s : State} (out : s.seq.state ≠ .lockout) :
    (operatorTripsTake p o s).seq.cause = s.seq.cause :=
  operatorTripsEnd_cause (s := s.withSeq _) out

/-- R64: TRIP raised in LOCKOUT clears the ordered mask. -/
theorem lockoutTripDone_eq (s : State) :
    lockoutTripDone s = { s with
      seq := { s.seq with ctx := { s.seq.ctx with ordered := (lockoutTripDone s).seq.ctx.ordered } }
      rep := (lockoutTripDone s).rep, port := (lockoutTripDone s).port
      freeCount := (lockoutTripDone s).freeCount } := by
  unfold lockoutTripDone
  dsimp only
  split <;> rfl

theorem lockoutTripDone_out {s : State} (out : s.seq.state ≠ .lockout) : lockoutTripDone s = s :=
  if_neg fun h => out h.1

/-- R51 steps 1 to 4: an operator's trip completes SUCCESS. -/
theorem tripCompleted_operator {s : State} {p : Pole} (h : s.seq.ctx.tripsOut.get p = some .operator) :
    tripCompleted p .success s =
      { s with
        prot := s.prot.release
        seq := { s.seq with ctx := { s.seq.ctx with tripsOut := s.seq.ctx.tripsOut.set p none } } } := by
  simp only [tripCompleted, h]
  rfl

/-- R51, R60, R64: an operator's trip completes, up to the end of TRIPPING. -/
def State.tripDone (s : State) (p : Pole) : State :=
  lockoutTripDone (operatorTripsTake p .success (tripCompleted p .success s))

theorem tripDone_blocks {s : State} {p : Pole} (h : s.seq.ctx.tripsOut.get p = some .operator) :
    (s.tripDone p).seq = { s.seq with
      cause := (s.tripDone p).seq.cause
      operatorTrips := (s.seq.operatorTrips.map (·.take p .success)).filter fun t => !t.waiting.isEmpty
      ctx := { s.seq.ctx with
        tripsOut := s.seq.ctx.tripsOut.set p none, ordered := (s.tripDone p).seq.ctx.ordered } } ∧
    (s.seq.state ≠ .lockout →
      (s.tripDone p).seq.cause = s.seq.cause ∧ (s.tripDone p).seq.ctx.ordered = s.seq.ctx.ordered) ∧
    (s.tripDone p).poles = s.poles ∧ (s.tripDone p).holds = s.holds := by
  have completed := tripCompleted_operator h
  have taken := operatorTripsTake_eq p .success (tripCompleted p .success s)
  have done := lockoutTripDone_eq (operatorTripsTake p .success (tripCompleted p .success s))
  refine ⟨?_, fun out => ?_, ?_, ?_⟩
  · unfold State.tripDone
    rw [done, taken, completed]
  · have before : (tripCompleted p .success s).seq.state ≠ .lockout := by rwa [completed]
    have cause := operatorTripsTake_cause p .success before
    have after : (operatorTripsTake p .success (tripCompleted p .success s)).seq.state ≠ .lockout := by rwa [taken]
    unfold State.tripDone
    rw [lockoutTripDone_out after]
    refine ⟨cause.trans (by rw [completed]), ?_⟩
    rw [taken, completed]
  · unfold State.tripDone
    rw [done, taken, completed]
  · unfold State.tripDone
    rw [done, taken, completed]

/-- R51: an operator's trip completes SUCCESS while another trip is outstanding. -/
theorem takeCompletion_operator {s : State} {p q : Pole} (h : s.seq.ctx.tripsOut.get p = some .operator) (other : q ≠ p)
    (outstanding : s.seq.ctx.tripsOut.get q ≠ none) :
    takeCompletion ⟨p, false, .success⟩ s =
      (s.tripDone p, []) := by
  refine endIfSettled_outstanding (q := q) ?_
  show (s.tripDone p).seq.ctx.tripsOut.get q ≠ none
  rw [(tripDone_blocks h).1]
  dsimp only
  rwa [PerPole.get_set, if_neg other]

/-- R51, R76: an aborted close recorded by the sequence. -/
def State.closeAborted (s : State) (p : Pole) : State :=
  s.withSeq { s.seq with
    ctx := { s.seq.ctx with closesOut := s.seq.ctx.closesOut.set p false }
    operatorClose := s.seq.operatorClose.map (·.take p .aborted) }

/-- R51, R62, R76: an aborted close while a trip is outstanding. -/
theorem takeCompletion_aborted {s : State} (p : Pole) {q : Pole} (state : s.seq.state ≠ .closing)
    (outstanding : s.seq.ctx.tripsOut.get q ≠ none) :
    takeCompletion ⟨p, true, .aborted⟩ s =
      (if s.seq.ctx.closesOut.get p = false then s else handCloseOutcome .tripped (s.closeAborted p), []) := by
  by_cases untracked : s.seq.ctx.closesOut.get p = false
  · rw [if_pos untracked]
    exact if_pos untracked
  · have noFailure : (s.seq.ctx.closeFailed || decide (OpOutcome.aborted = .failed)) = s.seq.ctx.closeFailed :=
      Bool.or_false _
    have still : (handCloseOutcome .tripped (s.closeAborted p)).seq.ctx.tripsOut.get q ≠ none := by
      rw [(handCloseOutcome_blocks .tripped (s.closeAborted p)).1]
      exact outstanding
    rw [if_neg untracked]
    show takeCloseCompletion p .aborted s = _
    unfold takeCloseCompletion
    rw [if_neg untracked, noFailure]
    exact (if_neg state).trans (endIfSettled_outstanding still)

/-! ## Completions taken one by one -/

/-- Completions none of which brings another are taken in turn. -/
theorem settle_all {P : List Completion → State → Prop} {w : State} (all : List Completion) (start : P [] w)
    (step : ∀ k c l v, all = k ++ c :: l → P k v → (takeCompletion c v).2 = [] ∧ P (k ++ [c]) (takeCompletion c v).1)
    {n : Nat} (fuel : all.length ≤ n) : P all (settle n all w) := by
  suffices rest : ∀ l k v n, all = k ++ l → l.length ≤ n → P k v → P all (settle n l v) from
    rest all [] w n rfl fuel start
  intro l
  induction l with
  | nil =>
    intro k v n split _ taken
    rw [settle_nil, split, List.append_nil]
    exact taken
  | cons c l ih =>
    intro k v n split fuel taken
    obtain ⟨n, rfl⟩ := Nat.exists_eq_add_of_le' (le_trans (Nat.succ_pos _) fuel)
    obtain ⟨none, next⟩ := step k c l v split taken
    show P all (settle n (l ++ (takeCompletion c v).2) (takeCompletion c v).1)
    rw [none, List.append_nil]
    exact ih (k ++ [c]) _ n (by rw [split, List.append_assoc]; rfl) (Nat.le_of_succ_le_succ fuel) next

/-- What an operator's orders bring at once, each once: trips of the operator's, and aborted closes; and some trip that
stays outstanding. -/
structure State.Brings (w : State) (all : List Completion) : Prop where
  state : w.seq.state ≠ .closing
  once : all.Nodup
  kinds : ∀ c ∈ all, (∃ p, c = ⟨p, false, .success⟩ ∧ w.seq.ctx.tripsOut.get p = some .operator) ∨
    ∃ p, c = ⟨p, true, .aborted⟩
  outstanding : ∃ q, w.seq.ctx.tripsOut.get q ≠ none ∧ ⟨q, false, .success⟩ ∉ all

/-- What the completions `k` leave of `w`. -/
structure State.Underway (w : State) (k : List Completion) (v : State) : Prop where
  seq : v.seq = { w.seq with
    cause := v.seq.cause, operatorTrips := v.seq.operatorTrips, operatorClose := v.seq.operatorClose
    ctx := { w.seq.ctx with
      tripsOut := v.seq.ctx.tripsOut, ordered := v.seq.ctx.ordered, closesOut := v.seq.ctx.closesOut } }
  tripsOut : ∀ q, v.seq.ctx.tripsOut.get q = if ⟨q, false, .success⟩ ∈ k then none else w.seq.ctx.tripsOut.get q
  closesOut : ∀ q, v.seq.ctx.closesOut.get q = (w.seq.ctx.closesOut.get q && decide (⟨q, true, .aborted⟩ ∉ k))
  quiet : (∀ q, ⟨q, false, .success⟩ ∉ k) ∨ w.seq.state ≠ .lockout →
    v.seq.cause = w.seq.cause ∧ v.seq.ctx.ordered = w.seq.ctx.ordered
  trips : (∀ q, ⟨q, false, .success⟩ ∉ k) → v.seq.operatorTrips = w.seq.operatorTrips
  poles : v.poles = w.poles

theorem State.Underway.start (w : State) : w.Underway [] w :=
  ⟨rfl, fun _ => rfl, fun q => by simp, fun _ => ⟨rfl, rfl⟩, fun _ => rfl, rfl⟩

section
variable {w v : State} {all k l : List Completion} {c : Completion}

/-- The trip that stays outstanding is so before each completion. -/
theorem State.Underway.outstanding (h : w.Underway k v) {q : Pole} (out : w.seq.ctx.tripsOut.get q ≠ none)
    (never : ⟨q, false, .success⟩ ∉ k) : v.seq.ctx.tripsOut.get q ≠ none := by
  rwa [h.tripsOut, if_neg never]

theorem State.Underway.state (h : w.Underway k v) : v.seq.state = w.seq.state := by rw [h.seq]

theorem State.Underway.trip (h : w.Underway k v) {p : Pole} (own : v.seq.ctx.tripsOut.get p = some .operator) :
    w.Underway (k ++ [⟨p, false, .success⟩]) (v.tripDone p) := by
  obtain ⟨seq, free, poles, -⟩ := tripDone_blocks own
  have member : ∀ q, (⟨q, false, .success⟩ : Completion) ∈ k ++ [⟨p, false, .success⟩] ↔
      q = p ∨ (⟨q, false, .success⟩ : Completion) ∈ k := by
    intro q
    simp [or_comm]
  have loud : ¬ ∀ q, (⟨q, false, .success⟩ : Completion) ∉ k ++ [⟨p, false, .success⟩] :=
    fun never => never p (by simp)
  refine ⟨?_, fun q => ?_, fun q => ?_, fun quiet => ?_, fun never => absurd never loud, poles.trans h.poles⟩
  · rw [seq, h.seq]
  · rw [seq]
    refine (PerPole.get_set _ p q none).trans ?_
    by_cases same : q = p
    · rw [if_pos same, if_pos ((member q).mpr (.inl same))]
    · rw [if_neg same, h.tripsOut]
      simp only [member, same, false_or]
  · rw [seq]
    refine (h.closesOut q).trans ?_
    simp
  · have out := quiet.resolve_left loud
    obtain ⟨cause, ordered⟩ := free (h.state ▸ out)
    obtain ⟨cause', ordered'⟩ := h.quiet (.inr out)
    exact ⟨cause.trans cause', ordered.trans ordered'⟩

/-- R51, R62, R76: an aborted close. -/
theorem State.Underway.aborted (h : w.Underway k v) (p : Pole) :
    w.Underway (k ++ [⟨p, true, .aborted⟩])
      (if v.seq.ctx.closesOut.get p = false then v else handCloseOutcome .tripped (v.closeAborted p)) := by
  have trips : ∀ q, (⟨q, false, .success⟩ : Completion) ∈ k ++ [⟨p, true, .aborted⟩] ↔
      (⟨q, false, .success⟩ : Completion) ∈ k := by simp
  have closes : ∀ q, (⟨q, true, .aborted⟩ : Completion) ∈ k ++ [⟨p, true, .aborted⟩] ↔
      q = p ∨ (⟨q, true, .aborted⟩ : Completion) ∈ k := by
    intro q
    simp [or_comm]
  split
  case isTrue untracked =>
    refine ⟨h.seq, fun q => ?_, fun q => ?_, fun quiet => ?_, fun never => ?_, h.poles⟩
    · simp only [trips]
      exact h.tripsOut q
    · by_cases same : q = p
      · rw [same, untracked]
        simp
      · rw [h.closesOut]
        simp [closes, same]
    · simp only [trips] at quiet
      exact h.quiet quiet
    · simp only [trips] at never
      exact h.trips never
  case isFalse tracked =>
    obtain ⟨seq, -, poles, -, -⟩ := handCloseOutcome_blocks .tripped (v.closeAborted p)
    generalize handCloseOutcome .tripped (v.closeAborted p) = u at seq poles ⊢
    refine ⟨?_, fun q => ?_, fun q => ?_, fun quiet => ?_, fun never => ?_, poles.trans h.poles⟩
    · rw [seq]
      show { (v.closeAborted p).seq with operatorClose := u.seq.operatorClose } = _
      simp only [State.closeAborted, State.withSeq_seq]
      rw [h.seq]
    · simp only [trips]
      rw [seq]
      exact h.tripsOut q
    · rw [seq]
      refine (PerPole.get_set _ p q false).trans ?_
      by_cases same : q = p
      · simp [same]
      · rw [if_neg same, h.closesOut]
        simp [closes, same]
    · simp only [trips] at quiet
      rw [seq]
      exact h.quiet quiet
    · simp only [trips] at never
      rw [seq]
      exact h.trips never

end

/-! ## Every completion of the orders -/

section
variable {w v : State} {all k l : List Completion} {c : Completion} {n : Nat}

/-- What the next completion of the orders does. -/
theorem State.Brings.taken (b : w.Brings all) (split : all = k ++ c :: l) (h : w.Underway k v) :
    (∃ p, c = ⟨p, false, .success⟩ ∧ v.seq.ctx.tripsOut.get p = some .operator ∧
      takeCompletion c v = (v.tripDone p, [])) ∨
    (∃ p, c = ⟨p, true, .aborted⟩ ∧ takeCompletion c v =
      (if v.seq.ctx.closesOut.get p = false then v else handCloseOutcome .tripped (v.closeAborted p), [])) := by
  have mem : c ∈ all := by simp [split]
  have fresh : c ∉ k := fun before =>
    (List.nodup_append.mp (split ▸ b.once)).2.2 c before c List.mem_cons_self rfl
  obtain ⟨q, out, never⟩ := b.outstanding
  have still := h.outstanding out fun before => never (by simp [split, before])
  obtain ⟨p, rfl, own⟩ | ⟨p, rfl⟩ := b.kinds c mem
  · have own : v.seq.ctx.tripsOut.get p = some .operator := by rwa [h.tripsOut, if_neg fresh]
    exact .inl ⟨p, rfl, own, takeCompletion_operator own (fun same => never (by rwa [same])) still⟩
  · exact .inr ⟨p, rfl, takeCompletion_aborted p (h.state.trans_ne b.state) still⟩

theorem State.Brings.step (b : w.Brings all) (split : all = k ++ c :: l) (h : w.Underway k v) :
    (takeCompletion c v).2 = [] ∧ w.Underway (k ++ [c]) (takeCompletion c v).1 := by
  obtain ⟨p, rfl, own, taken⟩ | ⟨p, rfl, taken⟩ := b.taken split h
  · rw [taken]
    exact ⟨rfl, h.trip own⟩
  · rw [taken]
    exact ⟨rfl, h.aborted p⟩

/-- R51: what the completions of the orders leave. -/
theorem State.Brings.settles (b : w.Brings all) (fuel : all.length ≤ n) : w.Underway all (settle n all w) :=
  settle_all all (.start w) (fun _ _ _ _ split h => b.step split h) fuel

/-! ## The operator close made trip-free (R62, R76, R105) -/

theorem handCloseOutcome_ends {s : State} {x : OperatorClose} {r : CloseRecord} (o : CloseOutcome)
    (pending : s.seq.operatorClose = some x) (last : x.waiting.isEmpty = true) (record : s.holds.close = some r) :
    (handCloseOutcome o s).seq.operatorClose = none ∧ (handCloseOutcome o s).holds.close = none ∧
    ∀ e, s.holding r.cmd = some e → (handCloseOutcome o s).cmd.ctx r.cmd.port = .idle := by
  have ended : handCloseOutcome o s = closeEnds o x.outcomes (s.withSeq { s.seq with operatorClose := none }) := by
    unfold handCloseOutcome
    rw [pending]
    exact if_pos last
  have answered : closeEnds o x.outcomes (s.withSeq { s.seq with operatorClose := none }) =
      (s.withSeq { s.seq with operatorClose := none }).onlyClose
        (complete r.cmd (o.answer x.outcomes) (s.withSeq { s.seq with operatorClose := none }).withoutClose) := by
    unfold closeEnds
    rw [State.withSeq_holds, record]
  rw [ended, answered]
  exact ⟨rfl, rfl, fun e held => complete_idle (e := e) _ held⟩

theorem handCloseOutcome_waits {s : State} (o : CloseOutcome)
    (waits : ∀ x, s.seq.operatorClose = some x → x.waiting.isEmpty = false) : handCloseOutcome o s = s := by
  unfold handCloseOutcome
  split
  case h_1 x pending => exact if_neg (by simp [waits x pending])
  case h_2 => rfl

/-- R62: an operator close takes a completion of one of its own. -/
theorem OperatorClose.take_waiting (x : OperatorClose) (p : Pole) (o : OpOutcome) (q : Pole) :
    (x.take p o).waiting.get q = (x.waiting.get q && decide (q ≠ p)) := by
  unfold OperatorClose.take
  split
  case isTrue =>
    dsimp only
    rw [PerPole.get_set]
    by_cases same : q = p <;> simp [same]
  case isFalse idle =>
    by_cases same : q = p
    · rw [same]
      simpa using idle
    · simp [same]

/-- The operator close `x` of the record `r` while the completions `k` have come: it waits for the rest of its closes, or
it has ended and its CLOSE is answered. -/
def State.CloseLeft (w : State) (x : OperatorClose) (r : CloseRecord) (k : List Completion) (v : State) : Prop :=
  (∃ y, v.seq.operatorClose = some y ∧ v.holds.close = some r ∧
    (∀ q, y.waiting.get q = (x.waiting.get q && decide (⟨q, true, .aborted⟩ ∉ k))) ∧ y.waiting.isEmpty = false ∧
    (v.cmd.ctx r.cmd.port = w.cmd.ctx r.cmd.port ∨ v.cmd.ctx r.cmd.port = .idle)) ∨
  (v.seq.operatorClose = none ∧ v.holds.close = none ∧
    ∀ e, w.holding r.cmd = some e → v.cmd.ctx r.cmd.port = .idle)

variable {x : OperatorClose} {r : CloseRecord}

/-- What touches neither the operator close nor its record, and answers. -/
theorem State.CloseLeft.congr {k' : List Completion} {u : State} (h : w.CloseLeft x r k v)
    (close : u.seq.operatorClose = v.seq.operatorClose)
    (holds : u.holds = v.holds) (ctx : ∀ p, u.cmd.ctx p = v.cmd.ctx p ∨ u.cmd.ctx p = .idle)
    (same : ∀ q, x.waiting.get q = true → (⟨q, true, .aborted⟩ ∈ k' ↔ (⟨q, true, .aborted⟩ : Completion) ∈ k)) :
    w.CloseLeft x r k' u := by
  obtain ⟨y, pending, record, waiting, more, held⟩ | ⟨none, gone, answered⟩ := h
  · refine .inl ⟨y, close.trans pending, by rw [holds, record], fun q => ?_, more, ?_⟩
    · rw [waiting]
      cases waits : x.waiting.get q with
      | false => rfl
      | true => simp only [same q waits]
    · exact (ctx r.cmd.port).elim (fun same => held.imp same.trans same.trans) .inr
  · exact .inr ⟨close.trans none, by rw [holds, gone],
      fun e held => (ctx r.cmd.port).elim (fun same => same.trans (answered e held)) id⟩

theorem State.CloseLeft.aborted (h : w.CloseLeft x r k v) (under : w.Underway k v) (p : Pole)
    (own : ∀ q, x.waiting.get q = true → w.seq.ctx.closesOut.get q = true) :
    w.CloseLeft x r (k ++ [⟨p, true, .aborted⟩])
      (if v.seq.ctx.closesOut.get p = false then v else handCloseOutcome .tripped (v.closeAborted p)) := by
  have member : ∀ q, (⟨q, true, .aborted⟩ : Completion) ∈ k ++ [⟨p, true, .aborted⟩] ↔
      q = p ∨ (⟨q, true, .aborted⟩ : Completion) ∈ k := by
    intro q
    simp [or_comm]
  split
  case isTrue untracked =>
    refine h.congr rfl rfl (fun _ => .inl rfl) fun q waits => ?_
    rw [member]
    refine ⟨fun either => either.elim (fun same => ?_) id, .inr⟩
    have before := under.closesOut q
    rw [same, untracked, ← same, own q waits] at before
    simpa using before
  case isFalse tracked =>
    obtain ⟨y, pending, record, waiting, more, held⟩ | ⟨none, gone, answered⟩ := h
    · have next : (v.closeAborted p).seq.operatorClose = some (y.take p .aborted) :=
        congrArg (Option.map (OperatorClose.take · p .aborted)) pending
      by_cases last : (y.take p .aborted).waiting.isEmpty = true
      · obtain ⟨none, gone, answered⟩ := handCloseOutcome_ends .tripped next last (s := v.closeAborted p) record
        refine .inr ⟨none, gone, fun e held' => ?_⟩
        obtain same | idle := held
        · exact answered e ((holding_congr same).trans held')
        · exact ((handCloseOutcome_lasting .tripped (v.closeAborted p)).ctx r.cmd.port).elim (·.trans idle) id
      · rw [handCloseOutcome_waits .tripped fun z hz => by
          obtain rfl := Option.some.inj (next.symm.trans hz)
          simpa using last]
        refine .inl ⟨_, next, record, fun q => ?_, by simpa using last, held⟩
        rw [OperatorClose.take_waiting, waiting, Bool.and_assoc]
        congr 1
        simp only [member, ← Bool.decide_and]
        exact decide_eq_decide.mpr (by tauto)
    · have idle : (v.closeAborted p).seq.operatorClose = Option.none :=
        congrArg (Option.map (OperatorClose.take · p .aborted)) none
      rw [handCloseOutcome_waits .tripped fun z hz => by cases idle.symm.trans hz]
      exact .inr ⟨idle, gone, answered⟩

/-- R62, R76, R105: where every close of the operator close is aborted, its record is removed and its CLOSE answered. -/
theorem State.Brings.closeEnds (b : w.Brings all) (pending : w.seq.operatorClose = some x)
    (record : w.holds.close = some r) (waits : x.waiting.isEmpty = false)
    (own : ∀ q, x.waiting.get q = true → w.seq.ctx.closesOut.get q = true ∧ ⟨q, true, .aborted⟩ ∈ all)
    (fuel : all.length ≤ n) :
    (settle n all w).seq.operatorClose = none ∧ (settle n all w).holds.close = none ∧
    ∀ e, w.holding r.cmd = some e → (settle n all w).cmd.ctx r.cmd.port = .idle := by
  have start : w.CloseLeft x r [] w := .inl ⟨x, pending, record, fun q => by simp, waits, .inl rfl⟩
  have settled : w.Underway all (settle n all w) ∧ w.CloseLeft x r all (settle n all w) := by
    refine settle_all (P := fun k v => w.Underway k v ∧ w.CloseLeft x r k v) all ⟨.start w, start⟩ ?_ fuel
    rintro k c l v split ⟨under, left⟩
    obtain ⟨none, next⟩ := b.step split under
    refine ⟨none, next, ?_⟩
    obtain ⟨p, rfl, trip, taken⟩ | ⟨p, rfl, taken⟩ := b.taken split under
    · obtain ⟨seq, -, -, holds⟩ := tripDone_blocks trip
      have lasting := takeCompletion_lasting ⟨p, false, .success⟩ v
      rw [taken] at lasting ⊢
      exact left.congr (by rw [seq]) holds lasting.ctx fun q _ => by simp
    · rw [taken]
      exact left.aborted under p fun q waits => (own q waits).1
  obtain ⟨y, -, -, waiting, more, -⟩ | ended := settled.2
  · have empty : y.waiting.isEmpty = true := (PoleMask.isEmpty_iff _).mpr fun q => by
      rw [waiting]
      cases pending : x.waiting.get q with
      | false => rfl
      | true => simp [(own q pending).2]
    exact absurd empty (by simp [more])
  · exact ended

end

/-! ## The command of the trip (R60, R169) -/

/-- R60: an operator trip takes a completion of one of its own. -/
theorem OperatorTrip.take_waiting (x : OperatorTrip) (p : Pole) (o : OpOutcome) (q : Pole) :
    (x.take p o).waiting.get q = (x.waiting.get q && decide (q ≠ p)) := by
  unfold OperatorTrip.take
  split
  case isTrue =>
    dsimp only
    rw [PerPole.get_set]
    by_cases same : q = p <;> simp [same]
  case isFalse idle =>
    by_cases same : q = p
    · rw [same]
      simpa using idle
    · simp [same]

@[simp] theorem OperatorTrip.take_cmd (x : OperatorTrip) (p : Pole) (o : OpOutcome) : (x.take p o).cmd = x.cmd := by
  unfold OperatorTrip.take
  split <;> rfl

theorem operatorTripEnds_cmd (x : OperatorTrip) (s : State) :
    ∃ t : State, t.cmd = s.cmd ∧ operatorTripEnds x s = (x.cmd.map fun r => complete r x.answer t).getD t := by
  unfold operatorTripEnds
  refine ⟨if x.inLockout = true ∧ s.seq.state = .lockout then s.withSeq { s.seq with cause := .operator } else s, ?_, ?_⟩
  · split <;> rfl
  · cases x.cmd <;> rfl

/-- R60, R169: the answers of other trips leave the context of a command. -/
theorem operatorTripsEnd_ctx {l : List OperatorTrip} {s : State} {r : CmdRef} {e : Executing}
    (held : s.holding r = some e) (others : ∀ x ∈ l, x.cmd ≠ some r) :
    (operatorTripsEnd l s).cmd.ctx r.port = s.cmd.ctx r.port := by
  induction l generalizing s with
  | nil => rfl
  | cons x rest ih =>
    obtain ⟨t, cmd, ended⟩ := operatorTripEnds_cmd x s
    have one : (operatorTripEnds x s).cmd.ctx r.port = s.cmd.ctx r.port := by
      have held : t.holding r = some e := (holding_congr (by rw [cmd])).trans held
      rw [ended, ← cmd]
      cases named : x.cmd with
      | none => rfl
      | some k => exact complete_ctx_held _ held fun same => others x List.mem_cons_self (named.trans (by rw [same]))
    exact (ih ((holding_congr one).trans held) fun y later => others y (List.mem_cons_of_mem x later)).trans one

/-- R60, R169: a trip that has ended is answered. -/
theorem operatorTripsEnd_idle {l : List OperatorTrip} {s : State} {r : CmdRef} {e : Executing} {x : OperatorTrip}
    (held : s.holding r = some e) (mem : x ∈ l) (named : x.cmd = some r) :
    (operatorTripsEnd l s).cmd.ctx r.port = .idle := by
  induction l generalizing s with
  | nil => cases mem
  | cons y rest ih =>
    have later := (operatorTripsEnd_lasting rest (operatorTripEnds y s)).ctx r.port
    have idles : (operatorTripEnds y s).cmd.ctx r.port = .idle → (operatorTripsEnd (y :: rest) s).cmd.ctx r.port = .idle :=
      fun idle => later.elim (·.trans idle) id
    obtain ⟨t, cmd, ended⟩ := operatorTripEnds_cmd y s
    have held' : t.holding r = some e := (holding_congr (by rw [cmd])).trans held
    obtain rfl | after := List.mem_cons.mp mem
    · refine idles ?_
      rw [ended, named]
      exact complete_idle _ held'
    · have one := (operatorTripsEnd_lasting [y] s).ctx r.port
      obtain same | idle := one
      · exact ih ((holding_congr same).trans held) after
      · exact idles idle

/-- Nothing has answered the command `r` while the completions `k` have come: each trip of it waits for `q`. -/
structure State.Unanswered (w : State) (r : CmdRef) (q : Pole) (v : State) : Prop where
  ctx : v.cmd.ctx r.port = w.cmd.ctx r.port
  close : w.closeKept v
  waits : ∀ x ∈ v.seq.operatorTrips, x.cmd = some r → x.waiting.get q = true

section
variable {w v : State} {all : List Completion} {r : CmdRef} {q : Pole} {e : Executing} {n : Nat}

/-- R60: the completion of another pole's trip does not answer it. -/
theorem State.Unanswered.trip (h : w.Unanswered r q v) (held : w.holding r = some e) {p : Pole} (other : q ≠ p)
    (own : v.seq.ctx.tripsOut.get p = some .operator) : w.Unanswered r q (v.tripDone p) := by
  obtain ⟨seq, -, -, holds⟩ := tripDone_blocks own
  have still : ∀ x ∈ v.seq.operatorTrips.map (·.take p .success), x.cmd = some r → x.waiting.get q = true := by
    intro x mem named
    obtain ⟨y, before, rfl⟩ := List.mem_map.mp mem
    rw [OperatorTrip.take_cmd] at named
    rw [OperatorTrip.take_waiting, h.waits y before named]
    simp [other]
  refine ⟨?_, fun c hc => h.close c (holds ▸ hc), fun x mem => ?_⟩
  · have answers : (v.tripDone p).cmd = (operatorTripsTake p .success (tripCompleted p .success v)).cmd := by
      unfold State.tripDone
      rw [lockoutTripDone_eq]
    have before : (tripCompleted p .success v).cmd = v.cmd := by rw [tripCompleted_operator own]
    have trips : (tripCompleted p .success v).seq.operatorTrips = v.seq.operatorTrips := by
      rw [tripCompleted_operator own]
    rw [answers, ← h.ctx, ← before]
    unfold operatorTripsTake
    refine operatorTripsEnd_ctx (e := e) (s := (tripCompleted p .success v).withSeq _) ?_ fun x ended named => ?_
    · exact (holding_congr (by rw [State.withSeq_cmd, before, h.ctx])).trans held
    · rw [trips, List.mem_filter] at ended
      have empty := (PoleMask.isEmpty_iff _).mp ended.2 q
      rw [still x ended.1 named] at empty
      exact Bool.noConfusion empty
  · rw [seq] at mem
    exact still x (List.mem_filter.mp mem).1

/-- R62: nor does the end of the operator close. -/
theorem State.Unanswered.aborted (h : w.Unanswered r q v) (held : w.holding r = some e)
    (others : ∀ c, w.holds.close = some c → c.cmd ≠ r) (p : Pole) : w.Unanswered r q
      (if v.seq.ctx.closesOut.get p = false then v else handCloseOutcome .tripped (v.closeAborted p)) := by
  split
  case isTrue => exact h
  case isFalse =>
    obtain ⟨seq, -, -, -, close⟩ := handCloseOutcome_blocks .tripped (v.closeAborted p)
    have ctx : (handCloseOutcome .tripped (v.closeAborted p)).cmd.ctx r.port = v.cmd.ctx r.port := by
      have held : (v.closeAborted p).holding r = some e := (holding_congr h.ctx).trans held
      unfold handCloseOutcome
      split
      · split
        · unfold closeEnds
          dsimp only
          split
          case h_1 k record =>
            exact complete_ctx_held (s := State.withoutClose _) _ held (others k (h.close k record))
          case h_2 => rfl
        · rfl
      · rfl
    refine ⟨ctx.trans h.ctx, h.close.trans close, fun x mem => h.waits x ?_⟩
    rwa [seq] at mem

/-- R60: while its pole `q` is outstanding the TRIP stays EXECUTING. -/
theorem State.Brings.unanswered (b : w.Brings all) (held : w.holding r = some e)
    (others : ∀ c, w.holds.close = some c → c.cmd ≠ r) (never : ⟨q, false, .success⟩ ∉ all)
    (waits : ∀ x ∈ w.seq.operatorTrips, x.cmd = some r → x.waiting.get q = true) (fuel : all.length ≤ n) :
    (settle n all w).cmd.ctx r.port = w.cmd.ctx r.port := by
  have settled : w.Underway all (settle n all w) ∧ w.Unanswered r q (settle n all w) := by
    refine settle_all (P := fun k v => w.Underway k v ∧ w.Unanswered r q v) all
      ⟨.start w, rfl, .refl w, waits⟩ ?_ fuel
    rintro k c l v split ⟨under, left⟩
    obtain ⟨none, next⟩ := b.step split under
    refine ⟨none, next, ?_⟩
    obtain ⟨p, rfl, trip, taken⟩ | ⟨p, rfl, taken⟩ := b.taken split under
    · rw [taken]
      exact left.trip held (fun same => never (by simp [split, same])) trip
    · rw [taken]
      exact left.aborted held others p
  exact settled.2.ctx

end

theorem tripCompleted_leaves (p : Pole) (o : OpOutcome) (s : State) :
    (tripCompleted p o s).cmd = s.cmd ∧ (tripCompleted p o s).seq.operatorTrips = s.seq.operatorTrips ∧
    ∀ q, q ≠ p → (tripCompleted p o s).seq.ctx.tripsOut.get q = s.seq.ctx.tripsOut.get q := by
  have freed : ∀ q, q ≠ p → (s.seq.ctx.tripsOut.set p none).get q = s.seq.ctx.tripsOut.get q :=
    fun q other => (PerPole.get_set _ p q none).trans (if_neg other)
  unfold tripCompleted
  dsimp only
  split
  case h_1 => exact ⟨rfl, rfl, fun _ _ => rfl⟩
  case h_2 k kind =>
    split
    · rw [raiseMaxima_eq]
      refine ⟨rfl, rfl, fun q other => (congrArg (PerPole.get · q) ?_).trans (freed q other)⟩
      dsimp only [State.withSeq]
      split_ifs <;> rfl
    · refine ⟨rfl, rfl, fun q other => (congrArg (PerPole.get · q) ?_).trans (freed q other)⟩
      dsimp only [State.withSeq]
      split_ifs <;> rfl

section
variable {s : State} {x : OperatorTrip} {r : CmdRef} {e : Executing} (p : Pole) (o : OpOutcome)

/-- R60: the last completion an operator trip waits for answers its command. -/
theorem takeTripCompletion_answers (mem : x ∈ s.seq.operatorTrips) (named : x.cmd = some r)
    (held : s.holding r = some e) (last : (x.take p o).waiting.isEmpty = true) :
    (takeTripCompletion p o s).1.cmd.ctx r.port = .idle := by
  obtain ⟨cmd, trips, -⟩ := tripCompleted_leaves p o s
  have ended : x.take p o ∈ ((tripCompleted p o s).seq.operatorTrips.map (·.take p o)).filter (·.waiting.isEmpty) := by
    rw [trips]
    exact List.mem_filter.mpr ⟨List.mem_map_of_mem mem, last⟩
  have idle : (operatorTripsTake p o (tripCompleted p o s)).cmd.ctx r.port = .idle :=
    operatorTripsEnd_idle (s := (tripCompleted p o s).withSeq _)
      ((holding_congr (by rw [State.withSeq_cmd, cmd])).trans held) ended ((x.take_cmd p o).trans named)
  exact (((lockoutTripDone_lasting _).trans (endIfSettled_lasting _)).ctx r.port).elim (·.trans idle) id

/-- R51, R60: while it waits for a trip that is outstanding, TRIPPING does not end. -/
theorem takeTripCompletion_waits (mem : x ∈ s.seq.operatorTrips) (more : (x.take p o).waiting.isEmpty = false)
    (out : ∀ q, x.waiting.get q = true → s.seq.ctx.tripsOut.get q ≠ none) :
    (takeTripCompletion p o s).2 = [] ∧ x.take p o ∈ (takeTripCompletion p o s).1.seq.operatorTrips ∧
    ∀ q, (x.take p o).waiting.get q = true → (takeTripCompletion p o s).1.seq.ctx.tripsOut.get q ≠ none := by
  obtain ⟨-, trips, others⟩ := tripCompleted_leaves p o s
  generalize done : lockoutTripDone (operatorTripsTake p o (tripCompleted p o s)) = u
  have after : ∀ q, (x.take p o).waiting.get q = true → u.seq.ctx.tripsOut.get q ≠ none := by
    intro q waits
    rw [OperatorTrip.take_waiting, Bool.and_eq_true, decide_eq_true_eq] at waits
    obtain ⟨waits, other⟩ := waits
    rw [← done, lockoutTripDone_eq, operatorTripsTake_eq]
    dsimp only
    rw [others q other]
    exact out q waits
  obtain ⟨q, waits⟩ : ∃ q, (x.take p o).waiting.get q = true := by
    by_contra none
    have empty := (PoleMask.isEmpty_iff _).mpr fun q => Bool.eq_false_iff.mpr fun waits => none ⟨q, waits⟩
    exact absurd empty (by simp [more])
  have stays : takeTripCompletion p o s = (u, []) :=
    (congrArg endIfSettled done).trans (endIfSettled_outstanding (after q waits))
  rw [stays]
  refine ⟨rfl, ?_, after⟩
  rw [← done, lockoutTripDone_eq, operatorTripsTake_eq]
  dsimp only
  rw [trips]
  exact List.mem_filter.mpr ⟨List.mem_map_of_mem mem, by simp [more]⟩

end

/-- R60: where the trips of all its poles complete, the TRIP is answered. -/
theorem settle_answers {r : CmdRef} {e : Executing} (l : List Completion) (n : Nat) (s : State) (x : OperatorTrip)
    (fuel : l.length ≤ n) (trips : ∀ c ∈ l, c.close = false) (mem : x ∈ s.seq.operatorTrips) (named : x.cmd = some r)
    (held : s.holding r = some e) (waits : x.waiting.isEmpty = false)
    (out : ∀ q, x.waiting.get q = true → s.seq.ctx.tripsOut.get q ≠ none ∧ ∃ c ∈ l, c.pole = q) :
    (settle n l s).cmd.ctx r.port = .idle := by
  induction l generalizing n s x with
  | nil =>
    have empty : x.waiting.isEmpty = true := (PoleMask.isEmpty_iff _).mpr fun q =>
      Bool.eq_false_iff.mpr fun waits => by
        obtain ⟨-, c, hc, -⟩ := out q waits
        cases hc
    exact absurd empty (by simp [waits])
  | cons c rest ih =>
    obtain ⟨n, rfl⟩ := Nat.exists_eq_add_of_le' (le_trans (Nat.succ_pos _) fuel)
    obtain ⟨p, close, o⟩ := c
    obtain rfl : close = false := trips _ List.mem_cons_self
    show (settle n (rest ++ (takeTripCompletion p o s).2) (takeTripCompletion p o s).1).cmd.ctx r.port = .idle
    have stays : (takeTripCompletion p o s).1.cmd.ctx r.port = .idle →
        (settle n (rest ++ (takeTripCompletion p o s).2) (takeTripCompletion p o s).1).cmd.ctx r.port = .idle :=
      fun idle => ((settle_lasting n _ _).ctx r.port).elim (·.trans idle) id
    cases last : (x.take p o).waiting.isEmpty with
    | true => exact stays (takeTripCompletion_answers p o mem named held last)
    | false =>
      obtain ⟨none, still, outstanding⟩ := takeTripCompletion_waits p o mem last fun q waits => (out q waits).1
      obtain same | idle := (takeTripCompletion_lasting p o s).ctx r.port
      · rw [none, List.append_nil]
        refine ih n _ (x.take p o) (Nat.le_of_succ_le_succ fuel) (fun c later => trips c (List.mem_cons_of_mem _ later))
          still ((x.take_cmd p o).trans named) ((holding_congr same).trans held) last
          fun q waits => ⟨outstanding q waits, ?_⟩
        rw [OperatorTrip.take_waiting, Bool.and_eq_true, decide_eq_true_eq] at waits
        obtain ⟨c, hc, pole⟩ := (out q waits.1).2
        obtain rfl | later := List.mem_cons.mp hc
        · exact absurd pole.symm waits.2
        · exact ⟨c, later, pole⟩
      · exact stays idle

end Sys2Proof.Machine
end

section
/-! PROOFS. An operator's trip orders and the sequence's change at them (R60, R61, R72, R76). -/

namespace Sys2Proof.Machine

/-! ## The completions of an order set (R72, R78) -/

theorem mem_ofOrder {p : Pole} {x : Option (Bool × OpOutcome)} {c : Completion} (h : c ∈ Completion.ofOrder p x) :
    c.pole = p := by
  cases x with
  | none => cases h
  | some y => rw [List.mem_singleton.mp h]

theorem mem_orderTrips {m : PoleMask} {s : State} {c : Completion} :
    c ∈ (orderTrips m s).2 ↔ m.get c.pole = true ∧ c ∈ Completion.ofOrder c.pole (s.orderOn c.pole).2 := by
  rw [orderTrips_completions, List.mem_flatMap]
  constructor
  · rintro ⟨p, -, brought⟩
    split at brought
    case isTrue on =>
      obtain rfl := mem_ofOrder brought
      exact ⟨on, brought⟩
    case isFalse => cases brought
  · rintro ⟨on, brought⟩
    exact ⟨c.pole, by cases c.pole <;> decide, by rwa [if_pos on]⟩

/-- R72: a trip completes at once exactly on a pole OPEN at rest. -/
theorem trip_mem_orderTrips {m : PoleMask} {s : State} {q : Pole} :
    ⟨q, false, .success⟩ ∈ (orderTrips m s).2 ↔ m.get q = true ∧ (s.poleRec q).openAtRest := by
  refine mem_orderTrips.trans (and_congr_right fun _ => ?_)
  obtain ⟨rest, trip⟩ | ⟨rest, none | abort⟩ := ofOrder_eq q (s.poleRec q) s.store.active s.now
  · exact ⟨fun _ => rest, fun _ => trip ▸ List.mem_singleton.mpr rfl⟩
  · exact ⟨fun brought => absurd (none ▸ brought) List.not_mem_nil, fun atOnce => absurd atOnce rest⟩
  · refine ⟨fun brought => ?_, fun atOnce => absurd atOnce rest⟩
    have alone : (⟨q, false, .success⟩ : Completion) ∈ [⟨q, true, .aborted⟩] := abort ▸ brought
    cases congrArg Completion.close (List.mem_singleton.mp alone)

/-- R76: a close under way is aborted. -/
theorem abort_mem_orderTrips {m : PoleMask} {s : State} {q : Pole} (on : m.get q = true)
    (closing : (s.poleRec q).mech = .closePulse ∨ (s.poleRec q).mech = .closeWait) :
    ⟨q, true, .aborted⟩ ∈ (orderTrips m s).2 := by
  refine mem_orderTrips.mpr ⟨on, ?_⟩
  show _ ∈ Completion.ofOrder q ((s.poleRec q).order s.store.active s.now).2
  rw [PoleRecord.order_closing _ _ closing]
  exact List.mem_singleton.mpr rfl

theorem orderTrips_kinds {m : PoleMask} {s : State} {c : Completion} (h : c ∈ (orderTrips m s).2) :
    (c = ⟨c.pole, false, .success⟩ ∧ m.get c.pole = true ∧ (s.poleRec c.pole).openAtRest) ∨
    (c = ⟨c.pole, true, .aborted⟩ ∧ m.get c.pole = true ∧ ¬ (s.poleRec c.pole).openAtRest) := by
  obtain ⟨on, brought⟩ := mem_orderTrips.mp h
  obtain ⟨rest, trip⟩ | ⟨rest, none | abort⟩ := ofOrder_eq c.pole (s.poleRec c.pole) s.store.active s.now
  · exact .inl ⟨List.mem_singleton.mp (trip ▸ brought), on, rest⟩
  · exact absurd (none ▸ brought) List.not_mem_nil
  · exact .inr ⟨List.mem_singleton.mp (abort ▸ brought), on, rest⟩

theorem ofOrder_length (p : Pole) (x : Option (Bool × OpOutcome)) : (Completion.ofOrder p x).length ≤ 1 := by
  cases x <;> simp [Completion.ofOrder]

theorem orderTrips_nodup (m : PoleMask) (s : State) : (orderTrips m s).2.Nodup := by
  rw [orderTrips_completions, List.nodup_flatMap]
  constructor
  · intro p _
    split
    · cases (s.orderOn p).2 <;> simp [Completion.ofOrder]
    · exact List.nodup_nil
  · have poles : [Pole.a, .b, .c].Pairwise (· ≠ ·) := by decide
    refine poles.imp fun {p q} other => fun c here there => other ?_
    have pole : ∀ p, c ∈ (if m.get p then Completion.ofOrder p (s.orderOn p).2 else []) → c.pole = p := by
      intro p brought
      split at brought
      · exact mem_ofOrder brought
      · cases brought
    exact (pole p here).symm.trans (pole q there)

theorem orderTrips_length (m : PoleMask) (s : State) : (orderTrips m s).2.length ≤ 3 := by
  have one : ∀ p, (if m.get p then Completion.ofOrder p (s.orderOn p).2 else []).length ≤ 1 := by
    intro p
    split
    · exact ofOrder_length _ _
    · exact Nat.zero_le 1
  rw [orderTrips_completions]
  simp only [List.flatMap_cons, List.flatMap_nil, List.length_append, List.length_nil]
  have a := one .a
  have b := one .b
  have c := one .c
  omega

/-! ## What the notices of an order set leave (R72, R103, R120) -/

/-- R72: an order set leaves a command that no test and no operator close is waited for by. -/
theorem abortTest_ctx {s : State} {r : CmdRef} {e : Executing} (held : s.holding r = some e)
    (noTest : ∀ x k, s.batt.test = some x → x.origin ≠ .command r k) :
    (abortTest .trip s).cmd.ctx r.port = s.cmd.ctx r.port := by
  cases test : s.batt.test with
  | none => rw [abortTest_none .trip test]
  | some x =>
    obtain ⟨body, ended⟩ := abortTest_running (cause := .trip) test (by decide)
    have cmd : (raise .testResult body (s.testEnded .trip x)).cmd = s.cmd := by
      rw [raise_cmd, (testEnded_blocks s .trip x).2]
    rw [ended, State.onlyBattery_cmd, ← cmd]
    cases origin : x.origin with
    | command k n =>
      have held : (raise .testResult body (s.testEnded .trip x)).holding r = some e :=
        (holding_congr (by rw [cmd])).trans held
      exact complete_ctx_held _ held fun same => noTest x n test (by rw [origin, same])
    | scheduled => rfl

theorem tripNotice_ctx {s : State} {r : CmdRef} {e : Executing} (held : s.holding r = some e)
    (noClose : ∀ k, s.holds.close = some k → k.cmd ≠ r)
    (noTest : ∀ x k, s.batt.test = some x → x.origin ≠ .command r k) :
    (tripNotice s).cmd.ctx r.port = s.cmd.ctx r.port := by
  have test := abortTest_ctx held noTest
  exact (cancelWarning_ctx .sequenceActive (s := abortTest .trip s) ((holding_congr test).trans held)
    (fun k record => noClose k record)).trans test

theorem orderTrips_ctx (m : PoleMask) {s : State} {r : CmdRef} {e : Executing} (held : s.holding r = some e)
    (noClose : ∀ k, s.holds.close = some k → k.cmd ≠ r)
    (noTest : ∀ x k, s.batt.test = some x → x.origin ≠ .command r k) :
    (orderTrips m s).1.cmd.ctx r.port = s.cmd.ctx r.port := by
  rw [orderTrips_eq_each]
  generalize [Pole.a, .b, .c] = ps
  induction ps generalizing s with
  | nil => rfl
  | cons p ps ih =>
    unfold orderEach
    split
    · have one : (orderTrip p s).1.cmd.ctx r.port = s.cmd.ctx r.port := tripNotice_ctx held noClose noTest
      refine (ih ((holding_congr one).trans held) (fun k record => noClose k (tripNotice_closeKept s k record))
        fun x k test => ?_).trans one
      cases (tripNotice_test s).symm.trans test
    · exact ih held noClose noTest

/-- R103: a record in PULSING is not cancelled. -/
theorem orderTrips_pulsing (m : PoleMask) {s : State} {r : CloseRecord} (record : s.holds.close = some r)
    (pulsing : r.phase = .pulsing) : (orderTrips m s).1.holds.close = some r := by
  rw [orderTrips_eq_each]
  generalize [Pole.a, .b, .c] = ps
  induction ps generalizing s with
  | nil => exact record
  | cons p ps ih =>
    unfold orderEach
    split
    · refine ih ?_
      show (cancelWarning .sequenceActive (abortTest .trip s)).holds.close = some r
      rw [cancelWarning_close, abortTest_holds, record, Option.filter_some]
      simp [pulsing]
    · exact ih record

/-! ## The sequence's change (R61) -/

theorem Sequence.operatorTrip_timers (q : Sequence) :
    q.operatorTrip.state = (if q.state = .lockout then .lockout else .tripping) ∧
    q.operatorTrip.deadTimer = (if q.state = .deadTime then none else q.deadTimer) ∧
    q.operatorTrip.reclaimTimer = (if q.state = .reclaim then none else q.reclaimTimer) ∧
    q.operatorTrip.afterClose = (q.afterClose && decide (q.state ≠ .reclaim)) := by
  unfold Sequence.operatorTrip
  cases state : q.state <;> simp [state]

theorem Sequence.operatorTrip_ctx (q : Sequence) :
    q.operatorTrip.ctx.endCause = (if q.state = .lockout then q.ctx.endCause else some .operator) ∧
    q.operatorTrip.ctx.ordered =
      (if q.state = .tripping ∨ q.state = .lockout then q.ctx.ordered else ⟨false, false, false⟩) ∧
    q.operatorTrip.ctx.pickup = (if q.state = .tripping ∨ q.state = .lockout then q.ctx.pickup else none) ∧
    q.operatorTrip.ctx.tripsOut = q.ctx.tripsOut ∧ q.operatorTrip.ctx.closesOut = q.ctx.closesOut := by
  unfold Sequence.operatorTrip
  cases state : q.state <;> simp [ShotContext.emptied, ShotContext.empty, PoleMask.none, PerPole.all]

/-- R61: what an operator trip leaves of the sequence in every state. -/
theorem Sequence.operatorTrip_keeps (q : Sequence) :
    q.operatorTrip = { q with
      state := q.operatorTrip.state, deadTimer := q.operatorTrip.deadTimer, reclaimTimer := q.operatorTrip.reclaimTimer
      afterClose := q.operatorTrip.afterClose, ctx := q.operatorTrip.ctx } := by
  unfold Sequence.operatorTrip
  cases q.state <;> rfl

/-! ## The trip taken, before its completions -/

/-- R60: the poles that take an order. -/
def State.placing (s : State) (m : PoleMask) : PoleMask := m.diff s.seq.ctx.tripping

theorem State.placing_get (s : State) (m : PoleMask) (q : Pole) :
    (s.placing m).get q = true ↔ m.get q = true ∧ s.seq.ctx.tripsOut.get q = none := by
  have out : s.seq.ctx.tripping.get q = (s.seq.ctx.tripsOut.get q).isSome := by cases q <;> rfl
  unfold State.placing PoleMask.diff
  rw [PerPole.get_zip, out]
  cases s.seq.ctx.tripsOut.get q <;> simp

/-- R60: the operator trip that the command waits in. -/
def Sequence.waitingTrip (q : Sequence) (cmd : CmdRef) (m : PoleMask) : OperatorTrip :=
  { cmd := some cmd, mask := m, waiting := m, outcomes := .all none, inLockout := decide (q.state = .lockout) }

/-- R60, R61: the sequence with the trips of `placed` ordered and the command waiting. -/
def Sequence.tripPlaced (q : Sequence) (cmd : CmdRef) (m placed : PoleMask) : Sequence :=
  { q.operatorTrip with
    ctx := q.operatorTrip.ctx.ordering placed .operator
    operatorTrips := q.operatorTrip.operatorTrips ++ [q.waitingTrip cmd m] }

/-- R60, R61: the orders placed, OPERATOR_TRIP raised and the sequence changed. -/
def State.tripOrdered (s : State) (cmd : CmdRef) (m : PoleMask) : State :=
  (raise .operatorTrip [tripSourceCode (some cmd.port), PoleMask.byte m] (orderTrips (s.placing m) s).1).withSeq
    (s.seq.tripPlaced cmd m (s.placing m))

theorem operatorTrip_eq (cmd : CmdRef) (m : PoleMask) (s : State) :
    operatorTrip (some cmd) (some cmd.port) m s =
      s.onlySequence (settle 12 (orderTrips (s.placing m) s).2 (s.tripOrdered cmd m)) := by
  unfold State.tripOrdered
  rw [← (orderTrips_blocks (s.placing m) s).1]
  rfl

theorem tripOrdered_tripsOut (s : State) (cmd : CmdRef) (m : PoleMask) (q : Pole) :
    (s.tripOrdered cmd m).seq.ctx.tripsOut.get q =
      if (s.placing m).get q = true then some .operator else s.seq.ctx.tripsOut.get q := by
  show PerPole.get ((s.placing m).zip _ s.seq.operatorTrip.ctx.tripsOut) q = _
  rw [PerPole.get_zip, s.seq.operatorTrip_ctx.2.2.2.1]

/-- R60, R61, R72: the completions of the orders, where some pole of the mask does not complete at once. -/
theorem tripOrdered_brings (s : State) (cmd : CmdRef) (m : PoleMask) {q : Pole} (on : m.get q = true)
    (waits : ¬ ((s.placing m).get q = true ∧ (s.poleRec q).openAtRest)) :
    (s.tripOrdered cmd m).Brings (orderTrips (s.placing m) s).2 where
  state := by
    show s.seq.operatorTrip.state ≠ .closing
    rw [s.seq.operatorTrip_timers.1]
    split <;> decide
  once := orderTrips_nodup _ s
  kinds c mem := by
    obtain ⟨trip, placed, -⟩ | ⟨abort, -, -⟩ := orderTrips_kinds mem
    · exact .inl ⟨c.pole, trip, (tripOrdered_tripsOut s cmd m c.pole).trans (if_pos placed)⟩
    · exact .inr ⟨c.pole, abort⟩
  outstanding := by
    refine ⟨q, ?_, fun brought => waits (trip_mem_orderTrips.mp brought)⟩
    rw [tripOrdered_tripsOut]
    split
    case isTrue => exact nofun
    case isFalse unplaced => exact fun none => unplaced ((s.placing_get m q).mpr ⟨on, none⟩)

end Sys2Proof.Machine
end

section
/-! PROOFS. The TRIP command (R60 to R62, R72, R76, R105). -/

namespace Sys2Proof.Machine

/-! ## What an operator trip leaves -/

/-- R60, R61: an operator trip's state after the completions that came at once. -/
def State.tripped (s : State) (cmd : CmdRef) (m : PoleMask) : State :=
  settle 12 (orderTrips (s.placing m) s).2 (s.tripOrdered cmd m)

theorem orderTrips_fuel (m : PoleMask) (s : State) : (orderTrips m s).2.length ≤ 12 :=
  le_trans (orderTrips_length m s) (by decide)

section
variable (s : State) (cmd : CmdRef) (m : PoleMask)

theorem tripOrdered_lasting : (orderTrips (s.placing m) s).1.Lasting (s.tripOrdered cmd m) := by
  refine .of_blocks rfl ?_ rfl
  rw [(orderTrips_blocks (s.placing m) s).1]
  show s.seq.operatorTrip.userFlags = s.seq.userFlags
  rw [Sequence.operatorTrip_keeps]

theorem tripOrdered_settles : (s.tripOrdered cmd m).Lasting (s.tripped cmd m) := settle_lasting _ _ _

theorem tripped_lasting : s.Lasting (s.tripped cmd m) :=
  (orderTrips_lasting _ s).trans ((tripOrdered_lasting s cmd m).trans (tripOrdered_settles s cmd m))

/-- R60, R72: each pole that takes the order, or that a trip is in flight on, has a trip in flight or reads OPEN. -/
theorem tripped_driven {q : Pole} (on : m.get q = true)
    (reached : s.seq.ctx.tripsOut.get q = none ∨ (s.poleRec q).tripping) :
    ((s.tripped cmd m).poleRec q).tripping ∨ ((s.tripped cmd m).poleRec q).position = .opened := by
  have after := (tripOrdered_lasting s cmd m).trans (tripOrdered_settles s cmd m)
  obtain none | trip := reached
  · have placed := (s.placing_get m q).mpr ⟨on, none⟩
    have driven : ((orderTrips (s.placing m) s).1.poleRec q).driven := by
      rw [orderTrips_poleRec, if_pos placed]
      exact ((s.poleRec q).order_driven s.store.active s.now).1
    exact driven.imp (after.tripping q) (after.position q).trans
  · exact .inl ((tripped_lasting s cmd m).tripping q trip)

/-- R60: where every trip completes at once, the TRIP is answered. -/
theorem tripped_answers {e : Executing} (held : s.holding cmd = some e) (names : m.isEmpty = false)
    (every : ∀ q, m.get q = true → s.seq.ctx.tripsOut.get q = none ∧ (s.poleRec q).openAtRest) :
    (s.tripped cmd m).cmd.ctx cmd.port = .idle := by
  have after := tripOrdered_settles s cmd m
  have placed : ∀ q, m.get q = true → (s.placing m).get q = true :=
    fun q on => (s.placing_get m q).mpr ⟨on, (every q on).1⟩
  obtain same | idle := ((orderTrips_lasting (s.placing m) s).trans (tripOrdered_lasting s cmd m)).ctx cmd.port
  · refine settle_answers _ 12 _ (s.seq.waitingTrip cmd m) (orderTrips_fuel _ s) (fun c mem => ?_)
      (List.mem_append_right _ (List.mem_singleton.mpr rfl)) rfl ((holding_congr same).trans held) names fun q on => ?_
    · obtain ⟨trip, -⟩ | ⟨-, on, rest⟩ := orderTrips_kinds mem
      · rw [trip]
      · exact absurd (every _ ((s.placing_get m _).mp on).1).2 rest
    · refine ⟨?_, _, trip_mem_orderTrips.mpr ⟨placed q on, (every q on).2⟩, rfl⟩
      rw [tripOrdered_tripsOut, if_pos (placed q on)]
      exact nofun
  · exact (after.ctx cmd.port).elim (·.trans idle) id

/-! Where some pole of the mask does not complete at once. -/

section
variable {s cmd m} {q : Pole} (on : m.get q = true)
  (waits : ¬ ((s.placing m).get q = true ∧ (s.poleRec q).openAtRest))
include on waits

theorem tripped_underway : (s.tripOrdered cmd m).Underway (orderTrips (s.placing m) s).2 (s.tripped cmd m) :=
  (tripOrdered_brings s cmd m on waits).settles (orderTrips_fuel _ s)

/-- R61: the sequence. -/
theorem tripped_sequence :
    let t := s.tripped cmd m
    t.seq.state = (if s.seq.state = .lockout then .lockout else .tripping) ∧ t.seq.shot = s.seq.shot ∧
    t.seq.ctx.endCause = (if s.seq.state = .lockout then s.seq.ctx.endCause else some .operator) ∧
    t.seq.deadTimer = (if s.seq.state = .deadTime then none else s.seq.deadTimer) ∧
    t.seq.reclaimTimer = (if s.seq.state = .reclaim then none else s.seq.reclaimTimer) ∧
    t.seq.afterClose = (s.seq.afterClose && decide (s.seq.state ≠ .reclaim)) ∧
    t.seq.ctx.pickup = (if s.seq.state = .tripping ∨ s.seq.state = .lockout then s.seq.ctx.pickup else none) ∧
    t.seq.faults = s.seq.faults ∧ t.seq.openRecord = s.seq.openRecord ∧ t.seq.lamp = s.seq.lamp := by
  intro t
  have under := tripped_underway (cmd := cmd) on waits
  obtain ⟨state, dead, reclaim, mark⟩ := s.seq.operatorTrip_timers
  obtain ⟨endCause, -, pickup, -, -⟩ := s.seq.operatorTrip_ctx
  have keeps := s.seq.operatorTrip_keeps
  have seq : t.seq = _ := under.seq
  rw [seq]
  exact ⟨state, (congrArg Sequence.shot keeps :), endCause, dead, reclaim, mark, pickup,
    (congrArg Sequence.faults keeps :), (congrArg Sequence.openRecord keeps :), (congrArg Sequence.lamp keeps :)⟩

/-- R61, R64: in LOCKOUT a trip that completes at once may raise TRIP and give its cause. -/
theorem tripped_quiet
    (quiet : (∀ p, ¬ ((s.placing m).get p = true ∧ (s.poleRec p).openAtRest)) ∨ s.seq.state ≠ .lockout) :
    (s.tripped cmd m).seq.cause = s.seq.cause ∧ (s.tripped cmd m).seq.ctx.ordered =
      (if s.seq.state = .tripping ∨ s.seq.state = .lockout then s.seq.ctx.ordered else ⟨false, false, false⟩) := by
  have under := tripped_underway (cmd := cmd) on waits
  obtain ⟨cause, ordered⟩ := under.quiet (quiet.imp (fun none p brought => none p (trip_mem_orderTrips.mp brought))
    fun out lockout => out (by
      have state : (if s.seq.state = .lockout then SeqState.lockout else .tripping) = .lockout :=
        s.seq.operatorTrip_timers.1.symm.trans lockout
      by_contra other
      rw [if_neg other] at state
      cases state))
  exact ⟨cause.trans (congrArg Sequence.cause s.seq.operatorTrip_keeps :), ordered.trans s.seq.operatorTrip_ctx.2.1⟩

/-- R60, R61, R72: the trips outstanding. -/
theorem tripped_tripsOut (p : Pole) :
    ((s.placing m).get p = true → (s.poleRec p).openAtRest → (s.tripped cmd m).seq.ctx.tripsOut.get p = none) ∧
    ((s.placing m).get p = true → ¬ (s.poleRec p).openAtRest →
      (s.tripped cmd m).seq.ctx.tripsOut.get p = some .operator) ∧
    (¬ (s.placing m).get p = true → (s.tripped cmd m).seq.ctx.tripsOut.get p = s.seq.ctx.tripsOut.get p) := by
  have out := (tripped_underway (cmd := cmd) on waits).tripsOut p
  rw [tripOrdered_tripsOut] at out
  refine ⟨fun placed rest => out.trans (if_pos (trip_mem_orderTrips.mpr ⟨placed, rest⟩)), fun placed moves => ?_,
    fun unplaced => ?_⟩
  · rw [out, if_neg fun brought => moves (trip_mem_orderTrips.mp brought).2, if_pos placed]
  · rw [out, if_neg fun brought => unplaced (trip_mem_orderTrips.mp brought).1, if_neg unplaced]

/-- R72, R76: the poles' records. -/
theorem tripped_poleRec (p : Pole) : (s.tripped cmd m).poleRec p =
    if (s.placing m).get p = true then ((s.poleRec p).order s.store.active s.now).1 else s.poleRec p :=
  (congrArg (fun d : PoleDrive => d.pole.get p) (tripped_underway (cmd := cmd) on waits).poles).trans
    (orderTrips_poleRec _ s p)

/-- R60: the operator trip waits for its mask. -/
theorem tripped_trips (quiet : ∀ p, ¬ ((s.placing m).get p = true ∧ (s.poleRec p).openAtRest)) :
    (s.tripped cmd m).seq.operatorTrips = s.seq.operatorTrips ++ [s.seq.waitingTrip cmd m] := by
  have under := tripped_underway (cmd := cmd) on waits
  refine (under.trips fun p brought => quiet p (trip_mem_orderTrips.mp brought)).trans ?_
  exact congrArg (· ++ [s.seq.waitingTrip cmd m]) (congrArg Sequence.operatorTrips s.seq.operatorTrip_keeps :)

/-- R62, R76, R105: an operator close whose every close the orders abort. -/
theorem tripped_closes {x : OperatorClose} {r : CloseRecord} (pending : s.seq.operatorClose = some x)
    (record : s.holds.close = some r) (pulsing : r.phase = .pulsing) (more : x.waiting.isEmpty = false)
    (own : ∀ p, x.waiting.get p = true → (s.placing m).get p = true ∧ s.seq.ctx.closesOut.get p = true ∧
      ((s.poleRec p).mech = .closePulse ∨ (s.poleRec p).mech = .closeWait)) :
    (s.tripped cmd m).seq.operatorClose = none ∧ (s.tripped cmd m).holds.close = none ∧
    ∀ e, s.holding r.cmd = some e → (s.tripped cmd m).cmd.ctx r.cmd.port = .idle := by
  have waiting : (s.tripOrdered cmd m).seq.operatorClose = some x :=
    (congrArg Sequence.operatorClose s.seq.operatorTrip_keeps :).trans pending
  have closes : (s.tripOrdered cmd m).seq.ctx.closesOut = s.seq.ctx.closesOut := s.seq.operatorTrip_ctx.2.2.2.2
  obtain ⟨none, gone, answered⟩ := (tripOrdered_brings s cmd m on waits).closeEnds (n := 12) waiting
    (orderTrips_pulsing (s.placing m) record pulsing) more (fun p left => by
      obtain ⟨placed, out, closing⟩ := own p left
      exact ⟨by rw [closes, out], abort_mem_orderTrips placed closing⟩) (orderTrips_fuel _ s)
  refine ⟨none, gone, fun e held => ?_⟩
  obtain same | idle := ((orderTrips_lasting (s.placing m) s).trans (tripOrdered_lasting s cmd m)).ctx r.cmd.port
  · exact answered e ((holding_congr same).trans held)
  · exact ((tripOrdered_settles s cmd m).ctx r.cmd.port).elim (·.trans idle) id

/-- R60: the TRIP stays EXECUTING. -/
theorem tripped_stays {e : Executing} (held : s.holding cmd = some e)
    (noClose : ∀ k, s.holds.close = some k → k.cmd ≠ cmd)
    (noTest : ∀ x k, s.batt.test = some x → x.origin ≠ .command cmd k)
    (noTrip : ∀ x ∈ s.seq.operatorTrips, x.cmd ≠ some cmd) :
    (s.tripped cmd m).cmd.ctx cmd.port = s.cmd.ctx cmd.port := by
  have ordered : (s.tripOrdered cmd m).cmd.ctx cmd.port = s.cmd.ctx cmd.port :=
    orderTrips_ctx (s.placing m) held noClose noTest
  have kept := (orderTrips_blocks (s.placing m) s).2.2.1
  refine ((tripOrdered_brings s cmd m on waits).unanswered (q := q) ((holding_congr ordered).trans held)
    (fun k record => noClose k (kept k record)) (fun brought => waits (trip_mem_orderTrips.mp brought))
    (fun x mem named => ?_) (orderTrips_fuel _ s)).trans ordered
  have trips : s.seq.operatorTrip.operatorTrips = s.seq.operatorTrips :=
    (congrArg Sequence.operatorTrips s.seq.operatorTrip_keeps :)
  obtain old | new := List.mem_append.mp mem
  · exact absurd named (noTrip x (trips ▸ old))
  · rw [List.mem_singleton.mp new]
    exact on

end
end

/-! ## O25 -/

/-- R164: a good pole mask names a pole. -/
theorem poleMaskArg_some {b : Byte} (h : b.toNat ≠ 0) (h7 : b.toNat ≤ 7) :
    PoleMask.isEmpty ⟨b.getLsbD 0, b.getLsbD 1, b.getLsbD 2⟩ = false := by
  obtain ⟨k, value⟩ : ∃ k, b.toNat = k := ⟨_, rfl⟩
  obtain rfl : b = BitVec.ofNat 8 k := BitVec.eq_of_toNat_eq (by rw [BitVec.toNat_ofNat, ← value]; omega)
  rw [value] at h h7
  clear value
  interval_cases k
  · exact absurd rfl h
  all_goals rfl

/-- R60: a TRIP with a good mask is an operator trip. -/
theorem exec_trip {s : State} {p : PortId} (n : Half) {m : Byte} (ready : s.ready p) (named : m.toNat ≠ 0)
    (small : m.toNat ≤ 7) : exec (.trip p n m) s = .next ((s.admitted p n .trip).onlySequence
      ((s.admitted p n .trip).tripped (s.nextRef p) ⟨m.getLsbD 0, m.getLsbD 1, m.getLsbD 2⟩)) := by
  refine (command_owner ready rfl).trans (congrArg Host.Outcome.next ?_)
  unfold tripTaken
  rw [poleMaskArg_good named small]
  exact operatorTrip_eq _ _ _

/-- Settles O25: the trip orders bring completions one by one (`State.Underway`); while a pole of the mask is outstanding none
of them ends TRIPPING or answers the command, and where every pole completes at once the last one answers it. -/
theorem tripTakenInAnyState : Obligations.TripTakenInAnyState := by
  unfold Obligations.TripTakenInAnyState
  intro p n m s ready
  refine ⟨fun bad => ?_, fun named small => ?_⟩
  · exact command_answered (f := id) ready rfl (by unfold tripTaken; rw [poleMaskArg_bad bad]; rfl) rfl
  refine ⟨_, exec_trip n ready named small, ?_⟩
  have held := holding_admitted (x := s.admitted p n .trip) (s := s) (p := p) (n := n) (c := .trip) rfl
  have lasting := tripped_lasting (s.admitted p n .trip) (s.nextRef p) ⟨m.getLsbD 0, m.getLsbD 1, m.getLsbD 2⟩
  have vault : ((s.admitted p n .trip).onlySequence ((s.admitted p n .trip).tripped (s.nextRef p)
      ⟨m.getLsbD 0, m.getLsbD 1, m.getLsbD 2⟩)).vault = s.vault := by
    unfold State.tripped
    rw [← operatorTrip_eq]
    exact operatorTrip_vault _ _ _ _
  refine ⟨fun q => tripped_driven (s.admitted p n .trip) (s.nextRef p) _, fun q => ⟨lasting.position q,
    lasting.discovered q⟩, rfl, congrArg Vault.slots vault, congrArg Vault.lever vault, rfl, lasting.flags, ?_⟩
  intro mask placed keeps atOnce quiet
  have places : ∀ q, ((s.admitted p n .trip).placing mask).get q = true ↔ placed q :=
    (s.admitted p n .trip).placing_get mask
  have completes : ∀ q, ((s.admitted p n .trip).placing mask).get q = true ∧ (s.poleRec q).openAtRest ↔ atOnce q :=
    fun q => and_congr_left fun _ => places q
  refine ⟨fun ⟨q, on, moves⟩ => ?_, fun every => ?_⟩
  case refine_2 =>
    exact tripped_answers _ _ mask held (poleMaskArg_some named small) fun q on => ⟨(every q on).1.2, (every q on).2⟩
  have waits : ¬ (((s.admitted p n .trip).placing mask).get q = true ∧ (s.poleRec q).openAtRest) :=
    mt (completes q).mp moves
  have moved : quiet → _ := fun still => tripped_quiet (s := s.admitted p n .trip) (cmd := s.nextRef p) on waits
    (still.imp_left fun none q once => none q ((completes q).mp once))
  have out := tripped_tripsOut (s := s.admitted p n .trip) (cmd := s.nextRef p) on waits
  have pole := tripped_poleRec (s := s.admitted p n .trip) (cmd := s.nextRef p) on waits
  obtain ⟨state, shot, endCause, dead, reclaim, mark, pickup, faults, record, lamp⟩ :=
    tripped_sequence (s := s.admitted p n .trip) (cmd := s.nextRef p) on waits
  refine ⟨state, shot, fun still => (moved still).1, endCause, dead, reclaim, mark, fun still => (moved still).2, pickup,
    fun q => ⟨fun once => ⟨?_, ?_⟩, fun place go => ?_, fun unplaced => ?_⟩, fun q place go rest => ?_, faults, record,
    lamp, fun none => ?_, fun c r pending standing pulsing more own => ?_, fun noClose noTest noTrip => ?_⟩
  · exact (out q).1 ((places q).mpr once.1) once.2
  · refine (pole q).trans ((if_pos ((places q).mpr once.1)).trans ?_)
    obtain ⟨position, still⟩ := once.2
    exact congrArg Prod.fst (PoleRecord.order_atOnce _ _ position still)
  · exact (out q).2.1 ((places q).mpr place) fun rest => go ⟨place, rest⟩
  · exact (out q).2.2 (mt (places q).mp unplaced)
  · refine (pole q).trans ((if_pos ((places q).mpr place)).trans ?_)
    have closed : (s.poleRec q).position ≠ .opened := fun position => go ⟨place, position, rest⟩
    exact congrArg Prod.fst (PoleRecord.order_begins _ _ closed rest)
  · exact tripped_trips on waits fun q once => none q ((completes q).mp once)
  · obtain ⟨ended, gone, answered⟩ := tripped_closes (s := s.admitted p n .trip) (cmd := s.nextRef p) on waits pending
      standing pulsing more fun q left => by
        obtain ⟨place, closing⟩ := own q left
        exact ⟨(places q).mpr place, closing⟩
    refine ⟨ended, gone, fun e holds across => answered e ?_⟩
    have other : r.cmd.port = PortId.other p := by
      cases hr : r.cmd.port <;> cases hp : p <;> simp_all [PortId.other]
    refine (holding_congr ?_).trans holds
    rw [other]
    exact setCtx_ctx_other _ _ _
  · exact (tripped_stays on waits held noClose noTest noTrip).trans (admitted_ctx s p n .trip)

end Sys2Proof.Machine
end

section
/-! PROOFS. The close gate (R84, R86): what it answers and what it admits. -/

namespace Sys2Proof.Machine

/-! ## The gate's answer, condition by condition -/

/-- The first failure in a list of conditions, taken from the front. -/
theorem firstFailure_cons {α : Type} (ok : Bool) (r : α) (rest : List (Bool × α)) :
    (((ok, r) :: rest).find? fun c => !c.1).map (·.2) =
      if ok = false then some r else (rest.find? fun c => !c.1).map (·.2) := by
  cases ok <;> rfl

theorem covers_not (h : HoldUnit) (mask : PoleMask) :
    (!h.covers mask) = false ↔ (h.table.any fun x => !(x.2.scope.inter mask).isEmpty) = true :=
  Bool.not_eq_false_eq_eq_true _ ▸ Iff.rfl

/-- A test that some pole of a mask does not satisfy. -/
theorem everyPole_eq_false {α : Type} [DecidableEq α] (mask : PoleMask) (f : PoleRecord → α) (x : α) (s : State) :
    everyPole mask (fun r => decide (f r = x)) s.poles.pole = false ↔
      (mask.a = true ∧ f (s.poleRec .a) ≠ x) ∨ (mask.b = true ∧ f (s.poleRec .b) ≠ x) ∨
      (mask.c = true ∧ f (s.poleRec .c) ≠ x) := by
  show everyPole mask _ s.poles.pole = false ↔ (_ ∧ f s.poles.pole.a ≠ x) ∨ (_ ∧ f s.poles.pole.b ≠ x) ∨
    (_ ∧ f s.poles.pole.c ≠ x)
  simp only [everyPole, Bool.and_eq_false_iff, Bool.or_eq_false_iff, Bool.not_eq_false', decide_eq_false_iff_not, or_assoc]

theorem notFailed_eq_false (s : State) : (s.poles.pole.toList.all fun r => !r.failed) = false ↔
    (s.poleRec .a).failed = true ∨ (s.poleRec .b).failed = true ∨ (s.poleRec .c).failed = true := by
  show _ ↔ s.poles.pole.a.failed = true ∨ s.poles.pole.b.failed = true ∨ s.poles.pole.c.failed = true
  simp only [PerPole.toList, List.all_cons, List.all_nil, Bool.and_true, Bool.and_eq_false_iff, Bool.not_eq_false']

/-- Settles O28: the list of conditions, taken from the front. -/
theorem gateJudgesInOrder : Obligations.GateJudgesInOrder := by
  intro mask s held
  unfold gateQuery gateConditions
  simp only [firstFailure_cons, covers_not, everyPole_eq_false, notFailed_eq_false, decide_eq_false_iff_not, ne_eq,
    not_not, Nat.not_le, List.find?_nil, Option.map_none, held]

/-! ## What the gate admits (R84, R85) -/

/-- The gate would let through a close of a mask that holds the pole. -/
def State.admits (s : State) (p : Pole) : Prop := ∃ mask : PoleMask, mask.get p = true ∧ gateQuery mask s = none

/-- A condition stated pole by pole fails at no pole of the mask. -/
theorem pole_of_mask {mask : PoleMask} {P : Pole → Prop} {p : Pole} (on : mask.get p = true)
    (none : ¬ ((mask.a = true ∧ ¬ P .a) ∨ (mask.b = true ∧ ¬ P .b) ∨ (mask.c = true ∧ ¬ P .c))) : P p := by
  by_contra fails
  cases p
  exacts [none (.inl ⟨on, fails⟩), none (.inr (.inl ⟨on, fails⟩)), none (.inr (.inr ⟨on, fails⟩))]

theorem scope_of_uncovered {mask : PoleMask} {p : Pole} {l : List (Nat × Hold)} (on : mask.get p = true)
    (uncovered : ¬ (l.any fun x => !(x.2.scope.inter mask).isEmpty) = true) : ∀ x ∈ l, x.2.scope.get p = false := by
  intro x mem
  by_contra reaches
  refine uncovered (List.any_eq_true.mpr ⟨x, mem, ?_⟩)
  have both : (x.2.scope.inter mask).get p = true := by
    unfold PoleMask.inter
    rw [PerPole.get_zip, on, Bool.eq_true_of_not_eq_false reaches]
    rfl
  cases empty : (x.2.scope.inter mask).isEmpty with
  | false => rfl
  | true => exact absurd both (by simp [(PoleMask.isEmpty_iff _).mp empty p])

/-- A condition that refuses does not hold of what is admitted. -/
theorem ite_some_eq_none {α : Type} {c : Prop} [Decidable c] {r : α} {rest : Option α} :
    (if c then some r else rest) = none ↔ ¬ c ∧ rest = none := by
  by_cases h : c <;> simp [h]

/-- R84: what holds of a pole that the gate would let a close through for. -/
theorem State.admits.conditions {s : State} {p : Pole} (h : s.admits p) :
    (s.poleRec p).mech = .idle ∧ (s.poleRec p).position = .opened ∧ (∀ x ∈ s.holds.table, x.2.scope.get p = false) ∧
    s.poles.handle = .inactive ∧ (∀ q, (s.poleRec q).failed = false) ∧ s.prot.linkUp = true ∧
    s.batt.level ≠ .critical ∧ s.batt.level ≠ .shutdownPending ∧
    s.store.active.closeReserve ≤ s.poles.storeVoltage := by
  obtain ⟨mask, on, judged⟩ := h
  rw [gateJudgesInOrder mask s] at judged
  simp only [ite_some_eq_none, and_true] at judged
  obtain ⟨uncovered, handle, sound, idle, opened, link, critical, shutdown, energy⟩ := judged
  refine ⟨pole_of_mask (P := fun q => (s.poleRec q).mech = .idle) on idle,
    pole_of_mask (P := fun q => (s.poleRec q).position = .opened) on opened, scope_of_uncovered on uncovered,
    not_not.mp handle, fun q => ?_, Bool.eq_true_of_not_eq_false link, critical, shutdown, Nat.not_lt.mp energy⟩
  by_contra failed
  have marked := Bool.eq_true_of_not_eq_false failed
  cases q
  exacts [sound (.inl marked), sound (.inr (.inl marked)), sound (.inr (.inr marked))]

end Sys2Proof.Machine
end

section
/-! PROOFS. What a step does to the coils (R71, R84, R85, R121): outside a close request no close begins, and no operation
starts under the test load. -/

namespace Sys2Proof.Machine

/-! ## Calm: no close begins -/

/-- No close pulse begins, and a test load that stood alone still does. -/
structure State.Calm (s t : State) : Prop where
  close : ∀ p, (t.poleRec p).mech = .closePulse → (s.poleRec p).mech = .closePulse
  load : s.loadAlone → t.loadAlone

theorem State.Calm.refl (s : State) : s.Calm s := ⟨fun _ h => h, id⟩

theorem State.Calm.trans {s t u : State} (h : s.Calm t) (k : t.Calm u) : s.Calm u :=
  ⟨fun p c => h.close p (k.close p c), fun l => k.load (h.load l)⟩

/-- The pole records, and whether a test runs. -/
def State.rig (s : State) : PerPole PoleRecord × Bool := (s.poles.pole, s.batt.test.isSome)

theorem rig_congr {s t : State} (poles : t.poles.pole = s.poles.pole) (test : t.batt.test = s.batt.test) :
    t.rig = s.rig := by
  simp only [State.rig, poles, test]

/-- What leaves the records alone and starts no test is calm. -/
theorem State.Calm.of_poles {s t : State} (poles : t.poles.pole = s.poles.pole)
    (test : t.batt.test.isSome = true → s.batt.test.isSome = true) : s.Calm t := by
  have same : ∀ q, t.poleRec q = s.poleRec q := fun q => congrArg (PerPole.get · q) poles
  refine ⟨fun p c => by rwa [← same p], fun alone on q => ?_⟩
  rw [same q]
  exact alone (test on) q

theorem State.Calm.of_rig {s t : State} (h : t.rig = s.rig) : s.Calm t := by
  obtain ⟨poles, test⟩ := Prod.mk.inj h
  exact .of_poles poles fun on => test ▸ on

theorem State.Calm.of_noTest {s t : State} (poles : t.poles.pole = s.poles.pole) (none : t.batt.test = none) :
    s.Calm t := .of_poles poles fun on => by
  rw [none] at on
  cases on

/-- What is calm after a change outside the records and the test. -/
theorem State.Calm.after {s t u : State} (k : u.Calm t) (h : u.rig = s.rig) : s.Calm t := (State.Calm.of_rig h).trans k

/-- A pole's record replaced by one that begins no close and does not leave its rest. -/
theorem withPole_calm {s : State} {p : Pole} {r : PoleRecord} (close : r.mech = .closePulse → (s.poleRec p).mech = .closePulse)
    (rests : (s.poleRec p).mech = .idle ∨ (s.poleRec p).mech = .failed → r.mech = .idle ∨ r.mech = .failed) :
    s.Calm (s.withPole p r) := by
  refine ⟨fun q c => ?_, fun alone on q => ?_⟩
  all_goals by_cases same : q = p
  · subst same
    rw [State.poleRec_withPole_same] at c
    exact close c
  · rwa [State.poleRec_withPole_other _ _ _ _ same] at c
  · subst same
    rw [State.poleRec_withPole_same]
    exact rests (alone on q)
  · rw [State.poleRec_withPole_other _ _ _ _ same]
    exact alone on q

/-! ## The Pole Drive -/

theorem abortTest_calm (c : TestCause) (s : State) : s.Calm (abortTest c s) := .of_noTest rfl (abortTest_test c s)

theorem PoleRecord.finish_rests (r : PoleRecord) (o : OpOutcome) :
    (r.finish o).mech = .idle ∨ (r.finish o).mech = .failed := by
  unfold PoleRecord.finish
  cases r.failed
  exacts [.inl rfl, .inr rfl]

/-- A pole whose operation has ended rests. -/
theorem withPole_finish_calm (s : State) (p : Pole) (r : PoleRecord) (o : OpOutcome) :
    s.Calm (s.withPole p (r.finish o)) := by
  have rests := r.finish_rests o
  refine withPole_calm (fun c => ?_) fun _ => rests
  rw [c] at rests
  exact absurd rests (by decide)

theorem endOperation_calm (p : Pole) (close : Bool) (v : Verdict) (s : State) : s.Calm (endOperation p close v s) := by
  cases v with
  | goesOn => exact .refl s
  | completes o =>
    have ended := withPole_finish_calm s p (s.poleRec p) o
    cases o <;> exact ⟨ended.close, ended.load⟩
  | fails =>
    have ended := withPole_finish_calm s p { s.poleRec p with failed := true } .failed
    exact ⟨ended.close, ended.load⟩

/-- R72: a trip order begins no close. -/
theorem PoleRecord.order_not_close (r : PoleRecord) (b : Bank) (now : Nat) : (r.order b now).1.mech ≠ .closePulse := by
  unfold PoleRecord.order
  cases hm : r.mech <;> dsimp only
  case idle | failed => split <;> simp_all [PoleRecord.beginTrip, PoleRecord.tripPulse]
  case closePulse | closeWait => simp [PoleRecord.beginTrip, PoleRecord.tripPulse]
  all_goals simp [hm]

/-- R72, R87: an order ends a running test before its coil is energised. -/
theorem orderTrip_calm (p : Pole) (s : State) : s.Calm (orderTrip p s).1 := by
  rw [orderTrip_eq]
  refine ⟨fun q c => ?_, fun _ on => ?_⟩
  · by_cases same : q = p
    · subst same
      rw [State.poleRec_withPole_same] at c
      exact absurd c ((s.poleRec q).order_not_close _ _)
    · rwa [State.poleRec_withPole_other _ _ _ _ same] at c
  · rw [State.withPole_batt, tripNotice_test] at on
    cases on

theorem orderTrips_calm (m : PoleMask) (s : State) : s.Calm (orderTrips m s).1 := by
  rw [orderTrips_eq_each]
  generalize [Pole.a, .b, .c] = ps
  induction ps generalizing s with
  | nil => exact .refl s
  | cons p ps ih =>
    unfold orderEach
    split
    · exact (orderTrip_calm p s).trans (ih _)
    · exact ih s

theorem takePosition_calm (p : Pole) (x : Position) (s : State) : s.Calm (takePosition p x s).1 := by
  have placed : s.Calm (s.withPole p { s.poleRec p with position := x, discovered := true }) := withPole_calm id id
  unfold takePosition
  dsimp only
  split
  · dsimp only
    split
    · exact ⟨placed.close, placed.load⟩
    · exact placed
  · exact placed.trans (endOperation_calm ..)

theorem missedAttempt_calm {p : Pole} {s : State} (moving : (s.poleRec p).tripping) : s.Calm (missedAttempt p s).1 := by
  unfold missedAttempt
  dsimp only
  split
  · refine withPole_calm nofun fun rests => ?_
    obtain h | h | h := moving <;> rw [h] at rests <;> exact absurd rests (by decide)
  · exact endOperation_calm p false .fails s

theorem tripPulseEnds_calm (p : Pole) (s : State) : s.Calm (tripPulseEnds p s).1 := by
  unfold tripPulseEnds
  dsimp only
  split
  case isTrue => exact .refl s
  case isFalse pulse =>
    rw [ne_eq, not_not] at pulse
    split
    · exact endOperation_calm ..
    · split
      · exact missedAttempt_calm (.inl pulse)
      · exact withPole_calm nofun fun rests => absurd (pulse ▸ rests) (by decide)

theorem tripWindowExpires_calm (p : Pole) (s : State) : s.Calm (tripWindowExpires p s).1 := by
  unfold tripWindowExpires
  dsimp only
  split
  · exact withPole_calm id id
  case h_2 wait => exact missedAttempt_calm (.inr (.inl wait))
  · exact .refl s

theorem gapEnds_calm (p : Pole) (s : State) : s.Calm (gapEnds p s) := by
  unfold gapEnds
  dsimp only
  split
  case isTrue retry => exact withPole_calm nofun fun rests => absurd (retry ▸ rests) (by decide)
  case isFalse => exact .refl s

theorem closePulseEnds_calm (p : Pole) (s : State) : s.Calm (closePulseEnds p s).1 := by
  unfold closePulseEnds
  dsimp only
  split
  case isTrue => exact .refl s
  case isFalse pulse =>
    rw [ne_eq, not_not] at pulse
    split
    · exact endOperation_calm p true (.completes .success) s
    · split
      · exact endOperation_calm p true .fails s
      · exact withPole_calm nofun fun rests => absurd (pulse ▸ rests) (by decide)

theorem closeWindowExpires_calm (p : Pole) (s : State) : s.Calm (closeWindowExpires p s).1 := by
  unfold closeWindowExpires
  dsimp only
  split
  · exact withPole_calm id id
  · exact endOperation_calm p true .fails s
  · exact .refl s

/-! ## The Sequence Controller -/

@[simp] theorem raise_rig (k : EventKind) (b : List Byte) (s : State) : (raise k b s).rig = s.rig := rfl
@[simp] theorem complete_rig (r : CmdRef) (a : Answer) (s : State) : (complete r a s).rig = s.rig := rfl
@[simp] theorem withSeq_rig (s : State) (q : Sequence) : (s.withSeq q).rig = s.rig := rfl
@[simp] theorem enterLockout_rig (c : LockoutCause) (o : FaultOutcome) (s : State) :
    (enterLockout c o s).rig = s.rig := rfl
@[simp] theorem cancelWarning_rig (x : Reason) (s : State) : (cancelWarning x s).rig = s.rig := rfl

@[simp] theorem raiseTrip_rig (m : PoleMask) (n : Nat) (r : Half) (e : ElementSet) (c : Option Nat) (s : State) :
    (raiseTrip m n r e c s).rig = s.rig := by
  cases c <;> rfl

@[simp] theorem reportTrip_rig (s : State) : (reportTrip s).rig = s.rig := by
  unfold reportTrip
  split
  · rfl
  · exact raiseTrip_rig ..

@[simp] theorem handCloseOutcome_rig (o : CloseOutcome) (s : State) : (handCloseOutcome o s).rig = s.rig := by
  obtain ⟨-, -, poles, batt, -⟩ := handCloseOutcome_blocks o s
  exact rig_congr (by rw [poles]) (by rw [batt])

@[simp] theorem closingEnds_rig (s : State) : (closingEnds s).rig = s.rig := by
  unfold closingEnds
  split <;> simp

theorem trippingEnds_calm (s : State) : s.Calm (trippingEnds s).1 := by
  unfold trippingEnds
  dsimp only
  split
  · exact (orderTrips_calm _ _).after rfl
  · split <;> exact .of_rig (reportTrip_rig s)

theorem endIfSettled_calm (s : State) : s.Calm (endIfSettled s).1 := by
  unfold endIfSettled
  split
  · exact trippingEnds_calm s
  · exact .refl s

@[simp] theorem tripCompleted_rig (p : Pole) (o : OpOutcome) (s : State) : (tripCompleted p o s).rig = s.rig := by
  unfold tripCompleted
  dsimp only
  split
  · rfl
  · split
    · rw [raiseMaxima_eq]
      rfl
    · rfl

@[simp] theorem operatorTripsTake_rig (p : Pole) (o : OpOutcome) (s : State) :
    (operatorTripsTake p o s).rig = s.rig := by
  rw [operatorTripsTake_eq]
  rfl

@[simp] theorem lockoutTripDone_rig (s : State) : (lockoutTripDone s).rig = s.rig := by
  rw [lockoutTripDone_eq]
  rfl

theorem takeCompletion_calm (c : Completion) (s : State) : s.Calm (takeCompletion c s).1 := by
  unfold takeCompletion
  split
  · unfold takeCloseCompletion
    split
    · exact .refl s
    · dsimp only
      split
      · split
        · exact .of_rig (closingEnds_rig _)
        · exact .of_rig rfl
      · exact (endIfSettled_calm _).after (handCloseOutcome_rig ..)
  · exact (endIfSettled_calm _).after (by simp)

theorem settle_calm (n : Nat) (l : List Completion) (s : State) : s.Calm (settle n l s) := by
  induction n generalizing l s with
  | zero => exact .refl s
  | succ n ih =>
    cases l with
    | nil => exact .refl s
    | cons c rest => exact (takeCompletion_calm c s).trans (ih _ _)

theorem settled_calm {s : State} {x : State × List Completion} (h : s.Calm x.1) : s.Calm (settled x) :=
  h.trans (settle_calm ..)

/-- What a mark of the changed blocks keeps is calm where the operation under it is. -/
theorem onlySequence_calm {s t : State} (h : s.Calm t) : s.Calm (s.onlySequence t) := ⟨h.close, h.load⟩

theorem poleEvent_calm {f : State → State × List Completion} {s : State} (h : s.Calm (f s).1) :
    s.Calm (poleEvent f s) :=
  onlySequence_calm (settled_calm h)

theorem orderFault_calm (m : PoleMask) (s : State) : s.Calm (orderFault m s).1 := (orderTrips_calm _ _).after rfl

@[simp] theorem raiseMaxima_rig (s : State) : (raiseMaxima s).rig = s.rig := by
  rw [raiseMaxima_eq]
  rfl

@[simp] theorem recordSignal_rig (e : ElementSet) (s : State) : (recordSignal e s).rig = s.rig := raiseMaxima_rig _

theorem beginShot_calm (n : Nat) (e : ElementSet) (c : Option EndCause) (s : State) :
    s.Calm (beginShot n e c s).1 := (orderFault_calm _ _).after rfl

theorem takeSignal_calm (e : ElementSet) (s : State) : s.Calm (takeSignal e s).1 := by
  have shot : ∀ n c (u : State), u.rig = s.rig → s.Calm (beginShot n e c u).1 :=
    fun n c u same => (beginShot_calm n e c u).after same
  have order : ∀ m (u : State), u.rig = s.rig → s.Calm (orderFault m u).1 :=
    fun m u same => (orderFault_calm m u).after same
  have joined : (joinElements e (recordSignal e s)).rig = s.rig := recordSignal_rig e s
  unfold takeSignal
  cases s.seq.state with
  | reset => exact shot _ _ (startRecord 1 e s) rfl
  | tripping => exact order _ _ joined
  | deadTime => exact order _ (State.withSeq (joinElements e (recordSignal e s)) _) joined
  | closing =>
    simp only [signalInClosing]
    split
    · exact shot _ _ (startRecord 1 e s) rfl
    · exact shot _ _ _ (recordSignal_rig e s)
  | reclaim =>
    refine shot _ _ _ ?_
    split
    · exact recordSignal_rig e s
    · rfl
  | lockout => exact order _ (joinElements e s) rfl

theorem operationSignal_calm (e : ElementSet) (s : State) : s.Calm (operationSignal e s) :=
  onlySequence_calm ((settled_calm (takeSignal_calm e s)).trans (.of_rig rfl))

theorem operatorTrip_calm (c : Option CmdRef) (o : Option PortId) (m : PoleMask) (s : State) :
    s.Calm (operatorTrip c o m s) :=
  onlySequence_calm (settled_calm ((orderTrips_calm _ s).trans (.of_rig rfl)))

@[simp] theorem sequenceTakesHold_rig (k : Nat) (m : PoleMask) (s : State) :
    (sequenceTakesHold k m s).rig = s.rig := by
  rw [sequenceTakesHold_blocks]
  rfl

@[simp] theorem decideIfDiscovered_rig (s : State) : (decideIfDiscovered s).rig = s.rig := by
  unfold decideIfDiscovered startDecision
  split
  · dsimp only
    split
    · rfl
    · split <;> rfl
  · rfl

end Sys2Proof.Machine
end

section
/-! PROOFS. The rig (pole records, and whether a test runs) under reports, the Line Unit, the store and the banks; the
load test's start (R117, R118). -/

namespace Sys2Proof.Machine

/-! ## Reports, answers and the Line Unit leave the rig alone -/

@[simp] theorem selectionIfOpen_rig (s : State) : (selectionIfOpen s).rig = s.rig := by
  rw [selectionIfOpen_blocks]
  rfl

@[simp] theorem frameEnded_rig (x : FrameTag) (s : State) : (frameEnded x s).rig = s.rig := by
  unfold frameEnded
  split
  · rfl
  · rfl
  · unfold reportTransmitted
    split
    · split <;> rfl
    · rfl
  · rfl
  · rfl

@[simp] theorem reportDropped_rig (l : List OutFrame) (s : State) : (reportDropped l s).rig = s.rig := by
  induction l generalizing s with
  | nil => rfl
  | cons f rest ih => exact (ih _).trans (frameEnded_rig _ _)

@[simp] theorem raiseLineEvent_rig (i : MaskInput) (x : Bool) (s : State) : (raiseLineEvent i x s).rig = s.rig := by
  unfold raiseLineEvent
  split <;> rfl

@[simp] theorem lineEffect_rig (i : MaskInput) (x : Bool) (s : State) : (lineEffect i x s).rig = s.rig := by
  unfold lineEffect
  split <;> exact raiseLineEvent_rig _ _ _

@[simp] theorem lineTakes_rig (i : MaskInput) (x : Accepted) (s : State) : (lineTakes i x s).rig = s.rig := by
  unfold lineTakes
  split <;> simp

@[simp] theorem setMask_rig (i : MaskInput) (on : Bool) (s : State) : (setMask i on s).rig = s.rig := by
  unfold setMask
  dsimp only
  split
  · exact lineEffect_rig _ _ _
  · rfl

@[simp] theorem setMasks_rig (m : PerMask Bool) (s : State) : (setMasks m s).rig = s.rig := by
  simp [setMasks]

/-! ## The store and the banks -/

@[simp] theorem requestWrite_rig (i : ImageId) (s : State) : (requestWrite i s).rig = s.rig := by
  unfold requestWrite
  split
  · cases i <;> rfl
  · split <;> rfl

@[simp] theorem writeHolds_rig (c : Option CmdRef) (k : Nat) (s : State) : (writeHolds c k s).rig = s.rig := by
  unfold writeHolds
  split
  · rfl
  · rw [requestWrite_rig]
    cases c <;> rfl

@[simp] theorem placeHold_rig (c : Option CmdRef) (k : Nat) (h : Hold) (s : State) :
    (placeHold c k h s).rig = s.rig := by
  have told := s.holdTold_told k h
  rw [placeHold_eq, writeHolds_rig]
  exact rig_congr (by rw [told.poles]) (by rw [told.batt])

@[simp] theorem removeHold_rig (c : Option CmdRef) (k : Nat) (h : Hold) (s : State) :
    (removeHold c k h s).rig = s.rig := writeHolds_rig ..

@[simp] theorem writeComplete_rig (s : State) : (writeComplete s).rig = s.rig := by
  have answers : ∀ (l : List HoldWaiter) (t : State), (answerHoldWaiters l t).rig = t.rig := by
    intro l
    induction l with
    | nil => exact fun _ => rfl
    | cons w rest ih => exact fun t => ih _
  have told : ∀ i (t : State), (tellWritten i t).rig = t.rig := by
    intro i t
    cases i with
    | settings =>
      show (tellSettingsWritten t).rig = _
      unfold tellSettingsWritten
      split <;> rfl
    | hold => exact answers _ _
  have next : ∀ t : State, (startNextWrite t).rig = t.rig := by
    intro t
    unfold startNextWrite
    split
    case h_1 i rest _ => cases i <;> rfl
    case h_2 => rfl
  unfold writeComplete
  split
  · exact (next _).trans (told _ _)
  · rfl

/-- R20: a new bank leaves a running test. -/
@[simp] theorem takeBank_rig (old : Bank) (s : State) : (takeBank old s).rig = s.rig := by
  rw [takeBank_blocks, battery_takes]
  rfl

@[simp] theorem swapBanks_rig (r : CmdRef) (s : State) : (swapBanks r s).rig = s.rig := by
  unfold swapBanks
  dsimp only
  rw [raise_rig, requestWrite_rig]
  refine (setMasks_rig _ _).trans ?_
  exact takeBank_rig _ { s with store := s.store.exchange }

/-! ## The load test -/

/-- R117, R118: a test starts with every pole IDLE. -/
theorem startTest_calm {s : State} (o : TestOrigin) (bar : testBar s = none) : s.Calm (startTest o s) := by
  have all : ∀ x ∈ testConditions s, (!x) = false := by
    unfold testBar at bar
    exact List.findIdx?_eq_none_iff.mp (Option.map_eq_none_iff.mp bar)
  have idle : (!s.poles.pole.toList.all fun r => decide (r.mech = .idle)) = false :=
    all _ (by simp [testConditions])
  simp only [PerPole.toList, List.all_cons, List.all_nil, Bool.and_true, Bool.not_eq_false', Bool.and_eq_true,
    decide_eq_true_eq] at idle
  obtain ⟨a, b, c⟩ := idle
  refine ⟨fun p h => h, fun _ _ q => .inl ?_⟩
  cases q
  exacts [a, b, c]

theorem testDue_calm (s : State) : s.Calm (testDue s) := by
  unfold testDue
  split
  case isTrue may => exact startTest_calm _ (Option.isNone_iff_eq_none.mp may)
  case isFalse => exact .of_rig rfl

theorem dueTimeReached_calm (s : State) : s.Calm (dueTimeReached s) := by
  unfold dueTimeReached
  dsimp only
  split
  · exact .of_rig rfl
  · exact (testDue_calm { s with batt := { s.batt with nextDue := none } }).after rfl

theorem retryWaitEnds_calm (s : State) : s.Calm (retryWaitEnds s) :=
  (testDue_calm { s with batt := { s.batt with retryWait := none } }).after rfl

end Sys2Proof.Machine
end

section
/-! PROOFS. Guarded: a close begins through the gate alone (R84, R85, R87); the owners of the commands. -/

namespace Sys2Proof.Machine

/-! ## A close begins through the gate alone -/

/-- A close pulse begins on a pole only where the gate would let its close through, with no test then running; and a test load
that stood alone still does. -/
structure State.Guarded (s t : State) : Prop where
  close : ∀ p, (t.poleRec p).mech = .closePulse →
    (s.poleRec p).mech = .closePulse ∨ (s.admits p ∧ t.batt.test = none)
  load : s.loadAlone → t.loadAlone

theorem State.Calm.guarded {s t : State} (h : s.Calm t) : s.Guarded t := ⟨fun p c => .inl (h.close p c), h.load⟩

/-- What is guarded after a calm change that the gate does not judge. -/
theorem State.Guarded.after {s t u : State} (h : u.Guarded t) (calm : s.Calm u)
    (gate : ∀ m, gateQuery m u = gateQuery m s) : s.Guarded t := by
  refine ⟨fun p c => (h.close p c).imp (calm.close p) ?_, fun alone => h.load (calm.load alone)⟩
  rintro ⟨⟨m, on, judged⟩, none⟩
  exact ⟨⟨m, on, (gate m).symm.trans judged⟩, none⟩

/-- What is guarded stays so after a change outside the records and the test. -/
theorem State.Guarded.before {s t u : State} (h : s.Guarded t) (same : u.rig = t.rig) : s.Guarded u := by
  have calm : t.Calm u := .of_rig same
  have test : u.batt.test.isSome = t.batt.test.isSome := congrArg Prod.snd same
  refine ⟨fun p c => (h.close p (calm.close p c)).imp_right fun ⟨admits, stopped⟩ => ⟨admits, ?_⟩,
    fun alone => calm.load (h.load alone)⟩
  rw [stopped] at test
  exact Option.isSome_eq_false_iff.mp test |> Option.isNone_iff_eq_none.mp

theorem State.Guarded.of_rig {s t : State} (same : t.rig = s.rig) : s.Guarded t := (State.Calm.of_rig same).guarded

/-- R84, R85, R87: a close request ends a running test, and begins the pulses of a mask that the gate admits. -/
theorem closeRequest_guarded (m : PoleMask) (s : State) : s.Guarded (closeRequest m s).1 := by
  cases judged : gateQuery m s with
  | some g =>
    rw [closeRequest_refused judged]
    exact (abortTest_calm .close s).guarded
  | none =>
    rw [closeRequest_admitted judged]
    have test : (beginCloses m (abortTest .close s)).batt.test = none := abortTest_test .close s
    refine ⟨fun p c => ?_, fun _ on => ?_⟩
    · rw [beginCloses_pole] at c
      split at c
      case isTrue on => exact .inr ⟨⟨m, on, judged⟩, test⟩
      case isFalse => exact .inl c
    · rw [test] at on
      cases on

/-- R53: the close at the end of the dead time, and what the sequence does with its answer. -/
theorem deadTimeEnds_guarded (s : State) : s.Guarded (deadTimeEnds s) := by
  have asked : s.Guarded (closeRequest s.seq.ctx.reclose (s.withSeq { s.seq with deadTimer := none })).1 :=
    (closeRequest_guarded _ (s.withSeq { s.seq with deadTimer := none })).after (.of_rig rfl) fun _ => rfl
  unfold deadTimeEnds
  refine State.Guarded.before asked ?_
  dsimp only
  split <;> rfl

theorem warningEnds_guarded (s : State) : s.Guarded (warningEnds s) := by
  have asked : ∀ (m : PoleMask) (x : CloseRecord),
      s.Guarded (closeRequest m { s with holds := { s.holds with close := some x } }).1 := fun m x =>
    (closeRequest_guarded m { s with holds := { s.holds with close := some x } }).after (.of_rig rfl) fun _ => rfl
  unfold warningEnds
  split
  case h_1 r _ =>
    split
    · dsimp only
      split
      · refine (asked r.mask { r with timer := none }).before ?_
        rfl
      · refine (asked r.mask { r with timer := none }).before ?_
        rfl
    · exact (State.Calm.refl s).guarded
  case h_2 => exact (State.Calm.refl s).guarded

theorem closeTaken_guarded (r : CmdRef) (n : Half) (m : PoleMask) (s : State) : s.Guarded (closeTaken r n m s) := by
  unfold closeTaken
  dsimp only
  split
  case isTrue =>
    refine (warningEnds_guarded _).after ((abortTest_calm .close s).trans (.of_rig rfl)) fun k => ?_
    exact (gateQuery_abortTest k .close s).symm ▸ rfl
  case isFalse =>
    refine (abortTest_calm .close s).guarded.before ?_
    rfl

theorem closeCommandTaken_guarded (n : Half) (m : Byte) (r : CmdRef) (s : State) :
    s.Guarded (closeCommandTaken n m r s) := by
  unfold closeCommandTaken
  split
  · split
    · exact .of_rig rfl
    · exact closeTaken_guarded ..
  · exact .of_rig rfl

/-! ## From the owners' work to the commands -/

/-- Every next state of an outcome is guarded. -/
def State.GuardedAlong (s : State) (o : Host.Outcome State Fault Refusal) : Prop := ∀ t, o = .next t → s.Guarded t

theorem run_guarded {s : State} {f : State → State} (h : s.Guarded (f s)) : s.GuardedAlong (run s f) := by
  rintro t ⟨⟩
  split
  · exact h
  · exact (State.Calm.refl s).guarded

theorem run_calm {s : State} {f : State → State} (h : s.Calm (f s)) : s.GuardedAlong (run s f) := run_guarded h.guarded

theorem run_rig {s : State} {f : State → State} (h : (f s).rig = s.rig) : s.GuardedAlong (run s f) :=
  run_calm (.of_rig h)

theorem arrive_guarded {p : RunPort} {n : Nat} {f : State → State} {s : State} (h : ∀ t : State, t.Guarded (f t)) :
    s.Guarded (arrive p n f s) := by
  unfold arrive
  split
  · exact .of_rig rfl
  · exact (h (s.countAccepted p)).after (.of_rig rfl) fun _ => rfl

theorem dispatch_guarded {p : PortId} {n : Half} {c : CommandCode} {owner : CmdRef → State → State} {s : State}
    (h : ∀ r (t : State), t.Guarded (owner r t)) : s.Guarded (dispatch p n c owner s) := by
  unfold dispatch
  split
  · exact .of_rig rfl
  · split
    · exact .of_rig rfl
    · exact (h (takeInto p n c s).2 (takeInto p n c s).1).after (.of_rig rfl) fun _ => rfl

theorem command_guarded {p : PortId} {n : Half} {c : CommandCode} {owner : CmdRef → State → State} {s : State}
    (h : ∀ r (t : State), t.Guarded (owner r t)) : s.GuardedAlong (run s (command p n c owner)) :=
  run_guarded (arrive_guarded fun _ => dispatch_guarded h)

theorem command_calm {p : PortId} {n : Half} {c : CommandCode} {owner : CmdRef → State → State} {s : State}
    (h : ∀ r (t : State), t.Calm (owner r t)) : s.GuardedAlong (run s (command p n c owner)) :=
  command_guarded fun r t => (h r t).guarded

theorem command_rig {p : PortId} {n : Half} {c : CommandCode} {owner : CmdRef → State → State} {s : State}
    (h : ∀ r (t : State), (owner r t).rig = t.rig) : s.GuardedAlong (run s (command p n c owner)) :=
  command_calm fun r t => .of_rig (h r t)

theorem onExpiry_guarded {f : State → Timer} {g : State → State} {s : State} (h : ∀ t : State, t.Guarded (g t)) :
    s.GuardedAlong (run s (onExpiry f g)) := by
  refine run_guarded ?_
  unfold onExpiry
  split
  · exact h s
  · exact (State.Calm.refl s).guarded

theorem onExpiry_calm {f : State → Timer} {g : State → State} {s : State} (h : ∀ t : State, t.Calm (g t)) :
    s.GuardedAlong (run s (onExpiry f g)) := onExpiry_guarded fun t => (h t).guarded

theorem onExpiry_rig {f : State → Timer} {g : State → State} {s : State} (h : ∀ t : State, (g t).rig = t.rig) :
    s.GuardedAlong (run s (onExpiry f g)) := onExpiry_calm fun t => .of_rig (h t)

/-! ## The owners -/

theorem tripTaken_calm (m : Byte) (r : CmdRef) (s : State) : s.Calm (tripTaken m r s) := by
  unfold tripTaken
  split
  · exact operatorTrip_calm ..
  · exact .of_rig rfl

theorem abortTaken_calm (p : PortId) (n : Half) (s : State) : s.Calm (abortTaken p n s) := by
  have request : ∀ {e : Executing} {x : State × List Byte}, abortRequest e s = some x → s.Calm x.1 := by
    intro e x hx
    unfold abortRequest at hx
    split at hx
    · cases hx
      exact .refl s
    · cases hx
      exact abortTest_calm .abort s
    · split at hx
      · split at hx
        · cases hx
          exact .of_rig rfl
        · cases hx
      · cases hx
    · cases hx
  unfold abortTaken
  split
  · exact .of_rig rfl
  · split
    case h_1 he => exact (request he).trans (.of_rig rfl)
    case h_2 => exact .of_rig rfl

theorem batteryTestTaken_calm (n : Half) (r : CmdRef) (s : State) : s.Calm (batteryTestTaken n r s) := by
  unfold batteryTestTaken
  split
  · exact .of_rig rfl
  · split
    case h_1 => exact .of_rig rfl
    case h_2 bar => exact startTest_calm _ bar

theorem PoleRecord.clearFailed_mech (r : PoleRecord) :
    r.clearFailed.mech = r.mech ∨ r.mech = .failed ∧ r.clearFailed.mech = .idle := by
  unfold PoleRecord.clearFailed
  split
  case isTrue failed => exact .inr ⟨failed, rfl⟩
  case isFalse => exact .inl rfl

/-- R80: a pole in FAILED becomes IDLE, and every other stays as it is. -/
theorem mechResetTaken_calm (r : CmdRef) (s : State) : s.Calm (mechResetTaken r s) := by
  unfold mechResetTaken
  split
  · exact .of_rig rfl
  · have cleared : ∀ q, (s.poles.pole.map PoleRecord.clearFailed).get q = (s.poleRec q).clearFailed := by
      intro q
      cases q <;> rfl
    refine ⟨fun q c => ?_, fun alone on q => ?_⟩
    · have c : ((s.poles.pole.map PoleRecord.clearFailed).get q).mech = .closePulse := c
      rw [cleared] at c
      obtain same | ⟨-, idle⟩ := (s.poleRec q).clearFailed_mech
      · exact same.symm.trans c
      · cases idle.symm.trans c
    · show ((s.poles.pole.map PoleRecord.clearFailed).get q).mech = .idle ∨
        ((s.poles.pole.map PoleRecord.clearFailed).get q).mech = .failed
      rw [cleared]
      obtain same | ⟨-, idle⟩ := (s.poleRec q).clearFailed_mech
      · rw [same]
        exact alone on q
      · exact .inl idle

theorem holdSetTaken_rig (tag : Half) (x y : Byte) (r : CmdRef) (s : State) :
    (holdSetTaken tag x y r s).rig = s.rig := by
  unfold holdSetTaken
  split
  · split
    · rfl
    · split
      · exact placeHold_rig ..
      · rfl
  · rfl

theorem holdClearTaken_rig (tag : Half) (r : CmdRef) (s : State) : (holdClearTaken tag r s).rig = s.rig := by
  unfold holdClearTaken
  split
  · exact removeHold_rig ..
  · rfl

theorem inputMaskTaken_rig (a : PerMask Byte) (r : CmdRef) (s : State) : (inputMaskTaken a r s).rig = s.rig := by
  unfold inputMaskTaken
  split
  · exact setMasks_rig _ _
  · rfl

theorem bankSwapTaken_rig (r : CmdRef) (s : State) : (bankSwapTaken r s).rig = s.rig := by
  unfold bankSwapTaken
  split
  · rfl
  · exact swapBanks_rig ..

theorem restartTaken_rig (r : CmdRef) (s : State) : (restartTaken r s).rig = s.rig := by
  have banks : ∀ t : State, (bankRestarts t).rig = t.rig := by
    intro t
    unfold bankRestarts
    dsimp only
    rw [takeBank_rig]
    cases t.store.reloaded.2 <;> rfl
  have sequenced : ∀ t : State, (sequenceRestarts t).rig = t.rig := by
    intro t
    unfold sequenceRestarts
    dsimp only
    split
    · rfl
    · split <;> rfl
  unfold restartTaken
  split
  · rfl
  · unfold warmRestart
    dsimp only
    refine Eq.trans ?_ (banks (contextsRestart r s))
    exact (sequenced _).trans (setMasks_rig _ _)

theorem tableLoadTaken_rig (t r : Byte) (l : List FieldPair) (c : CmdRef) (s : State) :
    (tableLoadTaken t r l c s).rig = s.rig := by
  unfold tableLoadTaken
  split
  · rfl
  · split <;> rfl

theorem tableReadTaken_rig (b t r x y : Byte) (c : CmdRef) (s : State) :
    (tableReadTaken b t r x y c s).rig = s.rig := by
  unfold tableReadTaken
  dsimp only
  split <;> split <;> rfl

theorem flagsTaken_rig (a : PerFlag Byte) (r : CmdRef) (s : State) : (flagsTaken a r s).rig = s.rig := by
  unfold flagsTaken
  split <;> rfl

theorem faultReadTaken_rig (m : Byte) (v : Half) (r : CmdRef) (s : State) : (faultReadTaken m v r s).rig = s.rig := by
  unfold faultReadTaken
  split <;> rfl

theorem bankCopyTaken_rig (c : CmdRef) (s : State) : (bankCopyTaken c s).rig = s.rig := by
  unfold bankCopyTaken
  split <;> rfl

theorem bankReleaseTaken_rig (c : CmdRef) (s : State) : (bankReleaseTaken c s).rig = s.rig := by
  unfold bankReleaseTaken
  split <;> rfl

@[simp] theorem assertShutdown_rig (s : State) : (assertShutdown s).rig = s.rig := by
  unfold assertShutdown
  split <;> rfl

theorem selectionPass_batt (s : State) : (selectionPass s).batt = s.batt := by
  unfold selectionPass
  split
  · rfl
  · split <;> rfl

/-- R148: the rig keeps only the test of what the Report Unit leaves in the battery record. -/
theorem reportAcked_rig (n : Half) (s : State) : (reportAcked n s).rig = s.rig := by
  have withdrawn : ∀ (e : ReportEntry) (t : State), (withdrawOf e t).batt = t.batt := by
    intro e t
    unfold withdrawOf withdrawHanded
    split
    · split <;> rfl
    · rfl
  have after : ∀ (e : ReportEntry) (t : State), (afterRemoval e t).batt = t.batt := by
    intro e t
    unfold afterRemoval enterIdle
    split
    · split
      · exact selectionPass_batt _
      · rfl
    · exact selectionPass_batt _
    · exact selectionPass_batt _
    · rfl
    · rfl
  have told : ∀ t : State, (assertShutdown t).batt.test = t.batt.test := by
    intro t
    unfold assertShutdown
    split <;> rfl
  unfold reportAcked
  split
  case h_1 => rfl
  case h_2 e _ =>
    refine rig_congr rfl ?_
    dsimp only [State.onlyBattery_batt]
    rw [after]
    split
    · rw [told, withdrawn]
    · rw [withdrawn]

theorem relayTaken_rig (p : PortId) (n : Half) (l : List Byte) (s : State) : (relayTaken p n l s).rig = s.rig := by
  unfold relayTaken
  split
  · rfl
  · split
    · rfl
    · split
      · rfl
      · split <;> rfl

/-- R38, R39: a frame's pickup ends a running test, its operation signal orders trips. -/
theorem measureTaken_calm (n : Half) (c : PerChannel Sample) (v : PerPole Sample) (s : State) :
    s.Calm (measureTaken n c v s) := by
  have pickup : ∀ (r : FrameResult) (t : State), t.Calm (handPickup n r t) := by
    intro r t
    unfold handPickup
    dsimp only
    split
    · split <;> exact (abortTest_calm .element t).trans (.of_rig rfl)
    · exact .refl t
  have exception : ∀ (r : FrameResult) (t : State), (handException r t).rig = t.rig := by
    intro r t
    unfold handException
    split
    · split <;> rfl
    · rfl
  have signal : ∀ (r : FrameResult) (t : State), t.Calm (handSignal r t) := by
    intro r t
    unfold handSignal
    split
    · exact .refl t
    · exact operationSignal_calm _ _
  have linked : (keepNumber n (restoreLink n s)).rig = s.rig := by
    unfold keepNumber restoreLink
    dsimp only
    split <;> rfl
  unfold measureTaken
  dsimp only
  generalize keepNumber n (restoreLink n s) = l at linked ⊢
  refine State.Calm.trans (t := handPickup n _ _) ?_ ((State.Calm.of_rig (exception _ _)).trans (signal _ _))
  have framed : s.Calm { l with prot := (frameOf n c v l).prot } := .of_rig linked
  exact framed.trans (pickup _ _)

end Sys2Proof.Machine
end

section
/-! PROOFS. What reaches the part from the cabinet, its timers and its supply, as the close coils and the test load
see it; then every command and every step (R84, R85, R121). -/

namespace Sys2Proof.Machine

/-! ## The battery under a reading, an AC level and a shutdown -/

theorem gradeTest_calm (s : State) : s.Calm (gradeTest s) := by
  refine .of_poles rfl fun on => ?_
  unfold gradeTest at on
  split at on
  case h_1 => exact on
  case h_2 x running => simp [running]

/-- R118: no reading begins a test. -/
theorem batteryTakesReading_test {v c t : Int} {s : State} (stopped : s.batt.test = none) :
    (batteryTakesReading v c t s).batt.test = none := by
  rw [batteryTakesReading_untested v c t stopped]
  obtain ⟨_, _, _, _, _, _, judged⟩ := judged_keeps s.store.active s.now (!s.batt.readingTaken)
    (s.batt.counted s.store.active v c t)
  rw [judged]
  exact stopped

theorem readingTaken_calm (v c : Int) (x : Half) (t : Int) (s : State) : s.Calm (readingTaken v c x t s) := by
  obtain ⟨batt, -, poles, -⟩ := readingTaken_blocks v c x t s
  refine .of_poles (by rw [poles]; rfl) fun on => ?_
  cases running : s.batt.test with
  | some y => rfl
  | none =>
    rw [batt, running] at on
    have tested : (batteryTakesReading v c t s).batt.test.isSome = true := on
    rw [batteryTakesReading_test running] at tested
    cases tested

/-- R110: no AC level begins a test. -/
theorem batteryTakesAc_calm (x : Bool) (s : State) : s.Calm (batteryTakesAc x s) := by
  refine .of_poles rfl fun on => ?_
  by_contra untested
  have stopped : s.batt.test = none := Option.not_isSome_iff_eq_none.mp untested
  have entered : ∀ b : Battery, b.test = none → (b.entry s.store.active).test = none := by
    intro b stop
    rw [entry_eq]
    exact stop
  have left : (batteryTakesAc x s).batt.test = none := by
    unfold batteryTakesAc
    dsimp only [State.onlyBattery_batt]
    split
    · exact entered _ stopped
    · exact stopped
    · exact stopped
    · exact stopped
    · exact abortTest_test _ _
    · exact stopped
    · exact stopped
  rw [left] at on
  cases on

/-! ## Accepted changes -/

theorem takeContacts_calm (p : Pole) (s : State) : s.Calm (takeContacts p s) := by
  unfold takeContacts
  dsimp only
  split
  · exact .refl s
  · exact (poleEvent_calm (takePosition_calm p _ s)).trans (.of_rig (decideIfDiscovered_rig _))

theorem takeLever_calm (x : Accepted) (s : State) : s.Calm (takeLever x s) := by
  have lever : (holdUnitTakesLever x.level s).rig = s.rig := by
    unfold holdUnitTakesLever
    dsimp only
    split
    · exact placeHold_rig ..
    · split
      · exact removeHold_rig ..
      · rfl
  exact .of_rig ((lineTakes_rig ..).trans lever)

/-- R60, R88: the handle's operator trip orders trips alone. -/
theorem takeManualTrip_calm (x : Accepted) (s : State) : s.Calm (takeManualTrip x s) := by
  unfold takeManualTrip
  dsimp only
  refine State.Calm.trans ?_ (.of_rig (lineTakes_rig ..))
  split
  · exact (operatorTrip_calm _ _ _ _).after rfl
  · exact .of_rig rfl

theorem takeAcPresent_calm (x : Accepted) (s : State) : s.Calm (takeAcPresent x s) :=
  (batteryTakesAc_calm x.level s).trans (.of_rig (lineTakes_rig ..))

theorem takeRadioReady_calm (x : Accepted) (s : State) : s.Calm (takeRadioReady x s) :=
  .of_rig ((lineTakes_rig ..).trans rfl)

/-- R173: the crew's detach ends the test that the crew commanded. -/
theorem detachCommand_calm (s : State) : s.Calm (detachCommand s) := by
  have close : (detachClose s).rig = s.rig := by
    unfold detachClose
    split
    · split <;> rfl
    · rfl
  unfold detachCommand
  split
  · exact .refl s
  · split
    · exact .of_rig rfl
    · refine (abortTest_calm .abort s).trans (.of_rig ?_)
      rfl
    · exact .of_rig close
    · exact .of_rig rfl
    · exact .of_rig rfl
    · exact .of_rig rfl

theorem takeCrewPresent_calm (x : Accepted) (s : State) : s.Calm (takeCrewPresent x s) := by
  have command : s.Calm (commandTakesCrew x.level s) := by
    unfold commandTakesCrew
    dsimp only
    split
    · exact .of_rig rfl
    · exact (detachCommand_calm _).after rfl
  have port : ∀ t : State, (portTakesCrew x.level t).rig = t.rig := by
    intro t
    unfold portTakesCrew
    split
    · rfl
    · exact reportDropped_rig _ _
  exact command.trans (.of_rig ((lineTakes_rig ..).trans (port _)))

section
variable (takes : Accepted → State → State)

theorem onChange_calm (h : ∀ x (t : State), t.Calm (takes x t)) (x : Option Accepted) (s : State) :
    s.Calm (onChange takes x s) := by
  cases x with
  | none => exact .refl s
  | some c => exact h c s

theorem changeCabinet_calm (h : ∀ x (t : State), t.Calm (takes x t)) (i : MaskInput) (level : Bool) (s : State) :
    s.Calm (changeCabinet i takes level s) := (onChange_calm takes h _ _).after rfl

end

theorem onContacts_calm (p : Pole) (c : Contacts (Option Accepted)) (s : State) : s.Calm (onContacts p c s) := by
  unfold onContacts
  split
  · exact takeContacts_calm p s
  · exact .refl s

theorem changeContacts_calm (p : Pole) (l : Contacts (Option Bool)) (s : State) : s.Calm (changeContacts p l s) :=
  (onContacts_calm _ _ _).after rfl

theorem takeDoor_calm (x : Accepted) (s : State) : s.Calm (takeDoor x s) := .of_rig (lineTakes_rig ..)

theorem handOn_calm (c : Changes) (s : State) : s.Calm (handOn c s) := by
  have contacts := ((onContacts_calm .a c.aux.a s).trans (onContacts_calm .b c.aux.b _)).trans
    (onContacts_calm .c c.aux.c _)
  have levers := (contacts.trans (onChange_calm _ takeLever_calm c.cabinet.holdLever _)).trans
    (onChange_calm _ takeManualTrip_calm c.cabinet.manualTrip _)
  have door := levers.trans (onChange_calm _ takeDoor_calm c.cabinet.door _)
  have supply := door.trans (onChange_calm _ takeAcPresent_calm c.cabinet.acPresent _)
  have crew := supply.trans (onChange_calm _ takeCrewPresent_calm c.cabinet.crewPresent _)
  exact crew.trans (onChange_calm _ takeRadioReady_calm c.cabinet.radioReady _)

end Sys2Proof.Machine
end

section
/-! PROOFS. Every command and every step guards the close coils and keeps the test load alone (R84, R85, R121). -/

namespace Sys2Proof.Machine

/-! ## Ends of transmission, timers and the supply -/

theorem radioTxEnds_rig (s : State) : (radioTxEnds s).rig = s.rig := by
  unfold radioTxEnds
  split
  · exact frameEnded_rig _ _
  · rfl

theorem crewTxEnds_rig (s : State) : (crewTxEnds s).rig = s.rig := by
  unfold crewTxEnds
  split
  · exact frameEnded_rig _ _
  · rfl

/-- R109: the entry rule leaves the test alone. -/
theorem faultClears_rig (s : State) : (faultClears s).rig = s.rig := by
  unfold faultClears
  rw [entry_eq]
  rfl

theorem poleRec_initial (p : Pole) : PoleDrive.initial.pole.get p = .initial := by
  cases p <;> rfl

/-- R187: a cold start finds every coil off and no test. -/
theorem coldState_calm (s : State) (powered : Bool) : s.Calm (coldState s powered) := by
  refine ⟨fun p c => ?_, fun _ on => ?_⟩
  · have c : (PoleDrive.initial.pole.get p).mech = .closePulse := c
    rw [poleRec_initial] at c
    cases c
  · cases on

theorem powerUp_calm (s : State) : s.Calm (powerUp s) := by
  have holds : ∀ t : State, (restoreHolds t).rig = t.rig := by
    intro t
    unfold restoreHolds
    split
    · rfl
    · exact requestWrite_rig _ _
  have defaults : ∀ f (t : State), (raiseDefaults .powerOn f t).rig = t.rig := by
    intro f t
    cases f <;> rfl
  unfold powerUp
  dsimp only
  exact (coldState_calm s true).trans (.of_rig ((raise_rig ..).trans ((holds _).trans (defaults _ _))))

/-! ## Every command -/

theorem execMeasure_guarded (n : Half) (c : PerChannel Sample) (v : PerPole Sample) (s : State) :
    s.GuardedAlong (execMeasure n c v s) :=
  run_guarded (arrive_guarded fun t => (measureTaken_calm n c v t).guarded)

theorem execRelayReply_guarded (n : Half) (l : List Byte) (s : State) : s.GuardedAlong (execRelayReply n l s) := by
  refine run_guarded ?_
  split
  · exact arrive_guarded fun _ => .of_rig rfl
  · exact .of_rig rfl

theorem execRelay_guarded (p : PortId) (n : Half) (l : List Byte) (s : State) : s.GuardedAlong (execRelay p n l s) :=
  run_guarded (arrive_guarded fun t => .of_rig (relayTaken_rig p n l t))

theorem execReportAck_guarded (n : Half) (s : State) : s.GuardedAlong (execReportAck n s) :=
  run_guarded (arrive_guarded fun t => .of_rig (reportAcked_rig n t))

theorem execTableLoad_guarded (p : PortId) (n : Half) (t r : Byte) (l : List FieldPair) (s : State) :
    s.GuardedAlong (execTableLoad p n t r l s) := by
  refine run_guarded (arrive_guarded fun u => ?_)
  split
  · exact .of_rig rfl
  · exact dispatch_guarded fun c v => .of_rig (tableLoadTaken_rig t r l c v)

/-- The commands that a COMMAND frame carries. -/
theorem inboundCommand_guarded (i : Instr) {other : Host.Outcome State Fault Refusal} (s : State)
    (h : s.GuardedAlong other) : s.GuardedAlong (inboundCommand i other s) := by
  cases i with
  | status p n => exact command_rig fun _ _ => rfl
  | eventsRead p n => exact command_rig fun _ _ => rfl
  | tableLoad p n t r l => exact execTableLoad_guarded p n t r l s
  | tableRead p n b t r x y => exact command_rig (tableReadTaken_rig b t r x y)
  | bankCopy p n => exact command_rig bankCopyTaken_rig
  | bankSwap p n => exact command_rig bankSwapTaken_rig
  | bankRelease p n => exact command_rig bankReleaseTaken_rig
  | trip p n m => exact command_calm (tripTaken_calm m)
  | close p n m => exact command_guarded (closeCommandTaken_guarded n m)
  | abort p n => exact run_guarded (arrive_guarded fun t => (abortTaken_calm p n t).guarded)
  | holdSet p n t x y => exact command_rig (holdSetTaken_rig t x y)
  | holdClear p n t => exact command_rig (holdClearTaken_rig t)
  | holdList p n => exact command_rig fun _ _ => rfl
  | flags p n a => exact command_rig (flagsTaken_rig a)
  | faultRead p n m v => exact command_rig (faultReadTaken_rig m v)
  | exceptionRead p n => exact command_rig fun _ _ => rfl
  | batteryRead p n => exact command_rig fun _ _ => rfl
  | batteryTest p n => exact command_calm (batteryTestTaken_calm n)
  | mechReset p n => exact command_calm mechResetTaken_calm
  | timeSet p n t => exact command_rig fun _ _ => rfl
  | inputMask p n a => exact command_rig (inputMaskTaken_rig a)
  | restart p n => exact command_rig restartTaken_rig
  | _ => exact h

theorem execBadCommand_guarded (p : PortId) (n : Half) (l : List Byte) (s : State) :
    s.GuardedAlong (execBadCommand p n l s) := by
  have bad : s.GuardedAlong (run s (arrive p.run l.length (badCommandTaken p n l))) :=
    run_guarded (arrive_guarded fun _ => .of_rig rfl)
  unfold execBadCommand
  dsimp only
  split
  · exact inboundCommand_guarded _ s bad
  · exact bad

theorem execRunDiscarded_guarded (p : RunPort) (l : List Byte) (s : State) :
    s.GuardedAlong (execRunDiscarded p l s) := by
  have discarded : s.GuardedAlong (run s (State.countDiscarded · p)) := run_rig rfl
  unfold execRunDiscarded
  dsimp only
  split
  · exact discarded
  · exact execMeasure_guarded _ _ _ s
  · exact execRelayReply_guarded _ _ s
  · exact execRelay_guarded _ _ _ s
  · exact execReportAck_guarded _ s
  · exact execBadCommand_guarded _ _ _ s
  · exact inboundCommand_guarded _ s discarded

theorem execLineSample_guarded (x : Inputs Bool) (s : State) : s.GuardedAlong (execLineSample x s) := by
  refine run_calm ?_
  dsimp only
  split
  · exact (handOn_calm _ _).after rfl
  · exact .refl s

theorem execCabinetReading_guarded (v c : Int) (x : Half) (t : Int) (s : State) :
    s.GuardedAlong (execCabinetReading v c x t s) := by
  refine run_calm ?_
  dsimp only
  split
  · exact (readingTaken_calm v c x t { s with paced := { s.paced with read := true } }).after rfl
  · exact .refl s

/-- Every command begins its closes through the gate, and starts the test load alone. -/
theorem exec_guarded (i : Instr) (s : State) : s.GuardedAlong (exec i s) := by
  have inbound : exec i s = inboundCommand i (.next s) s → s.GuardedAlong (exec i s) := by
    intro hi
    rw [hi]
    refine inboundCommand_guarded i s ?_
    rintro t ⟨⟩
    exact .of_rig rfl
  cases i with
  | powerOn =>
    rintro t ⟨⟩
    exact (powerUp_calm s).guarded
  | measure n c v => exact execMeasure_guarded n c v s
  | relayReply n l => exact execRelayReply_guarded n l s
  | relay p n l => exact execRelay_guarded p n l s
  | reportAck n => exact execReportAck_guarded n s
  | runDiscarded p l => exact execRunDiscarded_guarded p l s
  | badCommand p n l => exact execBadCommand_guarded p n l s
  | auxChange p x => exact run_calm (changeContacts_calm p x s)
  | holdLeverChange x => exact run_calm (changeCabinet_calm _ takeLever_calm _ x s)
  | manualTripChange x => exact run_calm (changeCabinet_calm _ takeManualTrip_calm _ x s)
  | doorOpen => exact run_calm (changeCabinet_calm _ takeDoor_calm _ true s)
  | acPresentChange x => exact run_calm (changeCabinet_calm _ takeAcPresent_calm _ x s)
  | crewPresentChange x => exact run_calm (changeCabinet_calm _ takeCrewPresent_calm _ x s)
  | radioReadyChange x => exact run_calm (changeCabinet_calm _ takeRadioReady_calm _ x s)
  | cabinetReading v c x t => exact execCabinetReading_guarded v c x t s
  | deadTimerExpiry => exact onExpiry_guarded deadTimeEnds_guarded
  | reclaimTimerExpiry => exact onExpiry_rig fun _ => rfl
  | warningTimerExpiry => exact onExpiry_guarded warningEnds_guarded
  | linkTimerExpiry => exact onExpiry_rig fun _ => rfl
  | ownershipTimerExpiry => exact onExpiry_rig fun _ => rfl
  | tripPulseEnd p => exact onExpiry_calm fun t => poleEvent_calm (tripPulseEnds_calm p t)
  | tripWindowExpiry p => exact onExpiry_calm fun t => poleEvent_calm (tripWindowExpires_calm p t)
  | gapTimerExpiry p => exact onExpiry_calm (gapEnds_calm p)
  | closePulseEnd p => exact onExpiry_calm fun t => poleEvent_calm (closePulseEnds_calm p t)
  | closeWindowExpiry p => exact onExpiry_calm fun t => poleEvent_calm (closeWindowExpires_calm p t)
  | storeWriteComplete => exact run_rig (writeComplete_rig s)
  | ackTimerExpiry => exact onExpiry_rig fun _ => rfl
  | holdoffTimerExpiry => exact onExpiry_rig fun _ => rfl
  | refillTimerExpiry => exact onExpiry_rig fun _ => rfl
  | periodicTimerExpiry => exact onExpiry_rig fun _ => rfl
  | durationTimerExpiry => exact onExpiry_calm gradeTest_calm
  | nextTestDue => exact onExpiry_calm dueTimeReached_calm
  | retryWaitExpiry => exact onExpiry_calm retryWaitEnds_calm
  | faultClearTimerExpiry => exact onExpiry_rig faultClears_rig
  | shutdownTimerExpiry => exact onExpiry_rig assertShutdown_rig
  | alarmEnd => exact onExpiry_rig fun _ => rfl
  | warningRequestEnd => exact onExpiry_rig fun _ => rfl
  | tankTxEnd => exact run_rig (f := fun s => { s with port := s.port.tankEnd }) rfl
  | radioTxEnd => exact run_rig (radioTxEnds_rig s)
  | crewTxEnd => exact run_rig (crewTxEnds_rig s)
  | lineSample x => exact execLineSample_guarded x s
  | powerLoss => exact run_calm (coldState_calm s false)
  | _ => exact inbound rfl

theorem tick_rig (s : State) : (tick s).rig = s.rig := by
  have advanced : (advancedBase s).rig = s.rig := by
    unfold advancedBase
    split <;> rfl
  unfold tick queueDue
  dsimp only
  split
  · split <;> exact advanced
  · rfl

/-- R121: no step energises a coil beside the test load. -/
theorem step_keepsLoadAlone {s t : State} (alone : s.loadAlone) (next : step s = .next t) : t.loadAlone := by
  unfold step at next
  split at next
  · rename_i c rest _
    have same : { s with pending := rest }.rig = s.rig := rfl
    exact (exec_guarded c { s with pending := rest } t next).load ((State.Calm.of_rig same).load alone)
  · cases next
    exact (State.Calm.of_rig (tick_rig s)).load alone

/-- Settles O59: a coil that a command energises for a close was admitted by the gate in the state before it. -/
theorem closesAreGuarded : Obligations.ClosesAreGuarded := by
  refine ⟨fun i s t p next closes rested => ?_, fun s t alone next => step_keepsLoadAlone alone next⟩
  obtain ⟨admits, untested⟩ := ((exec_guarded i s t next).close p closes).resolve_left rested
  obtain ⟨idle, opened, uncovered, handle, sound, link, critical, shutdown, energy⟩ := admits.conditions
  exact ⟨idle, opened, uncovered, handle, sound, link, critical, shutdown, energy, untested⟩

end Sys2Proof.Machine
end

section
/-! PROOFS. MECH_RESET (R80), and what orders and completions leave of the Line Unit and of the handle (R88, R182). -/

namespace Sys2Proof.Machine

/-! ## MECH_RESET (R80) -/

theorem PoleRecord.failedTrip_iff (r : PoleRecord) : r.failedTrip = true ↔ r.failed = true ∧ r.tripping := by
  unfold PoleRecord.failedTrip PoleRecord.tripping
  simp only [Bool.and_eq_true, Bool.or_eq_true, decide_eq_true_eq, or_assoc]

/-- R80: whether a failed pole carries out a trip. -/
theorem any_failedTrip_iff (s : State) :
    s.poles.pole.toList.any PoleRecord.failedTrip = true ↔
      ∃ p, (s.poleRec p).failed = true ∧ (s.poleRec p).tripping := by
  simp only [PerPole.toList, List.any_cons, List.any_nil, Bool.or_false, Bool.or_eq_true, PoleRecord.failedTrip_iff]
  refine ⟨?_, fun ⟨p, h⟩ => ?_⟩
  · rintro (a | b | c)
    exacts [⟨.a, a⟩, ⟨.b, b⟩, ⟨.c, c⟩]
  · cases p
    exacts [.inl h, .inr (.inl h), .inr (.inr h)]

theorem clearFailed_get (v : PerPole PoleRecord) (p : Pole) :
    (v.map PoleRecord.clearFailed).get p = (v.get p).clearFailed := by
  cases p <;> rfl

/-- Settles O29: by whether a failed pole carries out a trip. -/
theorem mechResetClearsFailed : Obligations.MechResetClearsFailed := by
  intro n s ready
  refine ⟨fun busy => ?_, fun free => ?_⟩
  · refine command_answered (f := id) ready rfl ?_ rfl
    exact if_pos ((any_failedTrip_iff s).mpr busy)
  · refine ⟨s.poles.pole.map PoleRecord.clearFailed, ?_, fun p failed => ?_, fun p sound => ?_⟩
    · refine command_answered ready rfl ?_ rfl
      exact if_neg fun busy => ((any_failedTrip_iff s).mp busy).elim fun p h => free p h.1 h.2
    · rw [clearFailed_get]
      exact if_pos failed
    · rw [clearFailed_get]
      exact if_neg sound

/-! ## What orders and completions leave of the cabinet's inputs -/

/-- No filter, mask, flag or tone but the warning's changes, and nothing of the Pole Drive but the pole records. -/
structure State.PanelKept (s t : State) : Prop where
  line : t.line = { s.line with warningEnd := t.line.warningEnd }
  drive : t.poles = { s.poles with pole := t.poles.pole }

theorem State.PanelKept.refl (s : State) : s.PanelKept s := ⟨rfl, rfl⟩

theorem State.PanelKept.trans {s t u : State} (h : s.PanelKept t) (k : t.PanelKept u) : s.PanelKept u where
  line := by
    rw [k.line, h.line]
  drive := by
    rw [k.drive, h.drive]

/-- What leaves the Line Unit and the pole records alone. -/
theorem State.PanelKept.of_blocks {s t : State} (line : t.line = s.line) (poles : t.poles = s.poles) :
    s.PanelKept t := ⟨by rw [line], by rw [poles]⟩

theorem State.PanelKept.after {s t u : State} (k : u.PanelKept t) (line : u.line = s.line) (poles : u.poles = s.poles) :
    s.PanelKept t := (State.PanelKept.of_blocks line poles).trans k

theorem orderTrip_panel (p : Pole) (s : State) : s.PanelKept (orderTrip p s).1 := by
  rw [orderTrip_eq]
  exact ⟨(cancelWarning_blocks .sequenceActive (abortTest .trip s)).2, rfl⟩

theorem orderTrips_panel (m : PoleMask) (s : State) : s.PanelKept (orderTrips m s).1 := by
  rw [orderTrips_eq_each]
  generalize [Pole.a, .b, .c] = ps
  induction ps generalizing s with
  | nil => exact .refl s
  | cons p ps ih =>
    unfold orderEach
    split
    · exact (orderTrip_panel p s).trans (ih _)
    · exact ih s

/-- What no completion outside the end of TRIPPING changes: the Line Unit and the Pole Drive. -/
def State.cabinet (s : State) : LineUnit × PoleDrive := (s.line, s.poles)

theorem State.PanelKept.of_cabinet {s t : State} (h : t.cabinet = s.cabinet) : s.PanelKept t :=
  .of_blocks (congrArg Prod.fst h) (congrArg Prod.snd h)

theorem State.PanelKept.since {s t u : State} (k : u.PanelKept t) (h : u.cabinet = s.cabinet) : s.PanelKept t :=
  (State.PanelKept.of_cabinet h).trans k

@[simp] theorem raiseTrip_cabinet (m : PoleMask) (n : Nat) (r : Half) (e : ElementSet) (c : Option Nat) (s : State) :
    (raiseTrip m n r e c s).cabinet = s.cabinet := by
  cases c <;> rfl

@[simp] theorem reportTrip_cabinet (s : State) : (reportTrip s).cabinet = s.cabinet := by
  unfold reportTrip
  split
  · rfl
  · exact raiseTrip_cabinet ..

@[simp] theorem enterLockout_cabinet (c : LockoutCause) (o : FaultOutcome) (s : State) :
    (enterLockout c o s).cabinet = s.cabinet := rfl

@[simp] theorem handCloseOutcome_cabinet (o : CloseOutcome) (s : State) :
    (handCloseOutcome o s).cabinet = s.cabinet := by
  unfold handCloseOutcome closeEnds
  split
  · split
    · split <;> rfl
    · rfl
  · rfl

@[simp] theorem closingEnds_cabinet (s : State) : (closingEnds s).cabinet = s.cabinet := by
  unfold closingEnds
  split
  · exact handCloseOutcome_cabinet ..
  · exact handCloseOutcome_cabinet ..

@[simp] theorem tripCompleted_cabinet (p : Pole) (o : OpOutcome) (s : State) :
    (tripCompleted p o s).cabinet = s.cabinet := by
  unfold tripCompleted
  dsimp only
  split
  · rfl
  · split
    · rw [raiseMaxima_eq]
      rfl
    · rfl

@[simp] theorem operatorTripsTake_cabinet (p : Pole) (o : OpOutcome) (s : State) :
    (operatorTripsTake p o s).cabinet = s.cabinet := by
  rw [operatorTripsTake_eq]
  rfl

@[simp] theorem lockoutTripDone_cabinet (s : State) : (lockoutTripDone s).cabinet = s.cabinet := by
  rw [lockoutTripDone_eq]
  rfl

/-! ## The end of TRIPPING (R52): follow-on trips, or the sequence goes on -/

/-- R52 step 1: the poles that a follow-on trip is ordered on. -/
def State.follow (s : State) : PoleMask := ((countsClosed s).diff s.seq.ctx.tripping).diff s.seq.ctx.failed

/-- R52 step 1: follow-on trips are due. -/
def State.followsOn (s : State) : Prop := s.seq.ctx.failed.isEmpty = false ∧ s.follow.isEmpty = false

/-- R52 step 1: the follow-on trips as they are ordered. -/
def State.followOrdered (s : State) : State :=
  s.withSeq { s.seq with
    ctx := { s.seq.ctx.ordering s.follow .fault with ordered := s.seq.ctx.ordered.union s.follow } }

theorem trippingEnds_follows {s : State} (h : s.followsOn) :
    trippingEnds s = orderTrips s.follow s.followOrdered := by
  obtain ⟨failed, follow⟩ := h
  have due : (!s.seq.ctx.failed.isEmpty && !s.follow.isEmpty) = true := by rw [failed, follow]; rfl
  exact if_pos due

/-- R52 steps 2 to 8: TRIP reported, then LOCKOUT or DEAD_TIME. -/
def State.trippingLeft (s : State) : State :=
  match trippingLockout s with
  | some (cause, o) => enterLockout cause o (reportTrip s)
  | none => enterDeadTime (reportTrip s)

theorem trippingEnds_leaves {s : State} (h : ¬ s.followsOn) : trippingEnds s = (s.trippingLeft, []) := by
  unfold trippingEnds State.trippingLeft
  dsimp only
  rw [if_neg]
  · cases trippingLockout s <;> rfl
  · intro both
    simp only [Bool.and_eq_true, Bool.not_eq_true'] at both
    exact h both

@[simp] theorem trippingLeft_cabinet (s : State) : s.trippingLeft.cabinet = s.cabinet := by
  unfold State.trippingLeft
  split <;> exact reportTrip_cabinet s

theorem trippingEnds_panel (s : State) : s.PanelKept (trippingEnds s).1 := by
  by_cases h : s.followsOn
  · rw [trippingEnds_follows h]
    exact (orderTrips_panel _ _).since rfl
  · rw [trippingEnds_leaves h]
    exact .of_cabinet (trippingLeft_cabinet s)

theorem endIfSettled_panel (s : State) : s.PanelKept (endIfSettled s).1 := by
  unfold endIfSettled
  split
  · exact trippingEnds_panel s
  · exact .refl s

theorem takeCompletion_panel (c : Completion) (s : State) : s.PanelKept (takeCompletion c s).1 := by
  unfold takeCompletion
  split
  · unfold takeCloseCompletion
    split
    · exact .refl s
    · dsimp only
      split
      · split
        · exact .of_cabinet (closingEnds_cabinet _)
        · exact .of_cabinet rfl
      · exact (endIfSettled_panel _).since (handCloseOutcome_cabinet ..)
  · exact (endIfSettled_panel _).since (by simp)

theorem settle_panel (n : Nat) (l : List Completion) (s : State) : s.PanelKept (settle n l s) := by
  induction n generalizing l s with
  | zero => exact .refl s
  | succ n ih =>
    cases l with
    | nil => exact .refl s
    | cons c rest => exact (takeCompletion_panel c s).trans (ih _ _)

end Sys2Proof.Machine
end

section
/-! PROOFS. MANUAL_TRIP_CHANGE and DOOR_OPEN (R60, R88, R182, R183). -/

namespace Sys2Proof.Machine

/-! ## A change row of a cabinet input (log 9) -/

/-- Log 9: the level already accepted is no change. -/
theorem changeCabinet_same {i : MaskInput} {takes : Accepted → State → State} {level : Bool} {s : State}
    (h : (i.get s.line.filters.cabinet).accepted = .of level) : changeCabinet i takes level s = s := by
  have unmoved : (i.get s.line.filters.cabinet).change level = (i.get s.line.filters.cabinet, none) := if_pos h
  unfold changeCabinet
  rw [unmoved]
  cases i <;> rfl

/-- R182: another level is accepted and handed on. -/
theorem changeCabinet_other {i : MaskInput} {takes : Accepted → State → State} {level : Bool} {s : State}
    (h : (i.get s.line.filters.cabinet).accepted ≠ .of level) :
    changeCabinet i takes level s =
      takes ⟨level, decide ((i.get s.line.filters.cabinet).accepted = .notYet)⟩
        (s.withFilters { s.line.filters with
          cabinet := i.set s.line.filters.cabinet ((i.get s.line.filters.cabinet).accept level).1 }) := by
  have moved : (i.get s.line.filters.cabinet).change level = (i.get s.line.filters.cabinet).accept level := if_neg h
  unfold changeCabinet
  rw [moved]
  rfl

/-! ## The handle (R60, R88) -/

/-- R183: the event flags after MANUAL_TRIP's change, which raises no event of its own. -/
theorem lineTakes_manualTrip (x : Accepted) (s : State) :
    lineTakes .manualTrip x s = { s with line := { s.line with
      radioFlags := { s.line.radioFlags with
        manualTrip := s.line.radioFlags.manualTrip || (x.level && !x.first && s.line.masks.manualTrip) }
      crewFlags := { s.line.crewFlags with
        manualTrip := s.line.crewFlags.manualTrip || (x.level && !x.first && s.line.masks.manualTrip) } } } := by
  obtain ⟨level, first⟩ := x
  have member : MaskInput.manualTrip.get s.line.masks = s.line.masks.manualTrip := rfl
  unfold lineTakes
  rw [member]
  cases first <;> cases masked : s.line.masks.manualTrip <;> cases level <;>
    simp [lineEffect, raiseLineEvent, MaskInput.event, LineUnit.setFlags, MaskInput.set]

section
variable (c : Option CmdRef) (o : Option PortId) (m : PoleMask) (s : State)

/-- R60, R72: an operator trip leaves Line Unit and handle alone, and every pole of its mask that takes the order, or
that a trip is in flight on, in flight or OPEN. -/
theorem operatorTrip_reaches :
    s.PanelKept (operatorTrip c o m s) ∧ s.Lasting (operatorTrip c o m s) ∧
    ∀ q, m.get q = true → (s.seq.ctx.tripsOut.get q = none ∨ (s.poleRec q).tripping) →
      ((operatorTrip c o m s).poleRec q).tripping ∨ ((operatorTrip c o m s).poleRec q).position = .opened := by
  let ordered := (orderTrips (s.placing m) s).1
  let told := raise .operatorTrip [tripSourceCode o, PoleMask.byte m] ordered
  let taken := told.withSeq { told.seq.operatorTrip with
    ctx := told.seq.operatorTrip.ctx.ordering (s.placing m) .operator
    operatorTrips := told.seq.operatorTrip.operatorTrips ++
      [{ cmd := c, mask := m, waiting := m, outcomes := .all none, inLockout := decide (told.seq.state = .lockout) }] }
  have shape : operatorTrip c o m s = s.onlySequence (settle 12 (orderTrips (s.placing m) s).2 taken) := rfl
  have placed : ordered.Lasting taken := by
    refine .of_blocks rfl ?_ rfl
    show ordered.seq.operatorTrip.userFlags = ordered.seq.userFlags
    rw [Sequence.operatorTrip_keeps]
  have after : ordered.Lasting (settle 12 (orderTrips (s.placing m) s).2 taken) := placed.trans (settle_lasting _ _ _)
  have panel : s.PanelKept (settle 12 (orderTrips (s.placing m) s).2 taken) :=
    (orderTrips_panel (s.placing m) s).trans ((settle_panel _ _ taken).since rfl)
  rw [shape]
  refine ⟨⟨panel.line, panel.drive⟩, ?_, fun q on reached => ?_⟩
  · obtain ⟨position, discovered, tripping, flags, ctx⟩ := (orderTrips_lasting (s.placing m) s).trans after
    exact ⟨position, discovered, tripping, flags, ctx⟩
  · obtain none | trip := reached
    · have driven : (ordered.poleRec q).driven := by
        rw [show ordered.poleRec q = _ from orderTrips_poleRec .., if_pos ((s.placing_get m q).mpr ⟨on, none⟩)]
        exact ((s.poleRec q).order_driven s.store.active s.now).1
      exact driven.imp (after.tripping q) (after.position q).trans
    · exact .inl (((orderTrips_lasting (s.placing m) s).trans after).tripping q trip)

end

/-- R60, R88: the handle's level taken, and at a change to active an operator trip of all three poles. -/
def State.handled (s : State) (level : Bool) : State :=
  let s1 := { s with poles := { s.poles with handle := .of level } }
  if level then operatorTrip none none .full s1 else s1

theorem handled_vault (s : State) (level : Bool) : (s.handled level).vault = s.vault := by
  cases level with
  | true => exact operatorTrip_vault ..
  | false => rfl

/-- R60, R88: what the handle's change leaves. -/
theorem handled_panel (s : State) (level : Bool) :
    (s.handled level).line = { s.line with warningEnd := (s.handled level).line.warningEnd } ∧
    (s.handled level).poles.handle = .of level ∧ (s.handled level).seq.userFlags = s.seq.userFlags ∧
    (s.handled level).store = s.store ∧ (s.handled level).time = s.time := by
  cases level with
  | true =>
    obtain ⟨panel, lasting, -⟩ :=
      operatorTrip_reaches none none .full { s with poles := { s.poles with handle := .of true } }
    exact ⟨panel.line, congrArg PoleDrive.handle panel.drive, lasting.flags, rfl, rfl⟩
  | false => exact ⟨rfl, rfl, rfl, rfl, rfl⟩

theorem handleTakes (level : Bool) (s : State) (powered : s.powered = true)
    (other : s.line.filters.cabinet.manualTrip.accepted ≠ .of level) :
    exec (.manualTripChange level) s = .next (lineTakes .manualTrip
      ⟨level, decide (s.line.filters.cabinet.manualTrip.accepted = .notYet)⟩
      ((s.withFilters { s.line.filters with cabinet := { s.line.filters.cabinet with
        manualTrip := (s.line.filters.cabinet.manualTrip.accept level).1 } }).handled level)) :=
  (run_powered powered).trans (congrArg _ (changeCabinet_other (i := .manualTrip) other))

/-! ## The door (R183) -/

theorem lineTakes_door_quiet {x : Accepted} {s : State} (h : x.first = true ∨ s.line.masks.door = false) :
    lineTakes .door x s = s := by
  refine if_neg fun ⟨again, on⟩ => ?_
  obtain first | off := h
  · cases again.symm.trans first
  · cases off.symm.trans on

theorem lineTakes_door_open {s : State} (on : s.line.masks.door = true) :
    lineTakes .door ⟨true, false⟩ s = raise .doorOpen [] { s with line := { s.line with
      radioFlags := { s.line.radioFlags with door := true }, crewFlags := { s.line.crewFlags with door := true } } } :=
  if_pos ⟨rfl, on⟩

/-- R60, R88, R183: a change row of the handle. -/
theorem manualTripChange_other (level : Bool) (s : State) (powered : s.powered = true)
    (other : s.line.filters.cabinet.manualTrip.accepted ≠ .of level) :
    let flag : Bool → Bool := fun f => f || (level && decide (s.line.filters.cabinet.manualTrip.accepted ≠ .notYet) &&
      s.line.masks.manualTrip)
    ∃ t, exec (.manualTripChange level) s = .next t ∧
      t.line.filters.cabinet.manualTrip.accepted = .of level ∧ t.poles.handle = .of level ∧
      (level = true → ∀ q, (s.seq.ctx.tripsOut.get q = none ∨ (s.poleRec q).tripping) →
        (t.poleRec q).tripping ∨ (t.poleRec q).position = .opened) ∧
      (level = false → t = { s with line := t.line, poles := { s.poles with handle := .inactive } }) ∧
      t.line.radioFlags.manualTrip = flag s.line.radioFlags.manualTrip ∧
      t.line.crewFlags.manualTrip = flag s.line.crewFlags.manualTrip ∧
      t.store = s.store ∧ t.time = s.time ∧ t.holds.slots = s.holds.slots ∧ t.holds.lever = s.holds.lever ∧
      t.seq.userFlags = s.seq.userFlags := by
  intro flag
  have run := handleTakes level s powered other
  let u := s.withFilters { s.line.filters with cabinet := { s.line.filters.cabinet with
    manualTrip := (s.line.filters.cabinet.manualTrip.accept level).1 } }
  obtain ⟨line, handle, flags, store, time⟩ := handled_panel u level
  have again : decide (s.line.filters.cabinet.manualTrip.accepted ≠ .notYet) =
      !decide (s.line.filters.cabinet.manualTrip.accepted = .notYet) := decide_not
  rw [lineTakes_manualTrip] at run
  refine ⟨_, run, ?_, handle, ?_, ?_, ?_, ?_, store, time, congrArg Vault.slots (handled_vault u level),
    congrArg Vault.lever (handled_vault u level), flags⟩
  · exact congrArg (fun l : LineUnit => l.filters.cabinet.manualTrip.accepted) line
  · rintro rfl q reached
    exact (operatorTrip_reaches none none .full { u with poles := { u.poles with handle := .of true } }).2.2 q
      (by cases q <;> rfl) reached
  · rintro rfl
    rfl
  · show ((u.handled level).line.radioFlags.manualTrip || (level && _ && (u.handled level).line.masks.manualTrip)) = _
    rw [line]
    simp only [flag, again]
    rfl
  · show ((u.handled level).line.crewFlags.manualTrip || (level && _ && (u.handled level).line.masks.manualTrip)) = _
    rw [line]
    simp only [flag, again]
    rfl

/-- Settles O52: a change row of the handle, and one of the door. -/
theorem handleAndDoor : Obligations.HandleAndDoor := by
  refine ⟨?handle, ?door⟩
  case handle =>
    intro level s powered lvl old flag
    refine ⟨fun same => ?_, fun other => manualTripChange_other level s powered other⟩
    exact (run_powered powered).trans (congrArg _ (changeCabinet_same (i := .manualTrip) same))
  case door =>
    intro s powered door accepted
    have changed : door.accepted ≠ .of true → exec .doorOpen s =
        .next (lineTakes .door ⟨true, decide (door.accepted = .notYet)⟩ { s with line := accepted }) :=
      fun other => (run_powered powered).trans (congrArg _ (changeCabinet_other (i := .door) other))
    refine ⟨fun same => ?_, fun quiet => ?_, fun was on => ?_⟩
    · exact (run_powered powered).trans (congrArg _ (changeCabinet_same (i := .door) same))
    · have other : door.accepted ≠ .of true := by
        obtain first | ⟨off, -⟩ := quiet
        · rw [first]
          exact nofun
        · rw [off]
          exact nofun
      exact (changed other).trans (congrArg _ (lineTakes_door_quiet (quiet.imp decide_eq_true And.right)))
    · have run := changed (by rw [was]; exact nofun)
      rw [was] at run
      exact run.trans (congrArg _ (lineTakes_door_open (s := { s with line := accepted }) on))

end Sys2Proof.Machine
end

section
/-! PROOFS. A command that waits for its answer while events are raised and other answers go out, and an answer that stays
in its port's output (R158, R161, R169, R173). -/

namespace Sys2Proof.Machine

/-! ## Room in a port's output -/

theorem PortUnit.roomAfter_mono {q : PortUnit} {p : PortId} {m n : Nat} (fewer : m ≤ n) (h : q.roomAfter n p) :
    q.roomAfter m p := by
  cases p with
  | radio => exact h
  | crew => exact ⟨h.1, by have := h.2; omega⟩

theorem PortUnit.roomAfter_accepts {q : PortUnit} {p : PortId} {n : Nat} (h : q.roomAfter n p) : ¬ q.drops p := by
  cases p with
  | radio => exact Nat.not_le.mpr h
  | crew =>
    rintro (off | full)
    · exact off h.1
    · have := h.2
      omega

theorem radioBegin_room {q : PortUnit} {p : PortId} {n : Nat} (h : q.roomAfter n p) : q.radioBegin.roomAfter n p := by
  unfold PortUnit.radioBegin
  split
  · exact h
  · split
    case h_1 f rest pending =>
      cases p with
      | radio =>
        have room : q.radioPending.length < 4 := h
        rw [pending, List.length_cons] at room
        exact Nat.lt_of_succ_lt room
      | crew => exact h
    case h_2 =>
      split
      · cases p <;> exact h
      · exact h

theorem handReport_room {q : PortUnit} {p : PortId} {n : Nat} (f : OutFrame) (h : q.roomAfter n p) :
    (q.handReport f).roomAfter n p :=
  radioBegin_room (q := { q with handedReport := some f }) (by cases p <;> exact h)

/-- R161: a notice takes one place of the crew's list. -/
theorem handCrew_room {q : PortUnit} {p : PortId} {n : Nat} (f : OutFrame) (h : q.roomAfter (n + 1) p) :
    (q.handCrew f).1.roomAfter n p := by
  unfold PortUnit.handCrew
  split
  · exact PortUnit.roomAfter_mono n.le_succ h
  · unfold PortUnit.crewBegin
    cases p with
    | radio => split <;> [exact h; (split <;> exact h)]
    | crew =>
      obtain ⟨on, room⟩ := h
      split
      · exact ⟨on, by simp only [List.length_append, List.length_singleton]; omega⟩
      · split
        case h_1 g rest listed =>
          have length : q.crewList.length + 1 = rest.length + 1 :=
            List.length_append.symm.trans (congrArg List.length listed)
          exact ⟨on, by dsimp only; omega⟩
        case h_2 => exact ⟨on, by simp only [List.length_append, List.length_singleton]; omega⟩

/-- R158, R161: a frame handed to the other port takes no place. -/
theorem hand_room_other {q : PortUnit} {p o : PortId} {n : Nat} (f : OutFrame) (other : o ≠ p) (h : q.roomAfter n p) :
    (q.hand o f).1.roomAfter n p := by
  cases o with
  | radio =>
    cases p with
    | radio => exact absurd rfl other
    | crew =>
      show (q.handReply f).1.roomAfter n .crew
      unfold PortUnit.handReply
      split
      · exact radioBegin_room (q := { q with radioPending := q.radioPending ++ [f] }) h
      · exact h
  | crew =>
    cases p with
    | radio => exact handCrew_room f h
    | crew => exact absurd rfl other

/-! ## What leaves a waiting command its answer -/

/-- The context of a command is as it was, and its port's output has taken at most `k` notices. -/
structure State.Spared (s : State) (r : CmdRef) (k : Nat) (t : State) : Prop where
  ctx : t.cmd.ctx r.port = s.cmd.ctx r.port
  room : ∀ n, s.port.roomAfter (n + k) r.port → t.port.roomAfter n r.port

theorem State.Spared.of_blocks {s t : State} {r : CmdRef} (cmd : t.cmd = s.cmd) (port : t.port = s.port) :
    s.Spared r 0 t := ⟨by rw [cmd], fun n h => by rwa [port]⟩

theorem State.Spared.refl (s : State) (r : CmdRef) : s.Spared r 0 s := .of_blocks rfl rfl

theorem State.Spared.trans {s t u : State} {r : CmdRef} {j k : Nat} (h : s.Spared r j t) (g : t.Spared r k u) :
    s.Spared r (j + k) u :=
  ⟨g.ctx.trans h.ctx, fun n room => g.room n (h.room (n + k) (by rwa [Nat.add_assoc, Nat.add_comm k j]))⟩

theorem State.Spared.mono {s t : State} {r : CmdRef} {j k : Nat} (h : s.Spared r j t) (fewer : j ≤ k) :
    s.Spared r k t :=
  ⟨h.ctx, fun n room => h.room n (PortUnit.roomAfter_mono (by omega) room)⟩

/-- And by what then leaves contexts and outputs alone. -/
theorem State.Spared.congr {s t u : State} {r : CmdRef} {k : Nat} (h : s.Spared r k t) (cmd : u.cmd = t.cmd)
    (port : u.port = t.port) : s.Spared r k u :=
  ⟨by rw [cmd, h.ctx], fun n room => by rw [port]; exact h.room n room⟩

/-- R128, R136: an event hands over one notice at most. -/
theorem raise_spared (k : EventKind) (b : List Byte) (s : State) (r : CmdRef) : s.Spared r 1 (raise k b s) := by
  refine ⟨rfl, fun n room => ?_⟩
  have fewer := PortUnit.roomAfter_mono n.le_succ room
  have pass : ∀ t : State, t.port.roomAfter n r.port → (selectionIfOpen t).port.roomAfter n r.port := by
    intro t h
    unfold selectionIfOpen selectionPass
    split
    · split
      · exact h
      · split
        · exact handReport_room _ h
        · exact h
    · exact h
  have place : ∀ (q : Priority) (u : ReportUnit), (placeEntry k q b u s).port.roomAfter n r.port := by
    intro q u
    unfold placeEntry sendNotice
    refine pass _ ?_
    split
    · exact handCrew_room _ room
    · exact fewer
  unfold raise
  show PortUnit.roomAfter (State.port _) n r.port
  split
  · exact fewer
  · split
    · exact place _ _
    · split
      · exact place _ _
      · exact fewer

/-- R169: another command's answer goes to another port, or to none. -/
theorem complete_spared {s : State} {r k : CmdRef} {e : Executing} (a : Answer) (held : s.holding r = some e)
    (other : k ≠ r) : s.Spared r 0 (complete k a s) := by
  refine ⟨complete_ctx_held a held other, fun n room => ?_⟩
  by_cases port : k.port = r.port
  · rw [complete_unheld a (holding_unique held port other)]
    exact room
  · unfold complete
    split
    · split
      · exact room
      · exact hand_room_other _ port room
    · exact room

/-! ## What an answer outlasts -/

/-- Every frame of an output is still in it, and an idle context still idle. -/
structure State.Heard (s t : State) : Prop where
  output : ∀ p f, f ∈ s.port.output p → f ∈ t.port.output p
  idle : ∀ p, s.cmd.ctx p = .idle → t.cmd.ctx p = .idle

theorem State.Heard.of_blocks {s t : State} (cmd : t.cmd = s.cmd) (port : t.port = s.port) : s.Heard t :=
  ⟨fun p f h => by rwa [port], fun p h => by rwa [cmd]⟩

theorem State.Heard.refl (s : State) : s.Heard s := .of_blocks rfl rfl

theorem State.Heard.trans {s t u : State} (h : s.Heard t) (k : t.Heard u) : s.Heard u :=
  ⟨fun p f mem => k.output p f (h.output p f mem), fun p idle => k.idle p (h.idle p idle)⟩

/-- From a state that differs in no context and no output. -/
theorem State.Heard.after {s t u : State} (k : u.Heard t) (cmd : u.cmd = s.cmd) (port : u.port = s.port) :
    s.Heard t := (State.Heard.of_blocks cmd port).trans k

theorem raise_heard (k : EventKind) (b : List Byte) (s : State) : s.Heard (raise k b s) :=
  ⟨fun _ _ h => mem_raise k b h, fun _ h => h⟩

theorem complete_heard (r : CmdRef) (a : Answer) (s : State) : s.Heard (complete r a s) := by
  refine ⟨fun p f h => ?_, fun p idle => (complete_ctx r a s p).elim (·.trans idle) id⟩
  unfold complete
  split
  · split
    · exact h
    · exact mem_hand _ _ h
  · exact h

/-- R169: an answer given, and outlasting what follows. -/
theorem answersWaiting_of_complete {s u t : State} {r : CmdRef} {a : Answer} (spared : s.Spared r 2 u)
    (after : (complete r a u).Heard t) : s.answersWaiting t r a := by
  intro e held
  have held' : u.holding r = some e := (holding_congr spared.ctx).trans held
  refine ⟨after.idle _ (complete_idle a held'), fun kept room => ?_⟩
  refine after.output _ _ (complete_mem a held' (by rwa [spared.ctx]) ?_)
  exact PortUnit.roomAfter_accepts (spared.room 0 room)

/-! ## The events and answers of the sequence -/

theorem State.Heard.onlyBattery {s t : State} (h : s.Heard t) : s.Heard (s.onlyBattery t) := ⟨h.output, h.idle⟩

theorem State.Heard.onlyClose {s t : State} (h : s.Heard t) : s.Heard (s.onlyClose t) := ⟨h.output, h.idle⟩

theorem State.Heard.onlySequence {s t : State} (h : s.Heard t) : s.Heard (s.onlySequence t) := ⟨h.output, h.idle⟩

theorem answerTest_heard (o : TestOrigin) (a : Answer) (s : State) : s.Heard (answerTest o a s) := by
  cases o with
  | command r n => exact complete_heard r a s
  | scheduled => exact .refl s

theorem abortTest_heard (c : TestCause) (s : State) : s.Heard (abortTest c s) := by
  unfold abortTest
  refine .onlyBattery ?_
  split
  case h_1 => exact .refl s
  case h_2 x _ =>
    have left : ∀ b, s.Heard (startRetry x.origin (chargerLeavesTest { s with batt := b })) := by
      intro b
      have charger : s.Heard (chargerLeavesTest { s with batt := b }) := by
        unfold chargerLeavesTest
        split
        · exact (raise_heard ..).after rfl rfl
        · exact .of_blocks rfl rfl
      unfold startRetry
      split
      · exact charger.trans (.of_blocks rfl rfl)
      · exact charger
    have ended := left (s.batt.endTest (x.record .aborted (some c)))
    dsimp only
    split
    · exact ended.trans (raise_heard _ _ _)
    · exact ended.trans ((raise_heard _ _ _).trans (answerTest_heard _ _ _))

theorem cancelWarning_heard (x : Reason) (s : State) : s.Heard (cancelWarning x s) := by
  unfold cancelWarning
  refine .onlyClose ?_
  split
  · split
    · exact State.Heard.trans ((complete_heard _ _ s.withoutClose.withdrawWarning).after rfl rfl) (raise_heard _ _ _)
    · exact .refl s
  · exact .refl s

theorem orderTrips_heard (m : PoleMask) (s : State) : s.Heard (orderTrips m s).1 := by
  have one : ∀ (p : Pole) (t : State), t.Heard (orderTrip p t).1 := fun p t =>
    (abortTest_heard .trip t).trans ((cancelWarning_heard .sequenceActive _).trans (.of_blocks rfl rfl))
  rw [orderTrips_eq_each]
  generalize [Pole.a, .b, .c] = ps
  induction ps generalizing s with
  | nil => exact .refl s
  | cons p ps ih =>
    unfold orderEach
    split
    · exact (one p s).trans (ih _)
    · exact ih s

theorem raiseTrip_heard (m : PoleMask) (n : Nat) (r : Half) (e : ElementSet) (c : Option Nat) (s : State) :
    s.Heard (raiseTrip m n r e c s) := by
  cases c with
  | some ms => exact raise_heard ..
  | none => exact (raise_heard ..).after rfl rfl

theorem reportTrip_heard (s : State) : s.Heard (reportTrip s) := by
  unfold reportTrip
  split
  · exact .refl s
  · exact (raiseTrip_heard ..).after rfl rfl

theorem enterLockout_heard (c : LockoutCause) (o : FaultOutcome) (s : State) : s.Heard (enterLockout c o s) :=
  .onlySequence ((raise_heard _ _ _).after rfl rfl)

theorem trippingLeft_heard (s : State) : s.Heard s.trippingLeft := by
  unfold State.trippingLeft
  split
  · exact (reportTrip_heard s).trans (enterLockout_heard _ _ _)
  · exact (reportTrip_heard s).trans (.of_blocks rfl rfl)

theorem trippingEnds_heard (s : State) : s.Heard (trippingEnds s).1 := by
  by_cases h : s.followsOn
  · rw [trippingEnds_follows h]
    exact (orderTrips_heard _ _).after rfl rfl
  · rw [trippingEnds_leaves h]
    exact trippingLeft_heard s

theorem endIfSettled_heard (s : State) : s.Heard (endIfSettled s).1 := by
  unfold endIfSettled
  split
  · exact trippingEnds_heard s
  · exact .refl s

theorem lockoutTripDone_heard (s : State) : s.Heard (lockoutTripDone s) := by
  unfold lockoutTripDone
  dsimp only
  split
  · exact (raiseTrip_heard ..).after rfl rfl
  · exact .refl s

theorem operatorTripEnds_heard (x : OperatorTrip) (s : State) : s.Heard (operatorTripEnds x s) := by
  unfold operatorTripEnds
  dsimp only
  split
  · refine (complete_heard _ _ _).after ?_ ?_ <;> split <;> rfl
  · split <;> exact .of_blocks rfl rfl

theorem operatorTripsEnd_heard (l : List OperatorTrip) (s : State) : s.Heard (operatorTripsEnd l s) := by
  induction l generalizing s with
  | nil => exact .refl s
  | cons x rest ih => exact (operatorTripEnds_heard x s).trans (ih _)

/-- R190: the start decision. -/
theorem decideIfDiscovered_heard (s : State) : s.Heard (decideIfDiscovered s) := by
  unfold decideIfDiscovered startDecision
  dsimp only
  split
  · split
    · exact .of_blocks rfl rfl
    · split
      · exact .of_blocks rfl rfl
      · exact (raise_heard ..).after rfl rfl
  · exact .refl s

/-! ## The answers of operator trips (R60) -/

/-- R60: an operator trip's end spares the command of another. -/
theorem operatorTripEnds_spared {s : State} {r : CmdRef} {e : Executing} {x : OperatorTrip}
    (held : s.holding r = some e) (other : x.cmd ≠ some r) : s.Spared r 0 (operatorTripEnds x s) := by
  unfold operatorTripEnds
  dsimp only
  split
  case h_1 k named =>
    have apart : k ≠ r := fun same => other (named.trans (congrArg some same))
    split
    · obtain ⟨ctx, room⟩ := complete_spared (s := s.withSeq { s.seq with cause := .operator }) x.answer held apart
      exact ⟨ctx, room⟩
    · exact complete_spared _ held apart
  case h_2 => split <;> exact .of_blocks rfl rfl

/-- R60, R169: of operator trips that end together, one whose command no other names is answered with its own outcomes. -/
theorem operatorTripsEnd_answers {s u t : State} {r : CmdRef} {x : OperatorTrip} {l : List OperatorTrip}
    (spared : s.Spared r 2 u) (mem : x ∈ l) (named : x.cmd = some r) (alone : ∀ y ∈ l, y.cmd = some r → y = x)
    (after : (operatorTripsEnd l u).Heard t) : s.answersWaiting t r x.answer := by
  intro e held
  induction l generalizing u with
  | nil => cases mem
  | cons y rest ih =>
    by_cases own : y.cmd = some r
    · have same := alone y List.mem_cons_self own
      subst same
      have ended : operatorTripEnds y u = complete r y.answer
          (if y.inLockout = true ∧ u.seq.state = .lockout then u.withSeq { u.seq with cause := .operator } else u) := by
        unfold operatorTripEnds
        rw [own]
      refine answersWaiting_of_complete (u := if y.inLockout = true ∧ u.seq.state = .lockout then
        u.withSeq { u.seq with cause := .operator } else u) ?_ ?_ e held
      · split
        · exact ⟨spared.ctx, spared.room⟩
        · exact spared
      · rw [← ended]
        exact (operatorTripsEnd_heard rest _).trans after
    · have next := operatorTripEnds_spared ((holding_congr spared.ctx).trans held) own
      have later : x ∈ rest := (List.mem_cons.mp mem).resolve_left fun same => own (same ▸ named)
      exact ih (spared.trans next) later (fun z mem => alone z (List.mem_cons_of_mem y mem)) after

end Sys2Proof.Machine
end

section
/-! PROOFS. One completion taken: follow-on trips bring no further work, and what the operator trips take of it (R51, R52,
R60, R61, R76, R78). -/

namespace Sys2Proof.Machine

/-! ## Follow-on trips bring nothing more (R52, R76) -/

theorem follow_iff {s : State} {q : Pole} (closes : s.seq.ctx.closesOut.get q = false) :
    s.follow.get q = true ↔
      (s.poleRec q).position ≠ .opened ∧ s.seq.ctx.tripsOut.get q = none ∧ s.seq.ctx.failed.get q = false := by
  have counts : (countsClosed s).get q = decide ((s.poleRec q).position ≠ .opened) := by
    unfold countsClosed
    rw [PerPole.get_zip, closes, Bool.or_false]
    rfl
  have out : s.seq.ctx.tripping.get q = (s.seq.ctx.tripsOut.get q).isSome := by cases q <;> rfl
  unfold State.follow PoleMask.diff
  rw [PerPole.get_zip, PerPole.get_zip, counts, out]
  cases s.seq.ctx.tripsOut.get q <;> simp

theorem settled_iff {s : State} : s.seq.ctx.settled = true ↔
    ∀ q, s.seq.ctx.tripsOut.get q = none ∧ s.seq.ctx.closesOut.get q = false := by
  have out : ∀ q, s.seq.ctx.tripping.get q = (s.seq.ctx.tripsOut.get q).isSome := by
    intro q
    cases q <;> rfl
  unfold ShotContext.settled
  rw [Bool.and_eq_true, PoleMask.isEmpty_iff, PoleMask.isEmpty_iff, ← forall_and]
  refine forall_congr' fun q => ?_
  rw [out]
  cases s.seq.ctx.tripsOut.get q <;> simp

/-- The end of TRIPPING, where it comes: follow-on trips, or the sequence goes on. -/
theorem endIfSettled_cases (s : State) :
    endIfSettled s = (s, []) ∨
    (s.seq.state = .tripping ∧ s.seq.ctx.settled = true ∧
      (s.followsOn ∧ endIfSettled s = orderTrips s.follow s.followOrdered ∨
      ¬ s.followsOn ∧ endIfSettled s = (s.trippingLeft, []))) := by
  unfold endIfSettled
  split
  case isTrue ends =>
    refine .inr ⟨ends.1, ends.2, ?_⟩
    by_cases h : s.followsOn
    · exact .inl ⟨h, trippingEnds_follows h⟩
    · exact .inr ⟨h, trippingEnds_leaves h⟩
  case isFalse => exact .inl rfl

/-- R52, R76: the orders of follow-on trips bring at once only ends of closes that are no longer tracked. -/
theorem endIfSettled_inert {s : State} {c : Completion} (mem : c ∈ (endIfSettled s).2) :
    c.close = true ∧ (endIfSettled s).1.seq.ctx.closesOut.get c.pole = false := by
  obtain none | ⟨-, settled, ⟨-, follows⟩ | ⟨-, leaves⟩⟩ := endIfSettled_cases s
  · rw [none] at mem
    cases mem
  · have closes : s.seq.ctx.closesOut.get c.pole = false := (settled_iff.mp settled c.pole).2
    rw [follows] at mem ⊢
    obtain ⟨-, on, rest⟩ | ⟨abort, -⟩ := orderTrips_kinds mem
    · exact absurd rest.1 ((follow_iff closes).mp on).1
    · rw [abort, (orderTrips_blocks s.follow s.followOrdered).1]
      exact ⟨rfl, closes⟩
  · rw [leaves] at mem
    cases mem

theorem takeCompletion_inert {s : State} {c d : Completion} (mem : d ∈ (takeCompletion c s).2) :
    d.close = true ∧ (takeCompletion c s).1.seq.ctx.closesOut.get d.pole = false := by
  cases kind : c.close with
  | false =>
    have taken : takeCompletion c s = takeTripCompletion c.pole c.outcome s := by simp [takeCompletion, kind]
    rw [taken] at mem ⊢
    exact endIfSettled_inert mem
  | true =>
    have taken : takeCompletion c s = takeCloseCompletion c.pole c.outcome s := if_pos kind
    rw [taken] at mem ⊢
    unfold takeCloseCompletion at mem ⊢
    split at mem
    case isTrue => cases mem
    case isFalse tracked =>
      rw [if_neg tracked]
      dsimp only at mem ⊢
      split at mem
      case isTrue => cases mem
      case isFalse out =>
        rw [if_neg out]
        exact endIfSettled_inert mem

/-- R78: ends of closes that are not tracked change nothing. -/
theorem settle_inert (n : Nat) {l : List Completion} {s : State}
    (inert : ∀ c ∈ l, c.close = true ∧ s.seq.ctx.closesOut.get c.pole = false) : settle n l s = s := by
  induction n generalizing l with
  | zero => rfl
  | succ n ih =>
    cases l with
    | nil => rfl
    | cons c rest =>
      obtain ⟨close, untracked⟩ := inert c List.mem_cons_self
      have taken : takeCompletion c s = (s, []) := (if_pos close).trans (if_pos untracked)
      show settle n (rest ++ (takeCompletion c s).2) (takeCompletion c s).1 = s
      rw [taken, List.append_nil]
      exact ih fun d mem => inert d (List.mem_cons_of_mem c mem)

/-- R51, R78: one completion with all that it brings. -/
theorem settled_one (c : Completion) (s : State) : settled (s, [c]) = (takeCompletion c s).1 :=
  settle_inert 11 fun _ mem => takeCompletion_inert mem

/-! ## What the end of TRIPPING keeps -/

theorem enterLockout_ops (c : LockoutCause) (o : FaultOutcome) (s : State) :
    (enterLockout c o s).seq.operatorTrips = s.seq.operatorTrips ∧
    (enterLockout c o s).seq.operatorClose = s.seq.operatorClose := by
  have kept : ∀ f, (s.seq.updateOpen f).operatorTrips = s.seq.operatorTrips ∧
      (s.seq.updateOpen f).operatorClose = s.seq.operatorClose := by
    intro f
    rw [updateOpen_eq]
    exact ⟨rfl, rfl⟩
  exact kept _

theorem reportTrip_ops (s : State) :
    (reportTrip s).seq.operatorTrips = s.seq.operatorTrips ∧
    (reportTrip s).seq.operatorClose = s.seq.operatorClose ∧ (reportTrip s).holds = s.holds := by
  unfold reportTrip raiseTrip
  dsimp only
  split
  · exact ⟨rfl, rfl, rfl⟩
  · rw [updateOpen_eq]
    split <;> exact ⟨rfl, rfl, rfl⟩

/-- What no end of TRIPPING changes of the operator's trips and close. -/
structure State.OpsKept (s t : State) : Prop where
  trips : t.seq.operatorTrips = s.seq.operatorTrips
  close : t.seq.operatorClose = s.seq.operatorClose
  record : s.closeKept t
  pulsing : ∀ r, s.holds.close = some r → r.phase = .pulsing → t.holds.close = some r

theorem State.OpsKept.refl (s : State) : s.OpsKept s := ⟨rfl, rfl, .refl s, fun _ h _ => h⟩

theorem trippingLeft_ops (s : State) : s.OpsKept s.trippingLeft := by
  obtain ⟨trips, close, holds⟩ := reportTrip_ops s
  unfold State.trippingLeft
  split
  · obtain ⟨trips', close'⟩ := enterLockout_ops (by assumption) (by assumption) (reportTrip s)
    exact ⟨trips'.trans trips, close'.trans close, fun r h => holds ▸ h, fun r h _ => (congrArg HoldUnit.close holds).trans h⟩
  · exact ⟨trips, close, fun r h => holds ▸ h, fun r h _ => (congrArg HoldUnit.close holds).trans h⟩

theorem endIfSettled_ops (s : State) : s.OpsKept (endIfSettled s).1 := by
  obtain none | ⟨-, -, ⟨-, follows⟩ | ⟨-, leaves⟩⟩ := endIfSettled_cases s
  · rw [none]
    exact .refl s
  · rw [follows]
    obtain ⟨seq, -, record, -⟩ := orderTrips_blocks s.follow s.followOrdered
    exact ⟨by rw [seq]; rfl, by rw [seq]; rfl, record, fun r h => orderTrips_pulsing s.follow (s := s.followOrdered) h⟩
  · rw [leaves]
    exact trippingLeft_ops s

theorem endIfSettled_lockout {s : State} (out : s.seq.state ≠ .tripping) : endIfSettled s = (s, []) :=
  if_neg fun h => out h.1

/-- R52, R72: the end of TRIPPING works on a pole only by a follow-on trip. -/
theorem endIfSettled_poleRec (s : State) (q : Pole) :
    (endIfSettled s).1.poleRec q = s.poleRec q ∨
    (s.seq.state = .tripping ∧ s.followsOn ∧ (s.poleRec q).position ≠ .opened ∧
      (endIfSettled s).1.poleRec q = ((s.poleRec q).order s.store.active s.now).1) := by
  obtain none | ⟨state, settled, ⟨on, follows⟩ | ⟨-, leaves⟩⟩ := endIfSettled_cases s
  · rw [none]
    exact .inl rfl
  · rw [follows, orderTrips_poleRec]
    split
    case isTrue ordered =>
      exact .inr ⟨state, on, ((follow_iff (settled_iff.mp settled q).2).mp ordered).1, rfl⟩
    case isFalse => exact .inl rfl
  · rw [leaves]
    exact .inl (congrArg (fun c : LineUnit × PoleDrive => c.2.pole.get q) (trippingLeft_cabinet s))

/-! ## What the operator trips take (R60, R61) -/

theorem outcomeBytes_sent (o : PerPole (Option OpOutcome)) : outcomeBytes o = sentOutcomes o := by
  have code : ∀ x : Option OpOutcome, optByte OpOutcome.code x =
      BitVec.ofNat 8 (placeIn [OpOutcome.success, .retriedSuccess, .failed, .aborted] x) := by
    intro x
    rcases x with _ | x
    · rfl
    · cases x <;> rfl
  unfold outcomeBytes sentOutcomes
  exact List.map_congr_left fun x _ => code x

theorem OperatorTrip.answer_sent (x : OperatorTrip) :
    x.answer = if x.outcomes.toList.contains (some .failed) then .failed (sentOutcomes x.outcomes)
      else .done (sentOutcomes x.outcomes) := by
  have any : x.outcomes.toList.any (· = some .failed) = x.outcomes.toList.contains (some .failed) := by
    rw [List.contains_eq_any_beq]
    congr 1
    funext y
    exact Bool.eq_iff_iff.mpr ((decide_eq_true_iff).trans (eq_comm.trans beq_iff_eq.symm))
  unfold OperatorTrip.answer
  rw [any, outcomeBytes_sent]

/-- R61: in LOCKOUT, operator trips taken there give their cause as they end. -/
theorem operatorTripsEnd_lockout {l : List OperatorTrip} {s : State} (lockout : s.seq.state = .lockout) :
    (operatorTripsEnd l s).seq.cause = if l.any (·.inLockout) then .operator else s.seq.cause := by
  induction l generalizing s with
  | nil => rfl
  | cons x rest ih =>
    have state : (operatorTripEnds x s).seq.state = .lockout := by
      unfold operatorTripEnds
      dsimp only
      split <;> split <;> exact lockout
    have cause : (operatorTripEnds x s).seq.cause = if x.inLockout then .operator else s.seq.cause := by
      unfold operatorTripEnds
      simp only [lockout, and_true]
      split <;> split <;> rfl
    show (operatorTripsEnd rest (operatorTripEnds x s)).seq.cause = _
    rw [ih state, cause, List.any_cons]
    cases x.inLockout <;> simp

/-- R40, R51: a trip completion recorded leaves the operator's trips and close, the records and every output. -/
theorem tripCompleted_blocks (p : Pole) (o : OpOutcome) (s : State) :
    tripCompleted p o s = { s with
      prot := s.prot.release
      seq := { s.seq with ctx := (tripCompleted p o s).seq.ctx, faults := (tripCompleted p o s).seq.faults } } := by
  unfold tripCompleted
  dsimp only
  split
  · rfl
  · split
    · rw [raiseMaxima_eq]
      rfl
    · rfl

@[simp] theorem OperatorTrip.take_inLockout (x : OperatorTrip) (p : Pole) (o : OpOutcome) :
    (x.take p o).inLockout = x.inLockout := by
  unfold OperatorTrip.take
  split <;> rfl

/-- R60: the operator trips that a completion ends. -/
def State.endedTrips (s : State) (p : Pole) (o : OpOutcome) : List OperatorTrip :=
  (s.seq.operatorTrips.map (·.take p o)).filter (·.waiting.isEmpty)

/-- R60: the operator trips that wait on after a completion. -/
def State.tripsLeft (s : State) (p : Pole) (o : OpOutcome) : State :=
  s.withSeq { s.seq with
    operatorTrips := (s.seq.operatorTrips.map (·.take p o)).filter fun t => !t.waiting.isEmpty }

theorem operatorTripsTake_ends (p : Pole) (o : OpOutcome) (s : State) :
    operatorTripsTake p o s = operatorTripsEnd (s.endedTrips p o) (s.tripsLeft p o) := rfl

theorem mem_endedTrips {s : State} {p : Pole} {o : OpOutcome} {y : OperatorTrip} :
    y ∈ s.endedTrips p o ↔ ∃ x ∈ s.seq.operatorTrips, x.take p o = y ∧ y.waiting.isEmpty = true := by
  unfold State.endedTrips
  rw [List.mem_filter, List.mem_map]
  exact ⟨fun ⟨⟨x, mem, took⟩, ends⟩ => ⟨x, mem, took, ends⟩, fun ⟨x, mem, took, ends⟩ => ⟨⟨x, mem, took⟩, ends⟩⟩

/-- R61: the cause of a LOCKOUT after a completion. -/
theorem operatorTripsTake_lockout (p : Pole) (o : OpOutcome) {s : State} (lockout : s.seq.state = .lockout) :
    (operatorTripsTake p o s).seq.cause =
      if s.seq.operatorTrips.any (fun x => (x.take p o).waiting.isEmpty && x.inLockout) then .operator
      else s.seq.cause := by
  have ended : (s.endedTrips p o).any (·.inLockout) =
      s.seq.operatorTrips.any fun x => (x.take p o).waiting.isEmpty && x.inLockout := by
    unfold State.endedTrips
    rw [List.any_filter, List.any_map]
    simp only [Function.comp_def, OperatorTrip.take_inLockout]
  rw [operatorTripsTake_ends, operatorTripsEnd_lockout (s := s.tripsLeft p o) lockout, ended]
  rfl

/-- R60: an operator trip that waited for this completion alone is answered. -/
theorem operatorTripsTake_answers {s u t : State} {p : Pole} {o : OpOutcome} {r : CmdRef} {x : OperatorTrip}
    (spared : s.Spared r 2 u) (mem : x ∈ u.seq.operatorTrips) (ends : (x.take p o).waiting.isEmpty = true)
    (named : x.cmd = some r) (alone : ∀ y ∈ u.seq.operatorTrips, y.cmd = x.cmd → y = x)
    (after : (operatorTripsTake p o u).Heard t) : s.answersWaiting t r (x.take p o).answer := by
  rw [operatorTripsTake_ends] at after
  refine operatorTripsEnd_answers (u := u.tripsLeft p o) ⟨spared.ctx, spared.room⟩
    (mem_endedTrips.mpr ⟨x, mem, rfl, ends⟩) ((x.take_cmd p o).trans named) (fun y taken own => ?_) after
  obtain ⟨z, before, rfl, -⟩ := mem_endedTrips.mp taken
  rw [alone z before ((z.take_cmd p o).symm.trans (own.trans named.symm))]

/-- R60, R61: the operator trips take a completion, in a state whose sequence is that of `s`; afterwards only their
answers go out and their cause stands. -/
theorem tripsTake_of {s u t : State} {p : Pole} {o : OpOutcome} (seq : u.seq = s.seq) (spared : ∀ r, s.Spared r 2 u)
    (trips : t.seq.operatorTrips = (operatorTripsTake p o (tripCompleted p o u)).seq.operatorTrips)
    (cause : s.seq.state = .lockout → t.seq.cause = (operatorTripsTake p o (tripCompleted p o u)).seq.cause)
    (heard : (operatorTripsTake p o (tripCompleted p o u)).Heard t) : s.tripsTake p o t := by
  have completed := tripCompleted_blocks p o u
  have blocks : (tripCompleted p o u).cmd = u.cmd ∧ (tripCompleted p o u).port = u.port := by
    rw [completed]
    exact ⟨rfl, rfl⟩
  have kept : (tripCompleted p o u).seq.operatorTrips = s.seq.operatorTrips ∧
      (tripCompleted p o u).seq.state = s.seq.state ∧ (tripCompleted p o u).seq.cause = s.seq.cause := by
    rw [completed, ← seq]
    exact ⟨rfl, rfl, rfl⟩
  generalize tripCompleted p o u = w at trips cause heard blocks kept
  obtain ⟨same, state, before⟩ := kept
  have still : ∀ r, s.Spared r 2 w := fun r => (spared r).trans (.of_blocks blocks.1 blocks.2)
  refine ⟨?_, fun lockout => ?_, fun x r mem ends named alone => ?_⟩
  · rw [trips, operatorTripsTake_eq, same]
    rfl
  · rw [cause lockout, operatorTripsTake_lockout p o (state.trans lockout), same, before]
    rfl
  · rw [← same] at mem alone
    have answered := operatorTripsTake_answers (still r) mem ends named alone heard
    rwa [OperatorTrip.answer_sent] at answered

end Sys2Proof.Machine
end

section
/-! PROOFS. A pole's operation ends, and the Sequence Controller takes its completion: the pole records and the operator
trips (R51, R52, R60, R61, R68, R74, R75, R77). -/

namespace Sys2Proof.Machine

/-! ## The end of a pole's operation -/

/-- Nothing but one pole's record, the reports and the ALARM request has changed. -/
structure State.PoleMoved (s : State) (p : Pole) (u : State) : Prop where
  seq : u.seq = s.seq
  prot : u.prot = s.prot
  holds : u.holds = s.holds
  batt : u.batt = s.batt
  store : u.store = s.store
  time : u.time = s.time
  others : ∀ q, q ≠ p → u.poleRec q = s.poleRec q
  spared : ∀ r, s.Spared r 1 u

theorem withPole_spared (s : State) (p : Pole) (r : PoleRecord) (c : CmdRef) : s.Spared c 0 (s.withPole p r) :=
  .of_blocks rfl rfl

theorem withPole_moved (s : State) (p : Pole) (r : PoleRecord) : s.PoleMoved p (s.withPole p r) :=
  ⟨rfl, rfl, rfl, rfl, rfl, rfl, fun _ other => State.poleRec_withPole_other _ _ _ _ other,
    fun c => (withPole_spared s p r c).mono (Nat.zero_le 1)⟩

/-- The record that a verdict leaves. -/
def Verdict.record (v : Verdict) (r : PoleRecord) : PoleRecord :=
  match v with
  | .goesOn => r
  | .completes o => r.ended o
  | .fails => { r with failed := true }.ended .failed

theorem endOperation_poleRec (p : Pole) (close : Bool) (v : Verdict) (s : State) :
    (endOperation p close v s).poleRec p = v.record (s.poleRec p) := by
  cases v with
  | goesOn => rfl
  | completes o => cases o <;> exact State.poleRec_withPole_same _ _ _
  | fails => exact State.poleRec_withPole_same _ _ _

theorem endOperation_moved (p : Pole) (close : Bool) (v : Verdict) (s : State) :
    s.PoleMoved p (endOperation p close v s) := by
  have told : ∀ (r : PoleRecord) (k : EventKind) (b : List Byte), ∀ c, s.Spared c 1 (raise k b (s.withPole p r)) :=
    fun r k b c => (withPole_spared s p r c).trans (raise_spared k b _ c)
  cases v with
  | goesOn => exact ⟨rfl, rfl, rfl, rfl, rfl, rfl, fun _ _ => rfl, fun r => (State.Spared.refl s r).mono (Nat.zero_le 1)⟩
  | completes o =>
    cases o with
    | retriedSuccess =>
      exact { withPole_moved s p ((s.poleRec p).finish .retriedSuccess) with spared := fun c => told _ _ _ c }
    | success => exact withPole_moved s p ((s.poleRec p).finish .success)
    | failed => exact withPole_moved s p ((s.poleRec p).finish .failed)
    | aborted => exact withPole_moved s p ((s.poleRec p).finish .aborted)
  | fails =>
    exact { withPole_moved s p (s.poleRec p).fail with
      spared := fun c => (told (s.poleRec p).fail .mechFail _ c).congr rfl rfl }

theorem endOperation_completes_line (p : Pole) (close : Bool) (o : OpOutcome) (s : State) :
    (endOperation p close (.completes o) s).line = s.line := by
  cases o <;> rfl

theorem endOperation_fails_alarm (p : Pole) (close : Bool) (s : State) :
    (endOperation p close .fails s).line.alarmEnd.isSome = true := rfl

/-! ## A trip completion taken -/

/-- R51, R60, R64: a trip completion up to the end of TRIPPING. -/
def State.tripTaken (s : State) (p : Pole) (o : OpOutcome) : State :=
  lockoutTripDone (operatorTripsTake p o (tripCompleted p o s))

theorem takeCompletion_trip (p : Pole) (o : OpOutcome) (s : State) :
    takeCompletion ⟨p, false, o⟩ s = endIfSettled (s.tripTaken p o) := rfl

/-- R51, R60: what a trip completion leaves before the end of TRIPPING is judged. -/
theorem tripTaken_eq (s : State) (p : Pole) (o : OpOutcome) :
    s.tripTaken p o = { s with
      prot := s.prot.release
      seq := { s.seq with
        cause := (s.tripTaken p o).seq.cause, operatorTrips := (s.tripTaken p o).seq.operatorTrips
        faults := (tripCompleted p o s).seq.faults
        ctx := { (tripCompleted p o s).seq.ctx with ordered := (s.tripTaken p o).seq.ctx.ordered } }
      cmd := (s.tripTaken p o).cmd, rep := (s.tripTaken p o).rep, port := (s.tripTaken p o).port
      freeCount := (s.tripTaken p o).freeCount } := by
  have completed := tripCompleted_blocks p o s
  have taken := operatorTripsTake_eq p o (tripCompleted p o s)
  have done := lockoutTripDone_eq (operatorTripsTake p o (tripCompleted p o s))
  unfold State.tripTaken
  rw [done, taken, completed]

theorem tripTaken_poleRec (s : State) (p : Pole) (o : OpOutcome) (q : Pole) :
    (s.tripTaken p o).poleRec q = s.poleRec q :=
  congrArg (fun d : PoleDrive => d.pole.get q) (by rw [tripTaken_eq])

/-- R52, R72: a trip completion works on a pole only by a follow-on trip. -/
theorem takeCompletion_trip_poleRec (p : Pole) (o : OpOutcome) (s : State) (q : Pole) :
    (takeCompletion ⟨p, false, o⟩ s).1.poleRec q = s.poleRec q ∨
    (s.poleRec q).position ≠ .opened ∧
      (takeCompletion ⟨p, false, o⟩ s).1.poleRec q = ((s.poleRec q).order s.store.active s.now).1 := by
  have blocks : (s.tripTaken p o).store = s.store ∧ (s.tripTaken p o).time = s.time := by
    rw [tripTaken_eq]
    exact ⟨rfl, rfl⟩
  have now : (s.tripTaken p o).now = s.now := congrArg TimeBase.baseCount blocks.2
  rw [takeCompletion_trip]
  have moved := endIfSettled_poleRec (s.tripTaken p o) q
  rw [tripTaken_poleRec, blocks.1, now] at moved
  exact moved.imp_right fun ⟨_, _, closed, ordered⟩ => ⟨closed, ordered⟩

theorem State.answersWaiting.after {s t u : State} {r : CmdRef} {a : Answer} (h : s.answersWaiting t r a)
    (k : t.Heard u) : s.answersWaiting u r a :=
  fun e held => ⟨k.idle _ (h e held).1, fun kept room => k.output _ _ ((h e held).2 kept room)⟩

/-- R60, R61: what an event after the completion leaves of it. -/
theorem State.tripsTake.after {s t u : State} {p : Pole} {o : OpOutcome} (h : s.tripsTake p o t)
    (trips : u.seq.operatorTrips = t.seq.operatorTrips) (cause : u.seq.cause = t.seq.cause) (k : t.Heard u) :
    s.tripsTake p o u := by
  obtain ⟨waiting, reached, answers⟩ := h
  exact ⟨trips.trans waiting, fun lockout => cause.trans (reached lockout),
    fun x r mem ends named alone => (answers x r mem ends named alone).after k⟩

/-- R60, R61: the operator trips take the completion that a pole's operation ends with. -/
theorem takeCompletion_tripsTake {s u : State} {p : Pole} (moved : s.PoleMoved p u) (o : OpOutcome) :
    s.tripsTake p o (takeCompletion ⟨p, false, o⟩ u).1 := by
  have done := lockoutTripDone_eq (operatorTripsTake p o (tripCompleted p o u))
  have state : (operatorTripsTake p o (tripCompleted p o u)).seq.state = s.seq.state := by
    rw [operatorTripsTake_eq, tripCompleted_blocks, moved.seq]
  have ops := endIfSettled_ops (u.tripTaken p o)
  rw [takeCompletion_trip]
  refine tripsTake_of moved.seq (fun r => (moved.spared r).mono (by decide)) (ops.trips.trans ?_) (fun lockout => ?_)
    ((lockoutTripDone_heard _).trans (endIfSettled_heard _))
  · unfold State.tripTaken
    rw [done]
  · have same : (u.tripTaken p o).seq.state = .lockout := by
      unfold State.tripTaken
      rw [done]
      exact state.trans lockout
    rw [endIfSettled_lockout (by rw [same]; decide)]
    unfold State.tripTaken
    rw [done]

end Sys2Proof.Machine
end

section
/-! PROOFS. The timers of a trip (R73 to R75): what each expiry leaves. -/

namespace Sys2Proof.Machine

/-! ## A timer of the Pole Drive, with what it brings -/

/-- R78: a step of the Pole Drive that brings no completion. -/
theorem poleEvent_quiet {f : State → State × List Completion} {s : State} {p : Pole} {r : PoleRecord}
    (brings : f s = (s.withPole p r, [])) : poleEvent f s = s.withPole p r := by
  unfold poleEvent settled
  rw [brings, settle_nil]
  rfl

/-- R78: a step of the Pole Drive that brings one. -/
theorem poleEvent_one {f : State → State × List Completion} {s u : State} {c : Completion} (brings : f s = (u, [c])) :
    poleEvent f s = s.onlySequence (takeCompletion c u).1 := by
  unfold poleEvent
  rw [brings, settled_one]

theorem onlySequence_heard (s t : State) : t.Heard (s.onlySequence t) := ⟨fun _ _ h => h, fun _ h => h⟩

theorem PoleRecord.order_failed (r : PoleRecord) (b : Bank) (now : Nat) : (r.order b now).1.failed = r.failed := by
  unfold PoleRecord.order
  cases r.mech
  case idle =>
    dsimp only
    split <;> rfl
  case failed =>
    dsimp only
    split <;> rfl
  all_goals rfl

theorem PoleRecord.ended_mech (r : PoleRecord) (o : OpOutcome) :
    (r.ended o).mech = .idle ∨ (r.ended o).mech = .failed := by
  unfold PoleRecord.ended
  dsimp only
  split
  · exact .inr rfl
  · exact .inl rfl

section
variable {f : State → State × List Completion} {s : State} {p : Pole}

/-- R60, R61, R73: a trip ends, and the Sequence Controller takes its completion. -/
theorem poleEvent_tripEnds {v : Verdict} {o : OpOutcome} (brings : f s = (endOperation p false v s, [⟨p, false, o⟩])) :
    s.tripsTake p o (poleEvent f s) := by
  rw [poleEvent_one brings]
  exact (takeCompletion_tripsTake (endOperation_moved p false v s) o).after rfl rfl (onlySequence_heard _ _)

/-- R73: a pole that reads OPEN rests with its outcome. -/
theorem poleEvent_tripRests {o : OpOutcome}
    (brings : f s = (endOperation p false (.completes o) s, [⟨p, false, o⟩]))
    (opened : (s.poleRec p).position = .opened) : (poleEvent f s).poleRec p = (s.poleRec p).ended o := by
  have ended := endOperation_poleRec p false (.completes o) s
  rw [poleEvent_one brings]
  obtain rests | ⟨closed, -⟩ := takeCompletion_trip_poleRec p o (endOperation p false (.completes o) s) p
  · exact rests.trans ended
  · rw [ended] at closed
    exact absurd opened closed

/-- R75: a pole declared failed, with the ALARM request. -/
theorem poleEvent_tripFails (brings : f s = (endOperation p false .fails s, [⟨p, false, .failed⟩])) :
    ((poleEvent f s).poleRec p).failed = true ∧ ((poleEvent f s).poleRec p).position = (s.poleRec p).position ∧
    (poleEvent f s).line.alarmEnd.isSome = true := by
  have ended := endOperation_poleRec p false .fails s
  have panel := takeCompletion_panel ⟨p, false, .failed⟩ (endOperation p false .fails s)
  rw [poleEvent_one brings]
  have alarm : (takeCompletion ⟨p, false, .failed⟩ (endOperation p false .fails s)).1.line.alarmEnd =
      (endOperation p false .fails s).line.alarmEnd := by rw [panel.line]
  refine ⟨?_, ?_, (congrArg Option.isSome alarm).trans (endOperation_fails_alarm p false s)⟩
  all_goals
    obtain rests | ⟨-, ordered⟩ := takeCompletion_trip_poleRec p .failed (endOperation p false .fails s) p
  · exact (congrArg PoleRecord.failed (rests.trans ended)).trans rfl
  · refine (congrArg PoleRecord.failed ordered).trans ((PoleRecord.order_failed _ _ _).trans ?_)
    rw [ended]
    rfl
  · exact (congrArg PoleRecord.position (rests.trans ended)).trans rfl
  · refine (congrArg PoleRecord.position ordered).trans (((PoleRecord.order_driven _ _ _).2.1).trans ?_)
    rw [ended]
    rfl

end

/-! ## What each timer of a trip brings (R73, R74) -/

section
variable {s : State} {p : Pole}

/-- R74: the record that waits for its second pulse. -/
def PoleRecord.retrying (r : PoleRecord) (b : Bank) (now : Nat) : PoleRecord :=
  { r with mech := .tripRetry, pulse := none, window := none, gap := some (now + b.retryGap),
           heldOpen := false, windowHeld := false }

theorem missedAttempt_retries (first : (s.poleRec p).attempt = 1) (retry : s.store.active.retryEnable = true) :
    missedAttempt p s = (s.withPole p ((s.poleRec p).retrying s.store.active s.now), []) :=
  if_pos ⟨first, retry⟩

theorem missedAttempt_fails (none : (s.poleRec p).attempt ≠ 1 ∨ s.store.active.retryEnable = false) :
    missedAttempt p s = (endOperation p false .fails s, [⟨p, false, .failed⟩]) := by
  refine if_neg fun ⟨first, retry⟩ => ?_
  obtain second | off := none
  · exact second first
  · cases off.symm.trans retry

theorem tripPulseEnds_opened (pulse : (s.poleRec p).mech = .tripPulse) (opened : (s.poleRec p).position = .opened) :
    let o : OpOutcome := if (s.poleRec p).attempt = 2 then .retriedSuccess else .success
    tripPulseEnds p s = (endOperation p false (.completes o) s, [⟨p, false, o⟩]) := by
  have outcome : (s.poleRec p).tripOutcome = if (s.poleRec p).attempt = 2 then .retriedSuccess else .success := by
    unfold PoleRecord.tripOutcome
    simp only [pulse, reduceCtorEq, false_or]
  unfold tripPulseEnds
  dsimp only
  rw [if_neg (not_not.mpr pulse), if_pos opened, outcome]
  rfl

theorem tripPulseEnds_closed (pulse : (s.poleRec p).mech = .tripPulse) (closed : (s.poleRec p).position ≠ .opened) :
    tripPulseEnds p s = if (s.poleRec p).windowHeld then missedAttempt p s
      else (s.withPole p { s.poleRec p with mech := .tripWait, pulse := none, heldOpen := false }, []) := by
  unfold tripPulseEnds
  dsimp only
  rw [if_neg (not_not.mpr pulse), if_neg closed]

theorem tripWindowExpires_pulse (pulse : (s.poleRec p).mech = .tripPulse) :
    tripWindowExpires p s = (s.withPole p { s.poleRec p with window := none, windowHeld := true }, []) := by
  unfold tripWindowExpires
  dsimp only
  rw [pulse]

theorem tripWindowExpires_wait (wait : (s.poleRec p).mech = .tripWait) : tripWindowExpires p s = missedAttempt p s := by
  unfold tripWindowExpires
  dsimp only
  rw [wait]

end

end Sys2Proof.Machine
end

section
/-! PROOFS. The last trip outstanding in TRIPPING completes (R51 to R53, R63, R66, R40): the records, the lockout gate and
what the end of TRIPPING leaves. -/

namespace Sys2Proof.Machine

/-! ## The open record worked on (R65, R66) -/

/-- A fault list with the record of a number worked on. -/
def workOpen (n : Option Half) (f : FaultRecord → FaultRecord) (l : List FaultRecord) : List FaultRecord :=
  l.map fun x => if n = some x.number then f x else x

theorem workOpen_workOpen (n : Option Half) {f : FaultRecord → FaultRecord} (g : FaultRecord → FaultRecord)
    (l : List FaultRecord) (number : ∀ x, (f x).number = x.number) :
    workOpen n g (workOpen n f l) = workOpen n (fun x => g (f x)) l := by
  unfold workOpen
  rw [List.map_map]
  refine List.map_congr_left fun x _ => ?_
  by_cases opened : n = some x.number
  · simp [opened, number]
  · simp [opened]

theorem workOpen_id (n : Option Half) (l : List FaultRecord) : workOpen n (fun x => x) l = l := by
  unfold workOpen
  simp only [ite_self, List.map_id']

theorem updateOpen_work (q : Sequence) (f : FaultRecord → FaultRecord) :
    q.updateOpen f = { q with faults := workOpen q.openRecord f q.faults } := by
  rw [updateOpen_eq, updateOpen_faults]
  rfl

/-- R52, R66: a record as TRIPPING's end updates it. -/
def State.recordEnded (s : State) (x : FaultRecord) : FaultRecord :=
  if s.seq.ctx.ordered.isEmpty then x else x.atTrippingEnd s.seq.ctx s.seq.shot s.now

theorem recordEnded_number (s : State) (x : FaultRecord) : (s.recordEnded x).number = x.number := by
  unfold State.recordEnded
  split <;> rfl

/-- R52: TRIP reported changes the open record alone. -/
theorem reportTrip_seq (s : State) :
    (reportTrip s).seq = { s.seq with faults := workOpen s.seq.openRecord s.recordEnded s.seq.faults } := by
  unfold reportTrip State.recordEnded
  split
  case isTrue none => exact congrArg (fun l => { s.seq with faults := l }) (workOpen_id _ _).symm
  case isFalse some =>
    have raised : ∀ m n r e c (t : State), (raiseTrip m n r e c t).seq = t.seq := by
      intro m n r e c t
      cases c <;> rfl
    exact (raised ..).trans (updateOpen_work _ _)

theorem reportTrip_time (s : State) : (reportTrip s).time = s.time ∧ (reportTrip s).store = s.store := by
  unfold reportTrip raiseTrip
  dsimp only
  split
  · exact ⟨rfl, rfl⟩
  · split <;> exact ⟨rfl, rfl⟩

/-! ## LOCKOUT or DEAD_TIME at the end of TRIPPING (R52, R63) -/

/-- R63: LOCKOUT as it is entered at the end of TRIPPING. -/
theorem trippingLeft_lockout {s : State} {cause : LockoutCause} {o : FaultOutcome}
    (lockout : trippingLockout s = some (cause, o)) :
    let q := s.trippingLeft.seq
    q.state = .lockout ∧ q.cause = cause ∧ q.shot = 1 ∧ q.deadTimer = none ∧ q.reclaimTimer = none ∧
    q.afterClose = false ∧ q.lamp = true ∧ q.openRecord = none ∧ q.ctx.ordered = ⟨false, false, false⟩ ∧
    q.faults = workOpen s.seq.openRecord
      (fun x => { s.recordEnded x with outcome := some o, cause := some cause }) s.seq.faults := by
  have left : s.trippingLeft = enterLockout cause o (reportTrip s) := by
    unfold State.trippingLeft
    rw [lockout]
  have seq : (enterLockout cause o (reportTrip s)).seq =
      { (reportTrip s).seq.closeRecord o (some cause) with
        state := .lockout, cause := cause, shot := 1, deadTimer := none, reclaimTimer := none, afterClose := false
        ctx := ((reportTrip s).seq.closeRecord o (some cause)).ctx.emptied, initial := false, lamp := true } := rfl
  have faults : ((reportTrip s).seq.closeRecord o (some cause)).faults = workOpen s.seq.openRecord
      (fun x => { s.recordEnded x with outcome := some o, cause := some cause }) s.seq.faults := by
    unfold Sequence.closeRecord
    rw [updateOpen_work, reportTrip_seq]
    exact workOpen_workOpen _ _ _ (recordEnded_number s)
  intro q
  have shape : q = _ := (congrArg State.seq left).trans seq
  rw [shape]
  exact ⟨rfl, rfl, rfl, rfl, rfl, rfl, rfl, rfl, rfl, faults⟩

/-- R55: DEAD_TIME as it is entered at the end of TRIPPING. -/
theorem trippingLeft_dead {s : State} (none : trippingLockout s = none) :
    s.trippingLeft.seq = { s.seq with
      state := .deadTime, deadTimer := some (s.now + s.store.active.deadTime s.seq.shot)
      faults := workOpen s.seq.openRecord s.recordEnded s.seq.faults } := by
  obtain ⟨time, store⟩ := reportTrip_time s
  have left : s.trippingLeft = enterDeadTime (reportTrip s) := by
    unfold State.trippingLeft
    rw [none]
  rw [left]
  show { (reportTrip s).seq with
    state := .deadTime
    deadTimer := some ((reportTrip s).time.baseCount + (reportTrip s).store.active.deadTime (reportTrip s).seq.shot) } = _
  rw [reportTrip_seq, time, store]
  rfl

theorem trippingLeft_prot (s : State) : s.trippingLeft.prot = s.prot := by
  unfold State.trippingLeft
  split <;> exact reportTrip_prot s

/-! ## The lockout gate (R53) -/

theorem two_of_three (m : PoleMask) :
    2 ≤ (m.toList.filter id).length ↔ ∃ y z, y ≠ z ∧ m.get y = true ∧ m.get z = true := by
  have pairs : (∃ y z, y ≠ z ∧ m.get y = true ∧ m.get z = true) ↔
      (m.a = true ∧ m.b = true) ∨ (m.a = true ∧ m.c = true) ∨ (m.b = true ∧ m.c = true) := by
    constructor
    · rintro ⟨y, z, apart, hy, hz⟩
      cases y <;> cases z <;> simp_all [PerPole.get]
    · rintro (⟨x, y⟩ | ⟨x, y⟩ | ⟨x, y⟩)
      exacts [⟨.a, .b, by decide, x, y⟩, ⟨.a, .c, by decide, x, y⟩, ⟨.b, .c, by decide, x, y⟩]
  rw [pairs]
  obtain ⟨a, b, c⟩ := m
  cases a <;> cases b <;> cases c <;> decide

theorem PerPole.any_iff {α : Type} (v : PerPole α) (P : α → Bool) :
    v.toList.any P = true ↔ ∃ y, P (v.get y) = true := by
  obtain ⟨a, b, c⟩ := v
  simp only [PerPole.toList, List.any_cons, List.any_nil, Bool.or_false, Bool.or_eq_true]
  refine ⟨?_, fun ⟨y, h⟩ => by cases y <;> simp_all [PerPole.get]⟩
  rintro (h | h | h)
  exacts [⟨.a, h⟩, ⟨.b, h⟩, ⟨.c, h⟩]

theorem PerChannel.any_iff {α : Type} (v : PerChannel α) (P : α → Bool) :
    v.toList.any P = true ↔ ∃ y, P (v.get y) = true := by
  obtain ⟨a, b, c, g⟩ := v
  simp only [PerChannel.toList, List.any_cons, List.any_nil, Bool.or_false, Bool.or_eq_true]
  refine ⟨?_, fun ⟨y, h⟩ => by cases y <;> simp_all [PerChannel.get]⟩
  rintro (h | h | h | h)
  exacts [⟨.a, h⟩, ⟨.b, h⟩, ⟨.c, h⟩, ⟨.g, h⟩]

/-- R53: the conditions of a lockout gate, by their codes. -/
theorem gateCondition_iff (code : Nat) (s : State) :
    gateCondition code s = true ↔
      code = 0 ∨
      (code = 1 ∧ ∃ x ∈ s.seq.faults, s.seq.openRecord = some x.number ∧
        ∃ y, 2 * s.store.active.highCurrentLockout ≤ x.maxima.get y) ∨
      (code = 2 ∧ s.seq.ctx.elements.time.g = true) ∨
      (code = 3 ∧ ∃ y z, y ≠ z ∧ s.seq.ctx.elements.phases.get y = true ∧ s.seq.ctx.elements.phases.get z = true) ∨
      (code = 4 ∧ ∃ y, s.seq.ctx.elements.highSet.get y = true) ∨
      (code = 5 ∧ ∃ y, (s.prot.latest.voltages.get y).mark ≠ .invalid ∧
        (s.prot.latest.voltages.get y).value < s.store.active.liveVoltage) ∨
      (code = 6 ∧ s.batt.level ≠ .normal) ∨
      (7 ≤ code ∧ code ≤ 10 ∧
        (if code = 7 then s.seq.userFlags.f0 else if code = 8 then s.seq.userFlags.f1
          else if code = 9 then s.seq.userFlags.f2 else s.seq.userFlags.f3) = true) := by
  unfold gateCondition
  dsimp only
  split
  case h_2 =>
    split
    case h_1 n opened =>
      have found : (s.seq.faults.any fun r => decide (r.number = n) &&
          r.maxima.toList.any fun m => decide (2 * s.store.active.highCurrentLockout ≤ m)) = true ↔
          ∃ x ∈ s.seq.faults, s.seq.openRecord = some x.number ∧
            ∃ y, 2 * s.store.active.highCurrentLockout ≤ x.maxima.get y := by
        rw [opened, List.any_eq_true]
        refine exists_congr fun x => and_congr_right fun _ => ?_
        rw [Bool.and_eq_true, PerChannel.any_iff]
        simp only [decide_eq_true_eq, Option.some.injEq, eq_comm (a := n)]
      rw [found]
      simp
    case h_2 closed => simp [closed]
  case h_4 => simp [two_of_three]
  case h_5 =>
    have any := PerPole.any_iff s.seq.ctx.elements.highSet id
    simp only [PerPole.toList, List.any_cons, List.any_nil, Bool.or_false, id] at any
    rw [Bool.or_assoc, any]
    simp
  case h_6 =>
    rw [PerPole.any_iff]
    simp
  case h_12 => 
    simp_all
    omega
  all_goals simp

/-- R53: the gate fires where the condition's truth is the gate's sense. -/
theorem gateFires_iff (s : State) :
    gateFires s = true ↔ (gateCondition (s.store.active.gateCondition s.seq.shot) s = true ↔
      s.store.active.gateSense s.seq.shot = true) := by
  unfold gateFires
  rw [beq_iff_eq, Bool.eq_iff_iff]

end Sys2Proof.Machine
end

section
/-! PROOFS. What the last trip's completion leaves of TRIPPING, in the words of the statements (lastTripDone). -/

namespace Sys2Proof.Machine

/-! ## The elements released (R40) -/

theorem Protection.release_elements (q : Protection) (x : Channel) :
    q.release.elements.get x = if (q.elements.get x).state = .operated then
      { state := .idle, acc := 0, byTime := false, byHighSet := false } else q.elements.get x :=
  q.release_get x

theorem allIdle_iff (e : PerChannel Element) : allIdle e = true ↔ ∀ x, (e.get x).state = .idle := by
  obtain ⟨a, b, c, g⟩ := e
  simp only [allIdle, PerChannel.toList, List.all_cons, List.all_nil, Bool.and_true, Bool.and_eq_true, decide_eq_true_eq]
  refine ⟨fun ⟨ha, hb, hc, hg⟩ x => ?_, fun h => ⟨h .a, h .b, h .c, h .g⟩⟩
  cases x
  exacts [ha, hb, hc, hg]

/-- R40: the episode closes with the last element that is not IDLE. -/
theorem Protection.release_closes (q : Protection) :
    ((∀ x, (q.release.elements.get x).state = .idle) → q.release.episode = none) ∧
    ((∃ x, (q.release.elements.get x).state ≠ .idle) → q.release.episode = q.episode) := by
  have episode : q.release.episode = if allIdle q.release.elements then none else q.episode := rfl
  refine ⟨fun idle => ?_, fun ⟨x, busy⟩ => ?_⟩
  · rw [episode, if_pos ((allIdle_iff _).mpr idle)]
  · rw [episode, if_neg fun idle => busy ((allIdle_iff _).mp idle x)]

/-! ## The last trip recorded (R51) -/

/-- R51, R66: a record as the completion of an order raises it. -/
def FaultRecord.raisedFor (k : TripKind) (ep : Option Episode) (x : FaultRecord) : FaultRecord :=
  if k = .fault then { x with maxima := raisedMaxima ep x.maxima } else x

theorem FaultRecord.raisedFor_number (k : TripKind) (ep : Option Episode) (x : FaultRecord) :
    (x.raisedFor k ep).number = x.number := by
  unfold FaultRecord.raisedFor
  split <;> rfl

/-- R51 steps 1 to 4: the completion of an order of kind `k`. -/
theorem tripCompleted_kind {s : State} {p : Pole} {k : TripKind} (o : OpOutcome)
    (out : s.seq.ctx.tripsOut.get p = some k) :
    (tripCompleted p o s).seq = { s.seq with
      faults := workOpen s.seq.openRecord (FaultRecord.raisedFor k s.prot.release.episode) s.seq.faults
      ctx := { s.seq.ctx with
        tripsOut := s.seq.ctx.tripsOut.set p none
        failed := if o = .failed then s.seq.ctx.failed.set p true else s.seq.ctx.failed
        reclose := if o ≠ .failed ∧ k = .fault then s.seq.ctx.reclose.set p true else s.seq.ctx.reclose } } := by
  cases k with
  | fault =>
    have raised : workOpen s.seq.openRecord (FaultRecord.raisedFor .fault s.prot.release.episode) s.seq.faults =
        s.seq.raised s.prot.release.episode := rfl
    rw [raised]
    simp only [tripCompleted, out, raiseMaxima_eq]
    by_cases failed : o = .failed <;> simp [failed, Sequence.raised]
  | operator =>
    have same : workOpen s.seq.openRecord (FaultRecord.raisedFor .operator s.prot.release.episode) s.seq.faults =
        s.seq.faults := workOpen_id _ _
    rw [same]
    simp only [tripCompleted, out]
    by_cases failed : o = .failed <;> simp [failed]

/-- The last order outstanding in TRIPPING has completed, and TRIPPING's end is not yet judged. -/
structure State.LastTaken (s : State) (p : Pole) (k : TripKind) (failed : Bool) (v : State) : Prop where
  seq : v.seq = { s.seq with
    operatorTrips := v.seq.operatorTrips
    faults := workOpen s.seq.openRecord (FaultRecord.raisedFor k s.prot.release.episode) s.seq.faults
    ctx := { s.seq.ctx with
      tripsOut := s.seq.ctx.tripsOut.set p none
      failed := if failed then s.seq.ctx.failed.set p true else s.seq.ctx.failed
      reclose := if failed = false ∧ k = .fault then s.seq.ctx.reclose.set p true else s.seq.ctx.reclose } }
  prot : v.prot = s.prot.release
  holds : v.holds = s.holds
  batt : v.batt = s.batt
  store : v.store = s.store
  time : v.time = s.time
  others : ∀ q, q ≠ p → v.poleRec q = s.poleRec q
  rests : (v.poleRec p).position = .opened ∨ failed = true

theorem tripTaken_last {s u : State} {p : Pole} {k : TripKind} {o : OpOutcome} (moved : s.PoleMoved p u)
    (last : s.lastTrip p k) (rests : (u.poleRec p).position = .opened ∨ o = .failed) :
    s.LastTaken p k (decide (o = .failed)) (u.tripTaken p o) := by
  obtain ⟨state, out, -, -⟩ := last
  have completed := tripCompleted_kind (s := u) o (by rw [moved.seq]; exact out)
  have taken := operatorTripsTake_eq p o (tripCompleted p o u)
  have tripping : (tripCompleted p o u).seq.state ≠ .lockout := by
    rw [completed]
    show u.seq.state ≠ .lockout
    rw [moved.seq, state]
    decide
  have cause := operatorTripsTake_cause p o tripping
  have shape := tripTaken_eq u p o
  have quiet : u.tripTaken p o = operatorTripsTake p o (tripCompleted p o u) := by
    refine lockoutTripDone_out ?_
    rw [taken]
    exact tripping
  refine ⟨?_, ?_, ?_, ?_, ?_, ?_, fun q other => (tripTaken_poleRec u p o q).trans (moved.others q other), ?_⟩
  · have seq : (operatorTripsTake p o (tripCompleted p o u)).seq = { (tripCompleted p o u).seq with
        operatorTrips := (operatorTripsTake p o (tripCompleted p o u)).seq.operatorTrips } := by
      conv_lhs => rw [taken]
      rw [cause, operatorTripsTake_eq p o]
    rw [quiet, seq, completed, moved.seq, moved.prot]
    simp only [decide_eq_true_eq, decide_eq_false_iff_not]
  · rw [shape, moved.prot]
  · rw [shape, moved.holds]
  · rw [shape, moved.batt]
  · rw [shape, moved.store]
  · rw [shape, moved.time]
  · rw [tripTaken_poleRec]
    exact rests.imp_right decide_eq_true

end Sys2Proof.Machine
end

section
/-! PROOFS. The end of TRIPPING at the last trip's completion (R52, R53): follow-on trips, LOCKOUT or DEAD_TIME. -/

namespace Sys2Proof.Machine

/-! ## TRIPPING's end judged on the last trip -/

/-- A statement by cases on a condition. -/
theorem ite_intro {c A B : Prop} [Decidable c] (yes : c → A) (no : ¬ c → B) : if c then A else B := by
  split
  case isTrue h => exact yes h
  case isFalse h => exact no h

section
variable {s v : State} {p : Pole} {k : TripKind} {failed : Bool}

/-- R52: the failed poles after the last trip. -/
def State.failedAfter (s : State) (p : Pole) (failed : Bool) : PoleMask :=
  if failed then s.seq.ctx.failed.set p true else s.seq.ctx.failed

/-- R52 step 1: the poles that a follow-on trip is ordered on after the last trip. -/
def State.followsAfter (s : State) (p : Pole) (failed : Bool) (y : Pole) : Prop :=
  y ≠ p ∧ (s.poleRec y).position ≠ .opened ∧ (s.failedAfter p failed).get y = false

theorem State.LastTaken.outstanding (h : s.LastTaken p k failed v) (last : s.lastTrip p k) (q : Pole) :
    v.seq.ctx.tripsOut.get q = none ∧ v.seq.ctx.closesOut.get q = false := by
  obtain ⟨-, -, trips, closes⟩ := last
  rw [h.seq]
  refine ⟨(PerPole.get_set _ p q _).trans ?_, closes q⟩
  split
  case isTrue => rfl
  case isFalse other => exact trips q other

theorem State.LastTaken.state (h : s.LastTaken p k failed v) (last : s.lastTrip p k) : v.seq.state = .tripping := by
  rw [h.seq]
  exact last.1

theorem State.LastTaken.ends (h : s.LastTaken p k failed v) (last : s.lastTrip p k) :
    endIfSettled v = trippingEnds v :=
  endIfSettled_last (h.state last) (fun q => (h.outstanding last q).1) fun q => (h.outstanding last q).2

theorem State.LastTaken.failedPoles (h : s.LastTaken p k failed v) : v.seq.ctx.failed = s.failedAfter p failed := by
  rw [h.seq]
  rfl

theorem State.LastTaken.follow_iff (h : s.LastTaken p k failed v) (last : s.lastTrip p k) (y : Pole) :
    v.follow.get y = true ↔ s.followsAfter p failed y := by
  rw [Machine.follow_iff (h.outstanding last y).2, h.failedPoles]
  simp only [(h.outstanding last y).1, true_and]
  by_cases same : y = p
  · subst same
    refine ⟨fun ⟨closed, sound⟩ => ?_, fun ⟨other, _⟩ => absurd rfl other⟩
    obtain opened | failed := h.rests
    · exact absurd opened closed
    · rw [State.failedAfter, failed, if_pos rfl, PerPole.get_set, if_pos rfl] at sound
      cases sound
  · rw [h.others y same]
    exact ⟨fun ⟨closed, sound⟩ => ⟨same, closed, sound⟩, fun ⟨_, closed, sound⟩ => ⟨closed, sound⟩⟩

theorem State.LastTaken.followsOn_iff (h : s.LastTaken p k failed v) (last : s.lastTrip p k) :
    v.followsOn ↔ (s.failedAfter p failed).isEmpty = false ∧ ∃ y, s.followsAfter p failed y := by
  have due : v.follow.isEmpty = false ↔ ∃ y, s.followsAfter p failed y := by
    rw [← not_iff_not, Bool.not_eq_false, PoleMask.isEmpty_iff, not_exists]
    exact forall_congr' fun y => by rw [← h.follow_iff last y, Bool.not_eq_true]
  unfold State.followsOn
  rw [h.failedPoles, due]

/-- R52, R66: the record as the last trip and TRIPPING's end leave it. -/
theorem State.LastTaken.recordEnded (h : s.LastTaken p k failed v) (x : FaultRecord) :
    v.recordEnded x = if s.seq.ctx.ordered.isEmpty then x else
      { x with lastMask := s.seq.ctx.ordered, shots := s.seq.shot, elements := x.elements.union s.seq.ctx.elements,
               clearing := (s.seq.ctx.pickup.map fun i => s.now - i).getD x.clearing } := by
  have now : v.now = s.now := congrArg TimeBase.baseCount h.time
  unfold State.recordEnded FaultRecord.atTrippingEnd
  rw [now, h.seq]
  dsimp only
  cases s.seq.ctx.pickup <;> rfl

theorem State.LastTaken.worked (h : s.LastTaken p k failed v) (g : FaultRecord → FaultRecord) :
    workOpen v.seq.openRecord g v.seq.faults =
      workOpen s.seq.openRecord (fun x => g (x.raisedFor k s.prot.release.episode)) s.seq.faults := by
  rw [h.seq]
  exact workOpen_workOpen _ g _ (FaultRecord.raisedFor_number k _)

/-- R52: the lockout that TRIPPING's end gives after the last trip. -/
theorem State.LastTaken.lockout (h : s.LastTaken p k failed v) :
    trippingLockout v =
      if (s.failedAfter p failed).isEmpty = false then some (.mechFail, .tripFailed)
      else if s.seq.ctx.closeFailed = true then some (.mechFail, .lockout)
      else if s.seq.ctx.endCause = some .operator then some (.operator, .lockout)
      else if s.seq.ctx.endCause = some .evolving then some (.evolving, .lockout)
      else if s.seq.ctx.endCause = some .closeOntoFault then some (.closeOntoFault, .lockout)
      else if s.holds.table ≠ [] then some (.hold, .lockout)
      else if s.seq.shot = s.store.active.shotCount then some (.lastShot, .lockout)
      else if gateFires v then some (.gate, .lockout)
      else if s.batt.level = .shutdownPending then some (.supply, .lockout)
      else none := by
  have table : (!s.holds.table.isEmpty) = true ↔ s.holds.table ≠ [] := by
    cases s.holds.table <;> simp
  have cause : v.seq.ctx.endCause = s.seq.ctx.endCause := by rw [h.seq]
  have close : v.seq.ctx.closeFailed = s.seq.ctx.closeFailed := by rw [h.seq]
  have shot : v.seq.shot = s.seq.shot := by rw [h.seq]
  unfold trippingLockout
  dsimp only
  rw [h.failedPoles, cause, close, shot, h.holds, h.store, h.batt]
  cases s.seq.ctx.endCause with
  | some e => cases e <;> simp [EndCause.cause]
  | none => simp [table]

/-- R53: whether the lockout gate fires after the last trip. -/
theorem State.LastTaken.gate (h : s.LastTaken p k failed v) :
    gateFires v = true ↔ (gateCondition (s.store.active.gateCondition s.seq.shot) v = true ↔
      s.store.active.gateSense s.seq.shot = true) := by
  have shot : v.seq.shot = s.seq.shot := by rw [h.seq]
  rw [gateFires_iff, h.store, shot]

/-- R52 step 1: follow-on trips after the last trip. -/
theorem State.LastTaken.follows (h : s.LastTaken p k failed v) (last : s.lastTrip p k) (on : v.followsOn) :
    let t := (endIfSettled v).1
    t.seq = { v.seq with ctx := { v.seq.ctx.ordering v.follow .fault with ordered := s.seq.ctx.ordered.union v.follow } } ∧
    t.prot = s.prot.release ∧ t.batt.test = none ∧
    ∀ y, t.poleRec y = if v.follow.get y = true then ((v.poleRec y).order s.store.active s.now).1 else v.poleRec y := by
  obtain ⟨y, due⟩ := ((h.followsOn_iff last).mp on).2
  obtain ⟨seq, prot, -, test⟩ := orderTrips_blocks v.follow v.followOrdered
  have ends : endIfSettled v = orderTrips v.follow v.followOrdered := (h.ends last).trans (trippingEnds_follows on)
  have ordered : v.seq.ctx.ordered = s.seq.ctx.ordered := by rw [h.seq]
  have now : v.now = s.now := congrArg TimeBase.baseCount h.time
  intro t
  have shape : t = (orderTrips v.follow v.followOrdered).1 := congrArg Prod.fst ends
  rw [shape]
  refine ⟨seq.trans ?_, prot.trans h.prot, test ⟨y, (h.follow_iff last y).mpr due⟩, fun q => ?_⟩
  · rw [← ordered]
    rfl
  · rw [orderTrips_poleRec, ← h.store, ← now]
    rfl

/-- R52: the sequence goes on after the last trip. -/
theorem State.LastTaken.leaves (h : s.LastTaken p k failed v) (last : s.lastTrip p k) (off : ¬ v.followsOn) :
    (endIfSettled v).1 = v.trippingLeft ∧ v.trippingLeft.prot = s.prot.release ∧
    ∀ y, y ≠ p → v.trippingLeft.poleRec y = s.poleRec y := by
  refine ⟨congrArg Prod.fst ((h.ends last).trans (trippingEnds_leaves off)), (trippingLeft_prot v).trans h.prot,
    fun y other => ?_⟩
  exact (congrArg (fun c : LineUnit × PoleDrive => c.2.pole.get y) (trippingLeft_cabinet v)).trans (h.others y other)

/-- R55: DEAD_TIME after the last trip. -/
theorem State.LastTaken.dead (h : s.LastTaken p k failed v) (none : trippingLockout v = none) :
    let t := v.trippingLeft
    t.seq.state = .deadTime ∧ t.seq.deadTimer = some (s.now + s.store.active.deadTime s.seq.shot) ∧
    t.seq.shot = s.seq.shot ∧ t.seq.openRecord = s.seq.openRecord ∧
    t.seq.faults = workOpen s.seq.openRecord
      (fun x => v.recordEnded (x.raisedFor k s.prot.release.episode)) s.seq.faults ∧
    t.seq.ctx.reclose =
      (if failed = false ∧ k = .fault then s.seq.ctx.reclose.set p true else s.seq.ctx.reclose) ∧
    t.seq.cause = s.seq.cause ∧ t.seq.lamp = s.seq.lamp := by
  have now : v.now = s.now := congrArg TimeBase.baseCount h.time
  intro t
  have seq : t.seq = _ := trippingLeft_dead none
  rw [h.worked, now, h.store, h.seq] at seq
  rw [seq]
  exact ⟨rfl, rfl, rfl, rfl, rfl, rfl, rfl, rfl⟩

/-- R52 step 1: the sequence and the poles with follow-on trips ordered. -/
theorem State.LastTaken.orders (h : s.LastTaken p k failed v) (last : s.lastTrip p k) (on : v.followsOn) :
    let t := (endIfSettled v).1
    t.seq.state = .tripping ∧ t.seq.shot = s.seq.shot ∧ t.seq.openRecord = s.seq.openRecord ∧
    t.seq.faults = workOpen s.seq.openRecord (FaultRecord.raisedFor k s.prot.release.episode) s.seq.faults ∧
    t.seq.cause = s.seq.cause ∧ t.seq.lamp = s.seq.lamp ∧ t.seq.ctx.endCause = s.seq.ctx.endCause ∧
    t.seq.ctx.failed = s.failedAfter p failed ∧ t.batt.test = none ∧
    (∀ y, (s.followsAfter p failed y → t.seq.ctx.tripsOut.get y = some .fault ∧ t.seq.ctx.ordered.get y = true) ∧
      (¬ s.followsAfter p failed y →
        t.seq.ctx.tripsOut.get y = none ∧ t.seq.ctx.ordered.get y = s.seq.ctx.ordered.get y)) ∧
    (∀ y, s.followsAfter p failed y → ((s.poleRec y).mech = .idle ∨ (s.poleRec y).mech = .failed) →
      t.poleRec y = (s.poleRec y).tripBegun s.store.active s.now) ∧
    (∀ y, y ≠ p → ¬ s.followsAfter p failed y → t.poleRec y = s.poleRec y) := by
  obtain ⟨seq, -, test, records⟩ := h.follows last on
  intro t
  have seqAt : t.seq = _ := seq
  have state := h.state last
  have trips : ∀ y, t.seq.ctx.tripsOut.get y = if v.follow.get y then some .fault else none := by
    intro y
    rw [← (h.outstanding last y).1]
    rw [seqAt]
    exact PerPole.get_zip ..
  have ordered : ∀ y, t.seq.ctx.ordered.get y = (s.seq.ctx.ordered.get y || v.follow.get y) := by
    intro y
    rw [seqAt]
    exact PerPole.get_zip ..
  have failures := h.failedPoles
  refine ⟨?_, ?_, ?_, ?_, ?_, ?_, ?_, ?_, test, fun y => ⟨fun due => ?_, fun none => ?_⟩, fun y due rest => ?_,
    fun y other none => ?_⟩
  · rw [seqAt]
    exact state
  · rw [seqAt, h.seq]
  · rw [seqAt, h.seq]
  · rw [seqAt, h.seq]
  · rw [seqAt, h.seq]
  · rw [seqAt, h.seq]
  · rw [seqAt, h.seq]
    rfl
  · rw [seqAt]
    exact failures
  · have on := (h.follow_iff last y).mpr due
    rw [trips, ordered, on, Bool.or_true]
    exact ⟨rfl, rfl⟩
  · have off : v.follow.get y = false := Bool.eq_false_iff.mpr fun on => none ((h.follow_iff last y).mp on)
    rw [trips, ordered, off, Bool.or_false]
    exact ⟨rfl, rfl⟩
  · rw [records, if_pos ((h.follow_iff last y).mpr due), h.others y due.1]
    exact congrArg Prod.fst (PoleRecord.order_begins _ _ due.2.1 rest)
  · rw [records, if_neg fun on => none ((h.follow_iff last y).mp on), h.others y other]

/-- R51 to R53, R63, R66, R40: the end of TRIPPING, in the words of the statements. -/
theorem State.LastTaken.done (h : s.LastTaken p k failed v) (last : s.lastTrip p k) :
    s.lastTripDone p k failed (endIfSettled v).1 := by
  have prot : (endIfSettled v).1.prot = s.prot.release := by
    by_cases on : v.followsOn
    · exact (h.follows last on).2.1
    · obtain ⟨ends, prot, -⟩ := h.leaves last on
      rw [ends, prot]
  unfold State.lastTripDone
  intro q c b failedPoles follows raised ended work flag phase code condition fires outcome toDead goesOn
  have records : (fun x => v.recordEnded (x.raisedFor k s.prot.release.episode)) = fun x => ended (raised x) := by
    funext x
    rw [h.recordEnded]
    simp only [ended, raised, prot]
    rfl
  have entered : ∀ {cause o}, ¬ v.followsOn → trippingLockout v = some (cause, o) → outcome cause o := by
    intro cause o off lockout
    obtain ⟨state, why, shot, dead, reclaim, mark, lamp, record, ordered, faults⟩ := trippingLeft_lockout lockout
    have ends := (h.leaves last off).1
    simp only [outcome]
    rw [ends]
    refine ⟨state, why, shot, dead, reclaim, mark, lamp, record, ordered, faults.trans ?_⟩
    rw [h.worked]
    simp only [congrFun records]
    rfl
  have same : raised = FaultRecord.raisedFor k s.prot.release.episode := by
    funext x
    simp only [raised, prot]
    rfl
  have gate : fires ↔ gateFires v = true := by
    have faults : v.seq.faults = work raised q.faults := by
      rw [h.seq, same]
      rfl
    have record : v.seq.openRecord = q.openRecord := by rw [h.seq]
    have elements : v.seq.ctx.elements = c.elements := by rw [h.seq]
    have flags : v.seq.userFlags = q.userFlags := by rw [h.seq]
    have latest : v.prot.latest = s.prot.latest := by rw [h.prot]; rfl
    rw [h.gate, gateCondition_iff, faults, record, elements, flags, latest, h.batt, h.store]
    exact Iff.rfl
  have others : ¬ v.followsOn → ∀ y, y ≠ p → (endIfSettled v).1.poleRec y = s.poleRec y := by
    intro off
    obtain ⟨ends, -, kept⟩ := h.leaves last off
    rw [ends]
    exact kept
  have lockout := h.lockout
  refine ⟨?_, ?_, ?_, ?_⟩
  · intro x
    rw [prot]
    exact s.prot.release_elements x
  · rw [prot]
    exact s.prot.release_closes.1
  · rw [prot]
    exact s.prot.release_closes.2
  by_cases failure : failedPoles.isEmpty = false
  · rw [if_pos failure]
    refine ⟨fun due => ?_, fun none => ?_⟩
    · have on : v.followsOn := (h.followsOn_iff last).mpr ⟨failure, due⟩
      obtain ⟨state, shot, record, faults, rest⟩ := h.orders last on
      exact ⟨state, shot, record, faults.trans (same ▸ rfl), rest⟩
    · have off : ¬ v.followsOn := fun on => ((h.followsOn_iff last).mp on).2.elim none
      exact ⟨entered off (lockout.trans (if_pos failure)), others off⟩
  · have off : ¬ v.followsOn := fun on => failure ((h.followsOn_iff last).mp on).1
    have sound : failed = false := by
      cases marked : failed with
      | false => rfl
      | true =>
        refine absurd ?_ failure
        simp only [failedPoles, marked, if_true]
        exact PoleMask.isEmpty_set _ _
    rw [if_neg failure]
    replace lockout := lockout.trans (if_neg failure)
    refine ⟨others off, ?_⟩
    refine ite_intro (fun close => entered off (lockout.trans (if_pos close))) fun close => ?_
    replace lockout := lockout.trans (if_neg close)
    refine ite_intro (fun operator => entered off (lockout.trans (if_pos operator))) fun operator => ?_
    replace lockout := lockout.trans (if_neg operator)
    refine ite_intro (fun evolving => entered off (lockout.trans (if_pos evolving))) fun evolving => ?_
    replace lockout := lockout.trans (if_neg evolving)
    refine ite_intro (fun onto => entered off (lockout.trans (if_pos onto))) fun onto => ?_
    replace lockout := lockout.trans (if_neg onto)
    refine ite_intro (fun hold => entered off (lockout.trans (if_pos hold))) fun hold => ?_
    replace lockout := lockout.trans (if_neg hold)
    refine ite_intro (fun shot => entered off (lockout.trans (if_pos shot))) fun shot => ?_
    replace lockout := lockout.trans (if_neg shot)
    refine ⟨fun on => entered off (lockout.trans (if_pos (gate.mp on))), fun quiet => ?_⟩
    replace lockout := lockout.trans (if_neg fun on => quiet (gate.mpr on))
    refine ite_intro (fun supply => entered off (lockout.trans (if_pos supply))) fun supply => ?_
    have dead := h.dead (lockout.trans (if_neg supply))
    obtain ⟨ends, -, -⟩ := h.leaves last off
    simp only [toDead]
    rw [ends]
    simp only [sound, true_and] at dead
    obtain ⟨state, timer, shot, record, faults, rest⟩ := dead
    refine ⟨state, timer, shot, record, faults.trans ?_, rest⟩
    simp only [congrFun records]
    rfl

end

end Sys2Proof.Machine
end

section
/-! PROOFS. The timers of a trip settled (R51 to R53, R60, R61, R73 to R75). -/

namespace Sys2Proof.Machine

/-- What follows TRIPPING's end and leaves the elements, the poles and the test alone, and of the sequence all but the mark
of the start decision. -/
theorem State.lastTripDone.after {s t u : State} {p : Pole} {k : TripKind} {failed : Bool}
    (h : s.lastTripDone p k failed t) (seq : u.seq = { t.seq with decided := u.seq.decided }) (prot : u.prot = t.prot)
    (poles : u.poles = t.poles) (batt : u.batt = t.batt) : s.lastTripDone p k failed u := by
  unfold State.lastTripDone at h ⊢
  simp only [State.poleRec] at h ⊢
  rw [seq, prot, poles, batt]
  exact h

/-- R51 to R53: the last trip's completion, with what it brings. -/
theorem takeCompletion_lastTrip {s u : State} {p : Pole} {k : TripKind} {o : OpOutcome} (moved : s.PoleMoved p u)
    (last : s.lastTrip p k) (rests : (u.poleRec p).position = .opened ∨ o = .failed) :
    s.lastTripDone p k (decide (o = .failed)) (takeCompletion ⟨p, false, o⟩ u).1 ∧
    (takeCompletion ⟨p, false, o⟩ u).1.poleRec p = u.poleRec p := by
  have taken := tripTaken_last moved last rests
  rw [takeCompletion_trip]
  refine ⟨taken.done last, ?_⟩
  obtain same | ⟨-, on, -, -⟩ := endIfSettled_poleRec (u.tripTaken p o) p
  · exact same.trans (tripTaken_poleRec u p o p)
  · rw [(taken.follows last on).2.2.2 p, if_neg fun due => ((taken.follow_iff last p).mp due).1 rfl]
    exact tripTaken_poleRec u p o p

section
variable {f : State → State × List Completion} {s : State} {p : Pole} {k : TripKind}

theorem poleEvent_lastTrip {v : Verdict} {o : OpOutcome} (brings : f s = (endOperation p false v s, [⟨p, false, o⟩]))
    (last : s.lastTrip p k) (rests : (v.record (s.poleRec p)).position = .opened ∨ o = .failed) :
    s.lastTripDone p k (decide (o = .failed)) (poleEvent f s) ∧
    (poleEvent f s).poleRec p = v.record (s.poleRec p) := by
  have ended := endOperation_poleRec p false v s
  obtain ⟨done, record⟩ := takeCompletion_lastTrip (endOperation_moved p false v s) last (by rwa [ended])
  rw [poleEvent_one brings]
  exact ⟨done.after rfl rfl rfl rfl, record.trans ended⟩

end

/-- Settles O26: each timer of a trip by the pole's state. -/
theorem tripTimersEnd : Obligations.TripTimersEnd := by
  intro p s r b retried fails
  have fail : ∀ {g : State → State × List Completion}, g s = (endOperation p false .fails s, [⟨p, false, .failed⟩]) →
      fails (.next (poleEvent g s)) := by
    intro g brings
    obtain ⟨failed, position, alarm⟩ := poleEvent_tripFails brings
    exact ⟨_, rfl, failed, position, alarm, poleEvent_tripEnds brings, rfl, rfl⟩
  have pulseHeld : r.mech = .tripPulse → r.position ≠ .opened → r.windowHeld = true →
      tripPulseEnds p s = missedAttempt p s :=
    fun pulse closed held => (tripPulseEnds_closed pulse closed).trans (if_pos held)
  refine ⟨fun expires pulse => ⟨fun opened => ?_, fun closed running => ?_, fun closed held first retry => ?_,
      fun closed held last => ?_⟩,
    fun expires => ⟨fun pulse => ?_, fun wait first retry => ?_, fun wait last => ?_⟩, fun expires gap => ?_,
    fun k last => ⟨fun expires pulse opened => ?_, fun expires pulse closed held missed => ?_,
      fun expires wait missed => ?_⟩⟩
  · have brings := tripPulseEnds_opened pulse opened
    have record := poleEvent_tripRests brings opened
    refine ⟨_, expires_run expires, poleEvent_tripEnds brings, ?_⟩
    rw [record]
    exact ⟨PoleRecord.ended_mech _ _, rfl, rfl, rfl, rfl, rfl, rfl⟩
  · refine (expires_run expires).trans (congrArg _ (poleEvent_quiet ?_))
    exact (tripPulseEnds_closed pulse closed).trans (if_neg (Bool.eq_false_iff.mp running))
  · refine (expires_run expires).trans (congrArg _ (poleEvent_quiet ?_))
    exact (pulseHeld pulse closed held).trans (missedAttempt_retries first retry)
  · rw [show exec (.tripPulseEnd p) s = _ from expires_run expires]
    exact fail ((pulseHeld pulse closed held).trans (missedAttempt_fails last))
  · exact (expires_run expires).trans (congrArg _ (poleEvent_quiet (tripWindowExpires_pulse pulse)))
  · refine (expires_run expires).trans (congrArg _ (poleEvent_quiet ?_))
    exact (tripWindowExpires_wait wait).trans (missedAttempt_retries first retry)
  · rw [show exec (.tripWindowExpiry p) s = _ from expires_run expires]
    exact fail ((tripWindowExpires_wait wait).trans (missedAttempt_fails last))
  · exact (expires_run expires).trans (congrArg _ (if_pos gap))
  · obtain ⟨done, record⟩ := poleEvent_lastTrip (tripPulseEnds_opened pulse opened) last (.inl opened)
    refine ⟨_, expires_run expires, ?_, record⟩
    have sound : decide ((if r.attempt = 2 then OpOutcome.retriedSuccess else .success) = .failed) = false := by
      split <;> rfl
    exact sound ▸ done
  · have brings := (pulseHeld pulse closed held).trans (missedAttempt_fails missed)
    obtain ⟨done, record⟩ := poleEvent_lastTrip brings last (.inr rfl)
    exact ⟨_, expires_run expires, done, record⟩
  · have brings := (tripWindowExpires_wait wait).trans (missedAttempt_fails missed)
    obtain ⟨done, record⟩ := poleEvent_lastTrip brings last (.inr rfl)
    exact ⟨_, expires_run expires, done, record⟩

end Sys2Proof.Machine
end

section
/-! PROOFS. A close completion taken (R51, R58, R62, R63, R105), and the timers of a close (R77). -/

namespace Sys2Proof.Machine

/-! ## A close completion, by the sequence's state -/

/-- R51, R58, R62: a close completion recorded. -/
def State.closeRecorded (s : State) (p : Pole) (o : OpOutcome) : State :=
  s.withSeq { s.seq with
    ctx := { s.seq.ctx with
      closesOut := s.seq.ctx.closesOut.set p false, closeFailed := s.seq.ctx.closeFailed || decide (o = .failed) }
    operatorClose := s.seq.operatorClose.map (·.take p o) }

theorem handCloseOutcome_outside (o : CloseOutcome) (s : State) :
    (handCloseOutcome o s).store = s.store ∧ (handCloseOutcome o s).time = s.time := by
  unfold handCloseOutcome
  split
  · split <;> exact ⟨rfl, rfl⟩
  · exact ⟨rfl, rfl⟩

section
variable {s : State} {p : Pole} (o : OpOutcome)

theorem takeCompletion_untracked (h : s.seq.ctx.closesOut.get p = false) :
    takeCompletion ⟨p, true, o⟩ s = (s, []) := if_pos h

theorem takeCompletion_closing (tracked : s.seq.ctx.closesOut.get p = true) (closing : s.seq.state = .closing) :
    takeCompletion ⟨p, true, o⟩ s =
      (if PoleMask.isEmpty (s.seq.ctx.closesOut.set p false) then closingEnds (s.closeRecorded p o)
        else s.closeRecorded p o, []) := by
  show takeCloseCompletion p o s = _
  unfold takeCloseCompletion
  rw [if_neg (by simp [tracked])]
  exact if_pos closing

theorem takeCompletion_left (tracked : s.seq.ctx.closesOut.get p = true) (out : s.seq.state ≠ .closing) :
    takeCompletion ⟨p, true, o⟩ s = endIfSettled (handCloseOutcome .tripped (s.closeRecorded p o)) := by
  show takeCloseCompletion p o s = _
  unfold takeCloseCompletion
  rw [if_neg (by simp [tracked])]
  exact if_neg out

/-- R52, R58: a close completion ends TRIPPING, or works on neither Line Unit nor poles. -/
theorem takeCompletion_close_cases :
    (takeCompletion ⟨p, true, o⟩ s).1.cabinet = s.cabinet ∨
    ∃ u, takeCompletion ⟨p, true, o⟩ s = endIfSettled u ∧ u.cabinet = s.cabinet ∧ u.store = s.store ∧ u.time = s.time ∧
      u.seq.state = s.seq.state ∧ u.seq.ctx.failed = s.seq.ctx.failed := by
  cases tracked : s.seq.ctx.closesOut.get p with
  | false =>
    rw [takeCompletion_untracked o tracked]
    exact .inl rfl
  | true =>
    by_cases closing : s.seq.state = .closing
    · rw [takeCompletion_closing o tracked closing]
      left
      dsimp only
      split
      · exact closingEnds_cabinet _
      · rfl
    · obtain ⟨store, time⟩ := handCloseOutcome_outside .tripped (s.closeRecorded p o)
      refine .inr ⟨_, takeCompletion_left o tracked closing, handCloseOutcome_cabinet .tripped _, store, time, ?_, ?_⟩
      all_goals
        rw [(handCloseOutcome_blocks .tripped _).1]
        rfl

theorem followsOn_mayFollowOn {u : State} (state : u.seq.state = .tripping) (on : u.followsOn) : u.mayFollowOn := by
  refine ⟨state, ?_⟩
  by_contra none
  have empty : u.seq.ctx.failed.isEmpty = true :=
    (PoleMask.isEmpty_iff _).mpr fun q => Bool.eq_false_iff.mpr fun failed => none ⟨q, failed⟩
  cases on.1.symm.trans empty

theorem endIfSettled_cabinet {u : State} (off : ¬ u.mayFollowOn) : (endIfSettled u).1.cabinet = u.cabinet := by
  obtain none | ⟨state, -, ⟨on, -⟩ | ⟨-, leaves⟩⟩ := endIfSettled_cases u
  · rw [none]
  · exact absurd (followsOn_mayFollowOn state on) off
  · rw [leaves]
    exact trippingLeft_cabinet u

/-- R52, R58: without a failed trip a close completion works on neither Line Unit nor poles. -/
theorem takeCompletion_close_cabinet (off : ¬ s.mayFollowOn) :
    (takeCompletion ⟨p, true, o⟩ s).1.cabinet = s.cabinet := by
  obtain same | ⟨u, taken, cabinet, -, -, state, failed⟩ := takeCompletion_close_cases (s := s) (p := p) o
  · exact same
  · rw [taken, endIfSettled_cabinet, cabinet]
    rwa [State.mayFollowOn, state, failed]

/-- R52, R72: a close completion works on a pole only by a follow-on trip. -/
theorem takeCompletion_close_poleRec (q : Pole) :
    (takeCompletion ⟨p, true, o⟩ s).1.poleRec q = s.poleRec q ∨
    s.mayFollowOn ∧ (s.poleRec q).position ≠ .opened ∧
      (takeCompletion ⟨p, true, o⟩ s).1.poleRec q = ((s.poleRec q).order s.store.active s.now).1 := by
  have pole : ∀ {u : State}, u.cabinet = s.cabinet → u.poleRec q = s.poleRec q :=
    fun h => congrArg (fun c : LineUnit × PoleDrive => c.2.pole.get q) h
  obtain same | ⟨u, taken, cabinet, store, time, state, failed⟩ := takeCompletion_close_cases (s := s) (p := p) o
  · exact .inl (pole same)
  · have now : u.now = s.now := congrArg TimeBase.baseCount time
    have moved := endIfSettled_poleRec u q
    rw [pole cabinet, store, now] at moved
    rw [taken]
    refine moved.imp_right fun ⟨tripping, on, closed, ordered⟩ => ⟨?_, closed, ordered⟩
    have may := followsOn_mayFollowOn tripping on
    rwa [State.mayFollowOn, state, failed] at may

end

/-! ## The operator close takes it (R62, R105) -/

/-- R105: the CLOSE is answered as its record is removed. -/
theorem handCloseOutcome_answers {s u t : State} {r : CloseRecord} {x : OperatorClose} (o : CloseOutcome)
    (spared : s.Spared r.cmd 2 u) (pending : u.seq.operatorClose = some x) (last : x.waiting.isEmpty = true)
    (record : u.holds.close = some r) (after : (handCloseOutcome o u).Heard t) :
    s.answersWaiting t r.cmd (o.answer x.outcomes) := by
  have ended : handCloseOutcome o u = (u.withSeq { u.seq with operatorClose := none }).onlyClose
      (complete r.cmd (o.answer x.outcomes) (u.withSeq { u.seq with operatorClose := none }).withoutClose) := by
    unfold handCloseOutcome
    rw [pending]
    refine (if_pos last).trans ?_
    unfold closeEnds
    rw [State.withSeq_holds, record]
  refine answersWaiting_of_complete (u := (u.withSeq { u.seq with operatorClose := none }).withoutClose)
    ⟨spared.ctx, spared.room⟩ ?_
  rw [ended] at after
  exact ⟨after.output, after.idle⟩

/-- R58: RECLAIM entered. -/
def State.reclaiming (s : State) : State :=
  s.withSeq { s.seq with
    state := .reclaim, shot := if s.seq.afterClose then 1 else s.seq.shot + 1
    reclaimTimer := some (s.now + s.store.active.reclaimTime) }

theorem closingEnds_sound {s : State} (sound : s.seq.ctx.closeFailed = false) :
    closingEnds s = handCloseOutcome .succeeded s.reclaiming := by
  unfold closingEnds
  exact if_neg (by simp [sound])

theorem closingEnds_failed {s : State} (failed : s.seq.ctx.closeFailed = true) :
    closingEnds s = handCloseOutcome .failed (enterLockout .mechFail .lockout s) := if_pos failed

theorem enterLockout_spared (c : LockoutCause) (o : FaultOutcome) (s : State) (r : CmdRef) :
    s.Spared r 1 (enterLockout c o s) := by
  obtain ⟨ctx, room⟩ := raise_spared .lockout (lockoutBody c s.seq.recordNumber) (s.withSeq { s.seq.closeRecord o (some c) with
    state := .lockout, cause := c, shot := 1, deadTimer := none, reclaimTimer := none, afterClose := false
    ctx := (s.seq.closeRecord o (some c)).ctx.emptied, initial := false, lamp := true }) r
  exact ⟨ctx, room⟩

/-- R58: the last close outstanding leaves none. -/
theorem lastClose_none {s : State} {p : Pole} (last : s.lastClose p) :
    PoleMask.isEmpty (s.seq.ctx.closesOut.set p false) = true := by
  refine (PoleMask.isEmpty_iff _).mpr fun q => (PerPole.get_set _ p q _).trans ?_
  split
  case isTrue => rfl
  case isFalse other => exact last.2.2 q other

section
variable {s u : State} {p : Pole} {o : OpOutcome} {c : OperatorClose} {r : CloseRecord}
  (moved : s.PoleMoved p u) (pending : s.seq.operatorClose = some c) (record : s.holds.close = some r)
  (tracked : s.seq.ctx.closesOut.get p = true)
include moved pending record tracked

/-- R62, R105: an operator close with closes still to come waits on. -/
theorem takeCompletion_closeWaits (pulsing : r.phase = .pulsing) (more : (c.take p o).waiting.isEmpty = false) :
    (takeCompletion ⟨p, true, o⟩ u).1.holds.close = some r ∧
    (takeCompletion ⟨p, true, o⟩ u).1.seq.operatorClose = some (c.take p o) := by
  have taken : (u.closeRecorded p o).seq.operatorClose = some (c.take p o) := by
    show u.seq.operatorClose.map _ = _
    rw [moved.seq, pending]
    rfl
  have stays : (u.closeRecorded p o).holds.close = some r := (congrArg HoldUnit.close moved.holds).trans record
  have waits : ∀ {x : State} (y : CloseOutcome), x.seq.operatorClose = some (c.take p o) → handCloseOutcome y x = x :=
    fun y own => handCloseOutcome_waits y fun z found => by
      obtain rfl := Option.some.inj (own.symm.trans found)
      exact more
  have out : u.seq.ctx.closesOut.get p = true := by rw [moved.seq, tracked]
  by_cases closing : u.seq.state = .closing
  · rw [takeCompletion_closing o out closing]
    dsimp only
    split
    · cases failed : (u.closeRecorded p o).seq.ctx.closeFailed with
      | true =>
        have kept := (enterLockout_ops .mechFail .lockout (u.closeRecorded p o)).2.trans taken
        rw [closingEnds_failed failed, waits _ kept]
        exact ⟨stays, kept⟩
      | false =>
        rw [closingEnds_sound failed, waits .succeeded (x := (u.closeRecorded p o).reclaiming) taken]
        exact ⟨stays, taken⟩
    · exact ⟨stays, taken⟩
  · rw [takeCompletion_left o out closing, waits _ taken]
    have ops := endIfSettled_ops (u.closeRecorded p o)
    exact ⟨ops.pulsing r stays pulsing, ops.close.trans taken⟩

/-- R62, R105: the last completion of an operator close removes its record and answers the CLOSE. -/
theorem takeCompletion_closeAnswers (none : (c.take p o).waiting.isEmpty = true)
    (ended : s.seq.state ≠ .closing ∨ s.lastClose p) :
    (takeCompletion ⟨p, true, o⟩ u).1.holds.close = Option.none ∧
    (takeCompletion ⟨p, true, o⟩ u).1.seq.operatorClose = Option.none ∧
    s.answersWaiting (takeCompletion ⟨p, true, o⟩ u).1 r.cmd
      (if s.seq.state = .closing ∧ s.seq.ctx.closeFailed = false ∧ o ≠ .failed then
        .done (sentOutcomes (c.take p o).outcomes) else .failed (sentOutcomes (c.take p o).outcomes)) := by
  have taken : (u.closeRecorded p o).seq.operatorClose = some (c.take p o) := by
    show u.seq.operatorClose.map _ = _
    rw [moved.seq, pending]
    rfl
  have stays : (u.closeRecorded p o).holds.close = some r := (congrArg HoldUnit.close moved.holds).trans record
  have spared : s.Spared r.cmd 1 (u.closeRecorded p o) := (moved.spared r.cmd).congr rfl rfl
  have out : u.seq.ctx.closesOut.get p = true := by rw [moved.seq, tracked]
  have fails : (u.closeRecorded p o).seq.ctx.closeFailed = (s.seq.ctx.closeFailed || decide (o = .failed)) := by
    show (u.seq.ctx.closeFailed || _) = _
    rw [moved.seq]
  by_cases closing : s.seq.state = .closing
  · have last := ended.resolve_left (not_not.mpr closing)
    have all : PoleMask.isEmpty (u.seq.ctx.closesOut.set p false) = true := by
      rw [moved.seq]
      exact lastClose_none last
    rw [takeCompletion_closing o out (by rw [moved.seq, closing]), if_pos all]
    dsimp only
    cases failed : (u.closeRecorded p o).seq.ctx.closeFailed with
    | true =>
      have kept := (enterLockout_ops .mechFail .lockout (u.closeRecorded p o)).2.trans taken
      obtain ⟨gone, removed, -⟩ := handCloseOutcome_ends .failed kept none stays
      have answered := handCloseOutcome_answers .failed
        (spared.trans (enterLockout_spared .mechFail .lockout _ r.cmd)) kept none stays (.refl _)
      rw [closingEnds_failed failed]
      refine ⟨removed, gone, ?_⟩
      rw [if_neg fun ⟨_, sound, done⟩ => by simp [fails, sound, done] at failed, ← outcomeBytes_sent]
      exact answered
    | false =>
      obtain ⟨sound, done⟩ := Bool.or_eq_false_iff.mp (fails.symm.trans failed)
      rw [closingEnds_sound failed]
      obtain ⟨gone, removed, -⟩ := handCloseOutcome_ends .succeeded (s := (u.closeRecorded p o).reclaiming) taken none stays
      have still : s.Spared r.cmd 2 (u.closeRecorded p o).reclaiming := (spared.mono one_le_two).congr rfl rfl
      have answered := handCloseOutcome_answers .succeeded still taken none stays (.refl _)
      refine ⟨removed, gone, ?_⟩
      rw [if_pos ⟨closing, sound, of_decide_eq_false done⟩, ← outcomeBytes_sent]
      exact answered
  · rw [takeCompletion_left o out (by rwa [moved.seq])]
    obtain ⟨gone, removed, -⟩ := handCloseOutcome_ends .tripped taken none stays
    have answered := handCloseOutcome_answers .tripped (spared.mono (by decide)) taken none stays
      (endIfSettled_heard (handCloseOutcome .tripped (u.closeRecorded p o)))
    have ops := endIfSettled_ops (handCloseOutcome .tripped (u.closeRecorded p o))
    refine ⟨?_, ops.close.trans gone, ?_⟩
    · rw [Option.eq_none_iff_forall_not_mem]
      intro x found
      cases removed.symm.trans (ops.record x found)
    · rw [if_neg fun h => closing h.1, ← outcomeBytes_sent]
      exact answered

end

/-- R62, R105: the operator close takes the completion that a pole's close ends with. -/
theorem takeCompletion_closeTakes {s u : State} {p : Pole} (moved : s.PoleMoved p u) (o : OpOutcome) :
    s.closeTakes p o (takeCompletion ⟨p, true, o⟩ u).1 := by
  intro c r pending record pulsing own tracked left outcomes
  have take : c.take p o = { c with waiting := left, outcomes := outcomes } := if_pos own
  refine ⟨fun more => ?_, fun none ended => ?_⟩
  · rw [← take]
    exact takeCompletion_closeWaits moved pending record tracked pulsing (by rw [take]; exact more)
  · have answered := takeCompletion_closeAnswers (o := o) moved pending record tracked (by rw [take]; exact none) ended
    rwa [take] at answered

end Sys2Proof.Machine
end

section
/-! PROOFS. CLOSING ends (R58, R62, R63), and the timers of a close settled (R77, R105). -/

namespace Sys2Proof.Machine

/-! ## The last close outstanding (R58) -/

section
variable {s u : State} {p : Pole} {o : OpOutcome} (moved : s.PoleMoved p u) (last : s.lastClose p)
include moved last

theorem takeCompletion_lastClose :
    takeCompletion ⟨p, true, o⟩ u = (closingEnds (u.closeRecorded p o), []) ∧
    (u.closeRecorded p o).seq.ctx.closeFailed = (s.seq.ctx.closeFailed || decide (o = .failed)) := by
  have none : PoleMask.isEmpty (u.seq.ctx.closesOut.set p false) = true := by
    rw [moved.seq]
    exact lastClose_none last
  refine ⟨?_, ?_⟩
  · rw [takeCompletion_closing o (by rw [moved.seq, last.2.1]) (by rw [moved.seq, last.1]), if_pos none]
  · show (u.seq.ctx.closeFailed || _) = _
    rw [moved.seq]

/-- R58: no close has failed. -/
theorem takeCompletion_closingDone (sound : s.seq.ctx.closeFailed = false) (done : o ≠ .failed) :
    s.closingDone (takeCompletion ⟨p, true, o⟩ u).1 := by
  obtain ⟨taken, fails⟩ := takeCompletion_lastClose (o := o) moved last
  have failed : (u.closeRecorded p o).seq.ctx.closeFailed = false := by
    rw [fails, sound, decide_eq_false done]
    rfl
  obtain ⟨seq, -⟩ := handCloseOutcome_blocks .succeeded (u.closeRecorded p o).reclaiming
  have now : u.now = s.now := congrArg TimeBase.baseCount moved.time
  rw [taken, closingEnds_sound failed, State.closingDone, seq, ← moved.seq, ← moved.store, ← now]
  exact ⟨rfl, rfl, rfl, rfl, rfl, rfl⟩

/-- R58, R63: a close has failed. -/
theorem takeCompletion_closingJammed (failure : s.seq.ctx.closeFailed = true ∨ o = .failed) :
    (takeCompletion ⟨p, true, o⟩ u).1.closingJammed := by
  obtain ⟨taken, fails⟩ := takeCompletion_lastClose (o := o) moved last
  have failed : (u.closeRecorded p o).seq.ctx.closeFailed = true := by
    rw [fails, Bool.or_eq_true, decide_eq_true_eq]
    exact failure
  obtain ⟨seq, -⟩ := handCloseOutcome_blocks .failed (enterLockout .mechFail .lockout (u.closeRecorded p o))
  rw [taken, closingEnds_failed failed, State.closingJammed, seq, enterLockout_seq]
  exact ⟨rfl, rfl, rfl, rfl, rfl, rfl⟩

end

/-! ## What a close's end leaves of its pole (R52, R77) -/

theorem PoleRecord.ended_order (r : PoleRecord) (o : OpOutcome) (b : Bank) (now : Nat) (closed : r.position ≠ .opened) :
    let x := ((r.ended o).order b now).1
    x.last = some o ∧ x.failed = r.failed ∧ x.position = r.position ∧ x.mech = .tripPulse := by
  have order := PoleRecord.order_begins (r := r.ended o) b now closed (r.ended_mech o)
  intro x
  have shape : x = (r.ended o).beginTrip b now := congrArg Prod.fst order
  rw [shape]
  exact ⟨rfl, rfl, rfl, rfl⟩

/-- R77: the pole of a close that has ended rests, but for a follow-on trip. -/
def State.rests (s : State) (p : Pole) (u : PoleRecord) (t : State) : Prop :=
  (t.poleRec p).last = u.last ∧ (t.poleRec p).failed = u.failed ∧ (t.poleRec p).position = (s.poleRec p).position ∧
  ((t.poleRec p).mech = u.mech ∨ s.mayFollowOn ∧ (t.poleRec p).mech = .tripPulse) ∧
  (¬ s.mayFollowOn → t.poleRec p = u ∧ ∀ q, q ≠ p → t.poleRec q = s.poleRec q) ∧
  t.store = s.store ∧ t.time = s.time

/-- The state that a close completion of a moved pole leaves. -/
theorem takeCompletion_rests {s u : State} {p : Pole} (moved : s.PoleMoved p u) {r : PoleRecord} (o x : OpOutcome)
    (record : u.poleRec p = r.ended x) (position : r.position = (s.poleRec p).position) :
    s.rests p (r.ended x) (s.onlySequence (takeCompletion ⟨p, true, o⟩ u).1) := by
  have may : u.mayFollowOn ↔ s.mayFollowOn := by rw [State.mayFollowOn, State.mayFollowOn, moved.seq]
  have kept : ¬ s.mayFollowOn → ∀ q, (takeCompletion ⟨p, true, o⟩ u).1.poleRec q = u.poleRec q := fun off q =>
    congrArg (fun c : LineUnit × PoleDrive => c.2.pole.get q)
      (takeCompletion_close_cabinet (s := u) o fun on => off (may.mp on))
  have quiet : ¬ s.mayFollowOn → (takeCompletion ⟨p, true, o⟩ u).1.poleRec p = r.ended x ∧
      ∀ q, q ≠ p → (takeCompletion ⟨p, true, o⟩ u).1.poleRec q = s.poleRec q :=
    fun off => ⟨(kept off p).trans record, fun q other => (kept off q).trans (moved.others q other)⟩
  obtain same | ⟨on, closed, ordered⟩ := takeCompletion_close_poleRec (s := u) (p := p) o p
  · have whole := same.trans record
    refine ⟨congrArg PoleRecord.last whole, congrArg PoleRecord.failed whole,
      (congrArg PoleRecord.position whole).trans position, .inl (congrArg PoleRecord.mech whole), quiet, rfl, rfl⟩
  · rw [record] at closed ordered
    obtain ⟨outcome, failed, place, mech⟩ := r.ended_order x u.store.active u.now closed
    exact ⟨(congrArg PoleRecord.last ordered).trans outcome, (congrArg PoleRecord.failed ordered).trans failed,
      (congrArg PoleRecord.position ordered).trans (place.trans position),
      .inr ⟨may.mp on, (congrArg PoleRecord.mech ordered).trans mech⟩, quiet, rfl, rfl⟩

/-- R62, R105: what an event after the completion leaves of it. -/
theorem State.closeTakes.after {s t u : State} {p : Pole} {o : OpOutcome} (h : s.closeTakes p o t)
    (record : u.holds.close = t.holds.close) (close : u.seq.operatorClose = t.seq.operatorClose) (k : t.Heard u) :
    s.closeTakes p o u := by
  intro c r pending stands pulsing own tracked left outcomes
  obtain ⟨waits, ends⟩ := h c r pending stands pulsing own tracked
  refine ⟨fun more => ?_, fun none ended => ?_⟩
  · obtain ⟨stays, waiting⟩ := waits more
    exact ⟨record.trans stays, close.trans waiting⟩
  · obtain ⟨gone, removed, answered⟩ := ends none ended
    exact ⟨record.trans gone, close.trans removed, answered.after k⟩

/-! ## What each timer of a close brings (R77) -/

section
variable {f : State → State × List Completion} {s : State} {p : Pole}

theorem poleEvent_closeTakes {v : Verdict} {o : OpOutcome} (brings : f s = (endOperation p true v s, [⟨p, true, o⟩])) :
    s.closeTakes p o (poleEvent f s) := by
  rw [poleEvent_one brings]
  exact (takeCompletion_closeTakes (endOperation_moved p true v s) o).after rfl rfl (onlySequence_heard _ _)

/-- R77: a close ends SUCCESS. -/
theorem poleEvent_closeSucceeds (brings : f s = (endOperation p true (.completes .success) s, [⟨p, true, .success⟩])) :
    s.rests p ((s.poleRec p).ended .success) (poleEvent f s) ∧ (poleEvent f s).line.alarmEnd = s.line.alarmEnd ∧
    (¬ s.mayFollowOn → (poleEvent f s).line = s.line) ∧
    (s.lastClose p → s.seq.ctx.closeFailed = false → s.closingDone (poleEvent f s)) ∧
    (s.lastClose p → s.seq.ctx.closeFailed = true → (poleEvent f s).closingJammed) := by
  have moved := endOperation_moved p true (.completes .success) s
  have line := endOperation_completes_line p true .success s
  have may : (endOperation p true (.completes .success) s).mayFollowOn ↔ s.mayFollowOn := by
    rw [State.mayFollowOn, State.mayFollowOn, moved.seq]
  have panel := takeCompletion_panel ⟨p, true, .success⟩ (endOperation p true (.completes .success) s)
  rw [poleEvent_one brings]
  refine ⟨takeCompletion_rests moved .success .success (endOperation_poleRec p true _ s) rfl, ?_, fun off => ?_,
    fun last sound => ?_, fun last failed => ?_⟩
  · show (takeCompletion _ _).1.line.alarmEnd = _
    rw [panel.line, line]
  · exact (congrArg Prod.fst (takeCompletion_close_cabinet .success fun on => off (may.mp on))).trans line
  · exact takeCompletion_closingDone moved last sound (by decide)
  · exact takeCompletion_closingJammed moved last (.inl failed)

/-- R77: a close fails. -/
theorem poleEvent_closeFails (brings : f s = (endOperation p true .fails s, [⟨p, true, .failed⟩])) :
    s.rests p ({ s.poleRec p with failed := true }.ended .failed) (poleEvent f s) ∧
    ((poleEvent f s).poleRec p).failed = true ∧ (poleEvent f s).line.alarmEnd.isSome = true ∧
    (s.lastClose p → (poleEvent f s).closingJammed) := by
  have moved := endOperation_moved p true .fails s
  have panel := takeCompletion_panel ⟨p, true, .failed⟩ (endOperation p true .fails s)
  rw [poleEvent_one brings]
  have rests := takeCompletion_rests moved (r := { s.poleRec p with failed := true }) .failed .failed
    (endOperation_poleRec p true _ s) rfl
  refine ⟨rests, rests.2.1, ?_, fun last => takeCompletion_closingJammed moved last (.inr rfl)⟩
  have alarm : (takeCompletion ⟨p, true, .failed⟩ (endOperation p true .fails s)).1.line.alarmEnd =
      (endOperation p true .fails s).line.alarmEnd := by rw [panel.line]
  exact (congrArg Option.isSome alarm).trans (endOperation_fails_alarm p true s)

end

section
variable {s : State} {p : Pole}

theorem closePulseEnds_closed (pulse : (s.poleRec p).mech = .closePulse) (closed : (s.poleRec p).position = .closed) :
    closePulseEnds p s = (endOperation p true (.completes .success) s, [⟨p, true, .success⟩]) := by
  unfold closePulseEnds
  dsimp only
  rw [if_neg (not_not.mpr pulse), if_pos closed]
  rfl

theorem closePulseEnds_open (pulse : (s.poleRec p).mech = .closePulse) (other : (s.poleRec p).position ≠ .closed) :
    closePulseEnds p s =
      if (s.poleRec p).windowHeld then (endOperation p true .fails s, [⟨p, true, .failed⟩])
      else (s.withPole p { s.poleRec p with mech := .closeWait, pulse := none }, []) := by
  unfold closePulseEnds
  dsimp only
  rw [if_neg (not_not.mpr pulse), if_neg other]
  rfl

theorem closeWindowExpires_pulse (pulse : (s.poleRec p).mech = .closePulse) :
    closeWindowExpires p s = (s.withPole p { s.poleRec p with window := none, windowHeld := true }, []) := by
  unfold closeWindowExpires
  dsimp only
  rw [pulse]

theorem closeWindowExpires_wait (wait : (s.poleRec p).mech = .closeWait) :
    closeWindowExpires p s = (endOperation p true .fails s, [⟨p, true, .failed⟩]) := by
  unfold closeWindowExpires
  dsimp only
  rw [wait]
  rfl

end

/-- Settles O27: each timer of a close by the pole's state. -/
theorem closePulseAndWindow : Obligations.ClosePulseAndWindow := by
  intro p s r rests succeeds fails
  have fail : ∀ {g : State → State × List Completion}, g s = (endOperation p true .fails s, [⟨p, true, .failed⟩]) →
      fails (.next (poleEvent g s)) ∧ (s.lastClose p → (poleEvent g s).closingJammed) := by
    intro g brings
    obtain ⟨rest, failed, alarm, jammed⟩ := poleEvent_closeFails brings
    exact ⟨⟨_, rfl, rest, poleEvent_closeTakes brings, failed, alarm⟩, jammed⟩
  refine ⟨fun expires pulse closed => ?_, fun expires pulse other running => ?_, fun expires pulse other held => ?_,
    fun expires pulse => ?_, fun expires wait => ?_⟩
  · have brings := closePulseEnds_closed pulse closed
    obtain ⟨rest, alarm, line, done, jammed⟩ := poleEvent_closeSucceeds brings
    have run : exec (.closePulseEnd p) s = .next (poleEvent (closePulseEnds p) s) := expires_run expires
    exact ⟨⟨_, run, rest, poleEvent_closeTakes brings, alarm, line⟩, fun last sound => ⟨_, run, done last sound⟩,
      fun last failed => ⟨_, run, jammed last failed⟩⟩
  · refine (expires_run expires).trans (congrArg _ (poleEvent_quiet ?_))
    exact (closePulseEnds_open pulse other).trans (if_neg (Bool.eq_false_iff.mp running))
  · have run : exec (.closePulseEnd p) s = .next (poleEvent (closePulseEnds p) s) := expires_run expires
    obtain ⟨failed, jammed⟩ := fail ((closePulseEnds_open pulse other).trans (if_pos held))
    rw [run]
    exact ⟨failed, fun last => ⟨_, rfl, jammed last⟩⟩
  · exact (expires_run expires).trans (congrArg _ (poleEvent_quiet (closeWindowExpires_pulse pulse)))
  · have run : exec (.closeWindowExpiry p) s = .next (poleEvent (closeWindowExpires p) s) := expires_run expires
    obtain ⟨failed, jammed⟩ := fail (closeWindowExpires_wait wait)
    rw [run]
    exact ⟨failed, fun last => ⟨_, rfl, jammed last⟩⟩

end Sys2Proof.Machine
end

section
/-! PROOFS. A change of a pole's contacts (R69, R70, R182), up to the position it gives and the start decision (R190). -/

namespace Sys2Proof.Machine

/-! ## The filters of a change row (log 9) -/

/-- The level accepted after a change row that may name one. -/
def InputLevel.next (old : InputLevel) : Option Bool → InputLevel
  | some l => .of l
  | none => old

theorem changeIf_accepted (f : Filter) (x : Option Bool) : (f.changeIf x).1.accepted = f.accepted.next x := by
  cases x with
  | none => rfl
  | some l =>
    show (f.change l).1.accepted = .of l
    unfold Filter.change
    split
    case isTrue same => exact same
    case isFalse => rfl

/-- Log 9: the level already accepted is no change. -/
theorem changeIf_same {f : Filter} {x : Option Bool} (same : f.accepted.next x = f.accepted) :
    f.changeIf x = (f, none) := by
  cases x with
  | none => rfl
  | some l => exact if_pos same.symm

theorem changeIf_other {f : Filter} {x : Option Bool} (other : f.accepted.next x ≠ f.accepted) :
    (f.changeIf x).2.isSome = true := by
  cases x with
  | none => exact absurd rfl other
  | some l =>
    show (f.change l).2.isSome = true
    unfold Filter.change
    rw [if_neg fun same => other same.symm]
    rfl

/-! ## A change of a pair of contacts (R69, R182) -/

/-- The filters of a pole's contacts after a change row. -/
def State.contactsTaken (s : State) (p : Pole) (levels : Contacts (Option Bool)) : State :=
  s.withFilters { s.line.filters with
    aux := s.line.filters.aux.set p
      ⟨((s.line.filters.aux.get p).a.changeIf levels.a).1, ((s.line.filters.aux.get p).b.changeIf levels.b).1⟩ }

section
variable {p : Pole} {levels : Contacts (Option Bool)} {s : State}

theorem contactsTaken_accepted :
    ((s.contactsTaken p levels).line.filters.aux.get p).a.accepted =
      (s.line.filters.aux.get p).a.accepted.next levels.a ∧
    ((s.contactsTaken p levels).line.filters.aux.get p).b.accepted =
      (s.line.filters.aux.get p).b.accepted.next levels.b := by
  have own : (s.contactsTaken p levels).line.filters.aux.get p = _ := (PerPole.get_set _ p p _).trans (if_pos rfl)
  rw [own]
  exact ⟨changeIf_accepted _ _, changeIf_accepted _ _⟩

/-- Log 9: neither contact changes. -/
theorem changeContacts_same
    (a : (s.line.filters.aux.get p).a.accepted.next levels.a = (s.line.filters.aux.get p).a.accepted)
    (b : (s.line.filters.aux.get p).b.accepted.next levels.b = (s.line.filters.aux.get p).b.accepted) :
    changeContacts p levels s = s := by
  have kept : ∀ v : PerPole (Contacts Filter), v.set p ⟨(v.get p).a, (v.get p).b⟩ = v := by
    intro v
    cases p <;> rfl
  unfold changeContacts
  dsimp only
  rw [changeIf_same a, changeIf_same b]
  show s.withFilters { s.line.filters with aux := s.line.filters.aux.set p _ } = s
  rw [kept]
  rfl

/-- R182: a contact changes. -/
theorem changeContacts_other
    (other : (s.line.filters.aux.get p).a.accepted.next levels.a ≠ (s.line.filters.aux.get p).a.accepted ∨
      (s.line.filters.aux.get p).b.accepted.next levels.b ≠ (s.line.filters.aux.get p).b.accepted) :
    changeContacts p levels s = takeContacts p (s.contactsTaken p levels) :=
  if_pos (other.imp changeIf_other changeIf_other)

theorem takeContacts_unknown (h : (s.line.filters.aux.get p).a.accepted = .notYet ∨
    (s.line.filters.aux.get p).b.accepted = .notYet) : takeContacts p s = s := if_pos h

/-- R69: the position that two accepted levels decode to. -/
def decoded : InputLevel → InputLevel → Position
  | .active, .inactive => .closed
  | .inactive, .active => .opened
  | _, _ => .unknown

theorem takeContacts_known (a : (s.line.filters.aux.get p).a.accepted ≠ .notYet)
    (b : (s.line.filters.aux.get p).b.accepted ≠ .notYet) :
    takeContacts p s = decideIfDiscovered (poleEvent (takePosition p
      (decoded (s.line.filters.aux.get p).a.accepted (s.line.filters.aux.get p).b.accepted)) s) := by
  have position : ∀ x y : InputLevel, x ≠ .notYet → y ≠ .notYet →
      decodePosition ⟨decide (x = .active), decide (y = .active)⟩ = decoded x y := by
    intro x y hx hy
    cases x
    case notYet => exact absurd rfl hx
    all_goals
      cases y
      case notYet => exact absurd rfl hy
      all_goals rfl
  unfold takeContacts
  dsimp only
  rw [if_neg (not_or.mpr ⟨a, b⟩), position _ _ a b]

end

/-! ## A decoded position taken by a pole (R70, R73, R77) -/

section
variable {p : Pole} {s : State}

/-- R69: a pole with a decoded position. -/
def State.placed (s : State) (p : Pole) (x : Position) : State :=
  s.withPole p { s.poleRec p with position := x, discovered := true }

theorem placed_poleRec (s : State) (p : Pole) (x : Position) :
    (s.placed p x).poleRec p = { s.poleRec p with position := x, discovered := true } :=
  State.poleRec_withPole_same _ _ _

theorem placed_others (x : Position) {q : Pole} (other : q ≠ p) : (s.placed p x).poleRec q = s.poleRec q :=
  State.poleRec_withPole_other _ _ _ _ other

theorem atRest_iff (r : PoleRecord) : r.atRest = true ↔ r.mech = .idle ∨ r.mech = .failed := by
  simp [PoleRecord.atRest]

/-- R70: a pole at rest. -/
theorem takePosition_rest (x : Position) (rest : (s.poleRec p).mech = .idle ∨ (s.poleRec p).mech = .failed) :
    takePosition p x s = (if (s.poleRec p).discovered = true ∧ (s.poleRec p).position ≠ x then
      s.onlyPoles (raise .positionChange (positionBody p (s.poleRec p).position x) (s.placed p x))
      else s.placed p x, []) :=
  if_pos ((atRest_iff _).mpr rest)

theorem takePosition_moving (x : Position) (moving : ¬ ((s.poleRec p).mech = .idle ∨ (s.poleRec p).mech = .failed)) :
    takePosition p x s =
      (endOperation p (s.poleRec p).closing ((s.placed p x).poleRec p).verdictAt (s.placed p x),
        ((s.placed p x).poleRec p).verdictAt.completion p (s.poleRec p).closing) := by
  rw [placed_poleRec]
  exact if_neg fun rest => moving ((atRest_iff _).mp rest)

theorem PoleRecord.verdictAt_trip {r : PoleRecord} (opened : r.position = .opened)
    (trip : (r.mech = .tripPulse ∧ r.heldOpen = false ∧ r.windowHeld = false) ∨ r.mech = .tripWait ∨
      r.mech = .tripRetry) : r.verdictAt = .completes r.tripOutcome := by
  unfold PoleRecord.verdictAt
  obtain ⟨mech, free, running⟩ | mech | mech := trip
  · rw [mech, opened, free, running]
    rfl
  · rw [mech, opened]
  · rw [mech, opened]

/-- R73: OPEN completes a trip in its pulse, wait or gap. -/
theorem takePosition_trip (trip : ((s.poleRec p).mech = .tripPulse ∧ (s.poleRec p).heldOpen = false ∧
    (s.poleRec p).windowHeld = false) ∨ (s.poleRec p).mech = .tripWait ∨ (s.poleRec p).mech = .tripRetry) :
    let o : OpOutcome :=
      if (s.poleRec p).mech = .tripRetry ∨ (s.poleRec p).attempt = 2 then .retriedSuccess else .success
    takePosition p .opened s = (endOperation p false (.completes o) (s.placed p .opened), [⟨p, false, o⟩]) := by
  intro o
  have moving : ¬ ((s.poleRec p).mech = .idle ∨ (s.poleRec p).mech = .failed) := by
    obtain ⟨mech, -, -⟩ | mech | mech := trip <;> simp [mech]
  have closing : (s.poleRec p).closing = false := by
    obtain ⟨mech, -, -⟩ | mech | mech := trip <;> simp [PoleRecord.closing, mech]
  have verdict : ((s.placed p .opened).poleRec p).verdictAt = .completes o := by
    rw [placed_poleRec]
    exact PoleRecord.verdictAt_trip (r := { s.poleRec p with position := .opened, discovered := true }) rfl trip
  rw [takePosition_moving _ moving, closing, verdict]
  rfl

/-- R77: CLOSED completes a close. -/
theorem takePosition_close (close : (s.poleRec p).mech = .closePulse ∨ (s.poleRec p).mech = .closeWait) :
    takePosition p .closed s =
      (endOperation p true (.completes .success) (s.placed p .closed), [⟨p, true, .success⟩]) := by
  have moving : ¬ ((s.poleRec p).mech = .idle ∨ (s.poleRec p).mech = .failed) := by
    obtain mech | mech := close <;> simp [mech]
  have closing : (s.poleRec p).closing = true := by
    obtain mech | mech := close <;> simp [PoleRecord.closing, mech]
  have verdict : ((s.placed p .closed).poleRec p).verdictAt = .completes .success := by
    rw [placed_poleRec]
    unfold PoleRecord.verdictAt
    obtain mech | mech := close <;> simp only [mech]
  rw [takePosition_moving _ moving, closing, verdict]
  rfl

theorem Verdict.record_place (v : Verdict) (r : PoleRecord) :
    (v.record r).position = r.position ∧ (v.record r).discovered = r.discovered := by
  cases v <;> exact ⟨rfl, rfl⟩

/-- R69: the position is the pole's, and the other poles' stay. -/
theorem takePosition_place (x : Position) :
    ((takePosition p x s).1.poleRec p).position = x ∧ ((takePosition p x s).1.poleRec p).discovered = true ∧
    ∀ q, q ≠ p → (takePosition p x s).1.poleRec q = s.poleRec q := by
  by_cases rest : (s.poleRec p).mech = .idle ∨ (s.poleRec p).mech = .failed
  · have poles : (takePosition p x s).1.poles = (s.placed p x).poles := by
      rw [takePosition_rest x rest]
      dsimp only
      split <;> rfl
    have same : ∀ q, (takePosition p x s).1.poleRec q = (s.placed p x).poleRec q :=
      fun q => congrArg (fun d : PoleDrive => d.pole.get q) poles
    rw [same p, placed_poleRec]
    exact ⟨rfl, rfl, fun q other => (same q).trans (placed_others x other)⟩
  · rw [takePosition_moving x rest]
    obtain ⟨position, discovered⟩ := ((s.placed p x).poleRec p).verdictAt.record_place ((s.placed p x).poleRec p)
    refine ⟨?_, ?_, fun q other => ((endOperation_moved p _ _ (s.placed p x)).others q other).trans
      (placed_others x other)⟩
    · rw [endOperation_poleRec, position, placed_poleRec]
    · rw [endOperation_poleRec, discovered, placed_poleRec]

/-- R69, R72: so it stays after the completions that it brings. -/
theorem poleEvent_place (x : Position) :
    let t := poleEvent (takePosition p x) s
    (t.poleRec p).position = x ∧ (t.poleRec p).discovered = true ∧
    ∀ q, q ≠ p → (t.poleRec q).position = (s.poleRec q).position ∧ (t.poleRec q).discovered = (s.poleRec q).discovered := by
  obtain ⟨position, discovered, others⟩ := takePosition_place (s := s) (p := p) x
  have lasting := settle_lasting 12 (takePosition p x s).2 (takePosition p x s).1
  refine ⟨(lasting.position p).trans position, (lasting.discovered p).trans discovered, fun q other => ⟨?_, ?_⟩⟩
  · exact (lasting.position q).trans (congrArg PoleRecord.position (others q other))
  · exact (lasting.discovered q).trans (congrArg PoleRecord.discovered (others q other))

/-- A pole with a decoded position, and then the end of its operation. -/
theorem placed_moved (x : Position) (close : Bool) (v : Verdict) :
    s.PoleMoved p (endOperation p close v (s.placed p x)) := by
  have moved := endOperation_moved p close v (s.placed p x)
  exact ⟨moved.seq, moved.prot, moved.holds, moved.batt, moved.store, moved.time,
    fun q other => (moved.others q other).trans (placed_others x other),
    fun r => ⟨(moved.spared r).ctx, (moved.spared r).room⟩⟩

end

/-! ## The start decision (R190) -/

/-- R190: the start decision leaves the operator's trips and close, the cause, and all outside sequence and reports. -/
theorem decideIfDiscovered_blocks (s : State) :
    decideIfDiscovered s = { s with
      seq := (decideIfDiscovered s).seq, rep := (decideIfDiscovered s).rep, port := (decideIfDiscovered s).port } ∧
    (decideIfDiscovered s).seq.operatorTrips = s.seq.operatorTrips ∧
    (decideIfDiscovered s).seq.operatorClose = s.seq.operatorClose ∧
    (decideIfDiscovered s).seq.cause = s.seq.cause := by
  unfold decideIfDiscovered startDecision
  dsimp only
  split
  · split
    · exact ⟨rfl, rfl, rfl, rfl⟩
    · split <;> exact ⟨rfl, rfl, rfl, rfl⟩
  · exact ⟨rfl, rfl, rfl, rfl⟩

theorem startDecision_past {s : State} (past : s.seq.state ≠ .lockout ∨ s.seq.initial = false) :
    startDecision s = s.withSeq { s.seq with decided := true } := if_pos past

/-- R190: past the initial LOCKOUT it is only marked as made. -/
theorem decideIfDiscovered_past {s : State} (past : s.seq.state ≠ .lockout ∨ s.seq.initial = false) :
    (decideIfDiscovered s).seq = { s.seq with decided := (decideIfDiscovered s).seq.decided } := by
  unfold decideIfDiscovered
  split
  · rw [startDecision_past past]
    rfl
  · rfl

/-- R190: it is made at the third discovery, and once. -/
theorem decideIfDiscovered_early {s : State} (h : s.seq.decided = true ∨ ∃ q, (s.poleRec q).discovered = false) :
    decideIfDiscovered s = s := by
  refine if_neg fun ⟨undecided, all⟩ => ?_
  obtain decided | ⟨q, undiscovered⟩ := h
  · cases undecided.symm.trans decided
  · simp only [PerPole.toList, List.all_cons, List.all_nil, Bool.and_true, Bool.and_eq_true] at all
    obtain ⟨a, b, c⟩ := all
    cases q
    exacts [absurd a (by simpa [State.poleRec, PerPole.get] using undiscovered),
      absurd b (by simpa [State.poleRec, PerPole.get] using undiscovered),
      absurd c (by simpa [State.poleRec, PerPole.get] using undiscovered)]

theorem decideIfDiscovered_third {s : State} (undecided : s.seq.decided = false)
    (all : ∀ q, (s.poleRec q).discovered = true) : decideIfDiscovered s = startDecision s := by
  refine if_pos ⟨undecided, ?_⟩
  simp only [PerPole.toList, List.all_cons, List.all_nil, Bool.and_true, Bool.and_eq_true]
  exact ⟨all .a, all .b, all .c⟩

end Sys2Proof.Machine
end

section
/-! PROOFS. AUX_CHANGE: the position decoded, and what it completes and decides (R51, R52, R58, R60, R62, R69, R70, R73, R77,
R190). -/

namespace Sys2Proof.Machine

/-! ## An operation completed by a position -/

theorem endIfSettled_past {s : State} (state : s.seq.state = .tripping) :
    (endIfSettled s).1.seq.state ≠ .lockout ∨ (endIfSettled s).1.seq.initial = false := by
  obtain none | ⟨-, -, ⟨-, follows⟩ | ⟨-, leaves⟩⟩ := endIfSettled_cases s
  · rw [none, state]
    exact .inl (by decide)
  · rw [follows, (orderTrips_blocks s.follow s.followOrdered).1]
    refine .inl ?_
    show s.seq.state ≠ .lockout
    rw [state]
    decide
  · rw [leaves]
    unfold State.trippingLeft
    split
    · exact .inr rfl
    · exact .inl (by simp [enterDeadTime])

theorem closingEnds_past (s : State) :
    (closingEnds s).seq.state ≠ .lockout ∨ (closingEnds s).seq.initial = false := by
  unfold closingEnds
  split
  · rw [(handCloseOutcome_blocks .failed _).1]
    exact .inr rfl
  · dsimp only
    rw [(handCloseOutcome_blocks .succeeded _).1]
    exact .inl (by simp)

/-! ## What the start decision leaves (R190) -/

theorem decideIfDiscovered_poles (s : State) : (decideIfDiscovered s).poles = s.poles := by
  obtain ⟨blocks, -⟩ := decideIfDiscovered_blocks s
  rw [blocks]

theorem decideIfDiscovered_prot (s : State) : (decideIfDiscovered s).prot = s.prot := by
  obtain ⟨blocks, -⟩ := decideIfDiscovered_blocks s
  rw [blocks]

theorem decideIfDiscovered_batt (s : State) : (decideIfDiscovered s).batt = s.batt := by
  obtain ⟨blocks, -⟩ := decideIfDiscovered_blocks s
  rw [blocks]

theorem decideIfDiscovered_holds (s : State) : (decideIfDiscovered s).holds = s.holds := by
  obtain ⟨blocks, -⟩ := decideIfDiscovered_blocks s
  rw [blocks]

theorem decideIfDiscovered_line (s : State) : (decideIfDiscovered s).line = s.line := by
  obtain ⟨blocks, -⟩ := decideIfDiscovered_blocks s
  rw [blocks]

theorem decideIfDiscovered_poleRec (s : State) (q : Pole) : (decideIfDiscovered s).poleRec q = s.poleRec q :=
  congrArg (fun d : PoleDrive => d.pole.get q) (decideIfDiscovered_poles s)

section
variable {s : State} {p : Pole}

/-! ## What every decoded position does -/

theorem decided_outside (f : State → State × List Completion) (s : State) :
    (decideIfDiscovered (poleEvent f s)).store = s.store ∧ (decideIfDiscovered (poleEvent f s)).time = s.time := by
  obtain ⟨blocks, -⟩ := decideIfDiscovered_blocks (poleEvent f s)
  rw [blocks]
  exact ⟨rfl, rfl⟩

theorem endOperation_filters (p : Pole) (close : Bool) (v : Verdict) (s : State) :
    (endOperation p close v s).line.filters = s.line.filters := by
  cases v with
  | goesOn => rfl
  | completes o => exact congrArg LineUnit.filters (endOperation_completes_line p close o s)
  | fails => rfl

theorem takePosition_filters (x : Position) : (takePosition p x s).1.line.filters = s.line.filters := by
  unfold takePosition
  dsimp only
  split
  · dsimp only
    split <;> rfl
  · exact endOperation_filters ..

theorem decided_filters (x : Position) :
    (decideIfDiscovered (poleEvent (takePosition p x) s)).line.filters = s.line.filters := by
  have panel := settle_panel 12 (takePosition p x s).2 (takePosition p x s).1
  have kept : (poleEvent (takePosition p x) s).line.filters = (takePosition p x s).1.line.filters := by
    rw [show (poleEvent (takePosition p x) s).line = _ from panel.line]
  rw [decideIfDiscovered_line, kept, takePosition_filters]

/-- R69: the position and the discovery, and the other poles' as they were. -/
theorem decided_place (x : Position) :
    let t := decideIfDiscovered (poleEvent (takePosition p x) s)
    (t.poleRec p).position = x ∧ (t.poleRec p).discovered = true ∧
    ∀ q, q ≠ p → (t.poleRec q).position = (s.poleRec q).position ∧
      (t.poleRec q).discovered = (s.poleRec q).discovered := by
  intro t
  have same : ∀ q, t.poleRec q = (poleEvent (takePosition p x) s).poleRec q := decideIfDiscovered_poleRec _
  simp only [same]
  exact poleEvent_place x

/-! ## A position that completes an operation (R73, R77) -/

/-- R51, R60, R73: the reading OPEN has completed a trip. -/
theorem decided_trip {o : OpOutcome}
    (brings : takePosition p .opened s = (endOperation p false (.completes o) (s.placed p .opened), [⟨p, false, o⟩]))
    (done : o ≠ .failed) :
    let t := decideIfDiscovered (poleEvent (takePosition p .opened) s)
    t.poleRec p = ((s.placed p .opened).poleRec p).ended o ∧ s.tripsTake p o t ∧
    ∀ k, s.lastTrip p k → s.lastTripDone p k false t := by
  let u := endOperation p false (.completes o) (s.placed p .opened)
  have moved : s.PoleMoved p u := placed_moved .opened false (.completes o)
  have record : u.poleRec p = ((s.placed p .opened).poleRec p).ended o := endOperation_poleRec ..
  have opened : (u.poleRec p).position = .opened := by
    rw [record, placed_poleRec]
    rfl
  rw [poleEvent_one brings]
  obtain ⟨-, trips, -, cause⟩ := decideIfDiscovered_blocks (s.onlySequence (takeCompletion ⟨p, false, o⟩ u).1)
  intro t
  refine ⟨?_, ?_, fun k last => ?_⟩
  · rw [← record]
    exact (decideIfDiscovered_poleRec _ p).trans
      ((takeCompletion_trip_poleRec p o u p).resolve_right fun ⟨closed, _⟩ => closed opened)
  · have taken := (takeCompletion_tripsTake moved o).after (u := s.onlySequence (takeCompletion ⟨p, false, o⟩ u).1)
      rfl rfl (onlySequence_heard _ _)
    exact taken.after trips cause (decideIfDiscovered_heard _)
  · have tripping : (u.tripTaken p o).seq.state = .tripping := by
      rw [(tripTaken_last moved last (.inl opened)).seq]
      exact last.1
    have past : (takeCompletion ⟨p, false, o⟩ u).1.seq.state ≠ .lockout ∨
        (takeCompletion ⟨p, false, o⟩ u).1.seq.initial = false := by
      rw [takeCompletion_trip]
      exact endIfSettled_past tripping
    have ended := (takeCompletion_lastTrip (o := o) moved last (.inl opened)).1
    rw [decide_eq_false done] at ended
    have kept := ended.after (u := s.onlySequence (takeCompletion ⟨p, false, o⟩ u).1) rfl rfl rfl rfl
    exact kept.after (decideIfDiscovered_past past) (decideIfDiscovered_prot _) (decideIfDiscovered_poles _)
      (decideIfDiscovered_batt _)

/-- R58, R62, R77: the reading CLOSED has completed a close. -/
theorem decided_close
    (brings : takePosition p .closed s =
      (endOperation p true (.completes .success) (s.placed p .closed), [⟨p, true, .success⟩])) :
    let t := decideIfDiscovered (poleEvent (takePosition p .closed) s)
    s.closeTakes p .success t ∧ (t.poleRec p).last = some .success ∧
    (¬ s.mayFollowOn → t.poleRec p = ((s.placed p .closed).poleRec p).ended .success) ∧
    (s.lastClose p → if s.seq.ctx.closeFailed = false then s.closingDone t else t.closingJammed) := by
  let u := endOperation p true (.completes .success) (s.placed p .closed)
  have moved : s.PoleMoved p u := placed_moved .closed true (.completes .success)
  have follow : (s.placed p .closed).mayFollowOn ↔ s.mayFollowOn := .rfl
  obtain ⟨outcome, -, -, -, quiet, -, -⟩ := takeCompletion_rests (s := s.placed p .closed)
    (endOperation_moved p true (.completes .success) _) .success .success (endOperation_poleRec ..) rfl
  rw [poleEvent_one brings]
  obtain ⟨-, -, close, -⟩ := decideIfDiscovered_blocks (s.onlySequence (takeCompletion ⟨p, true, .success⟩ u).1)
  intro t
  have pole : t.poleRec p = (takeCompletion ⟨p, true, .success⟩ u).1.poleRec p := decideIfDiscovered_poleRec _ p
  refine ⟨?_, (congrArg PoleRecord.last pole).trans outcome, fun off => pole.trans (quiet (mt follow.mp off)).1,
    fun last => ?_⟩
  · have taken := (takeCompletion_closeTakes moved .success).after
      (u := s.onlySequence (takeCompletion ⟨p, true, .success⟩ u).1) rfl rfl (onlySequence_heard _ _)
    exact taken.after (congrArg HoldUnit.close (decideIfDiscovered_holds _)) close (decideIfDiscovered_heard _)
  · have past : (takeCompletion ⟨p, true, .success⟩ u).1.seq.state ≠ .lockout ∨
        (takeCompletion ⟨p, true, .success⟩ u).1.seq.initial = false := by
      rw [(takeCompletion_lastClose (o := .success) moved last).1]
      exact closingEnds_past _
    have seq : t.seq = { (takeCompletion ⟨p, true, .success⟩ u).1.seq with decided := t.seq.decided } :=
      decideIfDiscovered_past (s := s.onlySequence (takeCompletion ⟨p, true, .success⟩ u).1) past
    refine ite_intro (fun sound => ?_) fun failed => ?_
    · have done := takeCompletion_closingDone (o := .success) moved last sound (by decide)
      rw [State.closingDone, seq]
      exact done
    · have jammed := takeCompletion_closingJammed (o := .success) moved last (.inl (Bool.eq_true_of_not_eq_false failed))
      rw [State.closingJammed, seq]
      exact jammed

end

end Sys2Proof.Machine
end

section
/-! PROOFS. AUX_CHANGE of a pole at rest (R70), the third discovery (R190, R45), and the whole command (R69 to R77). -/

namespace Sys2Proof.Machine

section
variable {s : State} {p : Pole} {x : Position}

/-! ## A pole at rest (R70) -/

theorem poleEvent_rest (rest : (s.poleRec p).mech = .idle ∨ (s.poleRec p).mech = .failed) :
    poleEvent (takePosition p x) s =
      if (s.poleRec p).discovered = true ∧ (s.poleRec p).position ≠ x then
        raise .positionChange (positionBody p (s.poleRec p).position x) (s.placed p x)
      else s.placed p x := by
  unfold poleEvent settled
  rw [takePosition_rest x rest, settle_nil]
  split <;> rfl

theorem poleEvent_rest_undiscovered (rest : (s.poleRec p).mech = .idle ∨ (s.poleRec p).mech = .failed)
    (undiscovered : (s.poleRec p).discovered = false) : poleEvent (takePosition p x) s = s.placed p x := by
  rw [poleEvent_rest rest, if_neg fun ⟨discovered, _⟩ => Bool.noConfusion (undiscovered.symm.trans discovered)]

theorem poleEvent_rest_seq (rest : (s.poleRec p).mech = .idle ∨ (s.poleRec p).mech = .failed) :
    (poleEvent (takePosition p x) s).seq = s.seq := by
  rw [poleEvent_rest rest]
  split <;> rfl

theorem poleEvent_rest_poleRec (rest : (s.poleRec p).mech = .idle ∨ (s.poleRec p).mech = .failed) :
    (poleEvent (takePosition p x) s).poleRec p = { s.poleRec p with position := x, discovered := true } := by
  rw [← placed_poleRec s p x, poleEvent_rest rest]
  split <;> rfl

/-- R190: no decision falls due before the third discovery, nor after it was made. -/
theorem decided_rest_early (rest : (s.poleRec p).mech = .idle ∨ (s.poleRec p).mech = .failed)
    (early : s.seq.decided = true ∨ ∃ q, q ≠ p ∧ (s.poleRec q).discovered = false) :
    decideIfDiscovered (poleEvent (takePosition p x) s) = poleEvent (takePosition p x) s := by
  refine decideIfDiscovered_early ?_
  rw [poleEvent_rest_seq rest]
  obtain ⟨-, -, others⟩ := poleEvent_place (s := s) (p := p) x
  exact early.imp id fun ⟨q, other, undiscovered⟩ => ⟨q, (others q other).2.trans undiscovered⟩

/-! ## The start decision by its cases (R190, R45) -/

theorem allClosed_iff (s : State) : allClosed s = true ↔ ∀ q, (s.poleRec q).position = .closed := by
  simp only [allClosed, PerPole.toList, List.all_cons, List.all_nil, Bool.and_true, Bool.and_eq_true, decide_eq_true_eq]
  exact ⟨fun ⟨a, b, c⟩ q => by cases q <;> assumption, fun all => ⟨all .a, all .b, all .c⟩⟩

/-- R45: the device starts in service. -/
theorem startDecision_service (state : s.seq.state = .lockout) (initial : s.seq.initial = true)
    (cause : s.seq.cause = .start) (closed : allClosed s = true) :
    startDecision s = s.withSeq { s.seq with decided := true }.toReset := by
  unfold startDecision
  dsimp only
  rw [if_neg (by simp [state, initial]), if_pos ⟨cause, closed⟩]

/-- R45: the device stays in LOCKOUT. -/
theorem startDecision_locked (state : s.seq.state = .lockout) (initial : s.seq.initial = true)
    (other : ¬ (s.seq.cause = .start ∧ allClosed s = true)) :
    startDecision s = raise .lockout [LockoutCause.code s.seq.cause, 0, 0]
      (s.withSeq { s.seq with decided := true, lamp := true }) := by
  unfold startDecision
  dsimp only
  rw [if_neg (by simp [state, initial]), if_neg other]
  rfl

/-- The start decision made from sequence `q` and reports like those of `u`, in service or not. -/
def State.startsFrom (t u : State) (service : Prop) : Prop :=
  (u.seq.state ≠ .lockout ∨ u.seq.initial = false → t.seq = { u.seq with decided := true } ∧ t.rep = u.rep) ∧
  (u.seq.state = .lockout → u.seq.initial = true → service →
    t.seq = { u.seq with decided := true }.toReset ∧ t.rep = u.rep) ∧
  (u.seq.state = .lockout → u.seq.initial = true → ¬ service →
    t.seq = { u.seq with decided := true, lamp := true } ∧
    t.rep = (raise .lockout [LockoutCause.code u.seq.cause, 0, 0] u).rep)

theorem startDecision_startsFrom (s : State) :
    (startDecision s).startsFrom s (s.seq.cause = .start ∧ allClosed s = true) := by
  refine ⟨fun past => ?_, fun state initial ⟨cause, closed⟩ => ?_, fun state initial other => ?_⟩
  · rw [startDecision_past past]
    exact ⟨rfl, rfl⟩
  · rw [startDecision_service state initial cause closed]
    exact ⟨rfl, rfl⟩
  · rw [startDecision_locked state initial other]
    have alike : (s.withSeq { s.seq with decided := true, lamp := true }).ReportsAlike s := ⟨rfl, rfl, rfl, rfl⟩
    exact ⟨rfl, (alike.raise _ _).rep⟩

/-- R190: the third discovery brings the start decision. -/
theorem decided_rest_third (rest : (s.poleRec p).mech = .idle ∨ (s.poleRec p).mech = .failed)
    (undecided : s.seq.decided = false) (others : ∀ q, q ≠ p → (s.poleRec q).discovered = true) :
    decideIfDiscovered (poleEvent (takePosition p x) s) = startDecision (poleEvent (takePosition p x) s) := by
  obtain ⟨-, discovered, kept⟩ := poleEvent_place (s := s) (p := p) x
  refine decideIfDiscovered_third ?_ fun q => ?_
  · rw [poleEvent_rest_seq rest]
    exact undecided
  · by_cases own : q = p
    · rw [own]
      exact discovered
    · exact (kept q own).2.trans (others q own)

theorem poleEvent_allClosed :
    allClosed (poleEvent (takePosition p x) s) = true ↔
      x = .closed ∧ ∀ q, q ≠ p → (s.poleRec q).position = .closed := by
  obtain ⟨position, -, kept⟩ := poleEvent_place (s := s) (p := p) x
  rw [allClosed_iff]
  refine ⟨fun all => ⟨position.symm.trans (all p), fun q other => (kept q other).1.symm.trans (all q)⟩,
    fun ⟨own, others⟩ q => ?_⟩
  by_cases same : q = p
  · rw [same]
    exact position.trans own
  · exact (kept q same).1.trans (others q same)

end

end Sys2Proof.Machine
end

section
/-! PROOFS. The whole AUX_CHANGE (R69 to R77, R190). -/

namespace Sys2Proof.Machine

section
variable {u : State} {p : Pole} {x : Position}

/-- The start decision at the third discovery, of a pole at rest: what the obligation says of sequence and reports. -/
theorem decided_rest_start (rest : (u.poleRec p).mech = .idle ∨ (u.poleRec p).mech = .failed)
    (undecided : u.seq.decided = false) (others : ∀ q, q ≠ p → (u.poleRec q).discovered = true) :
    let t := decideIfDiscovered (poleEvent (takePosition p x) u)
    let first := u.seq.state = .lockout ∧ u.seq.initial = true
    let service := u.seq.cause = .start ∧ x = .closed ∧ ∀ q, q ≠ p → (u.poleRec q).position = .closed
    t.seq.decided = true ∧
    (¬ first → t.seq = { u.seq with decided := true } ∧ ((u.poleRec p).discovered = false → t.rep = u.rep)) ∧
    (first → service → t.seq.state = .reset ∧ t.seq.shot = 1 ∧ t.seq.lamp = false ∧
      ((u.poleRec p).discovered = false → t.rep = u.rep)) ∧
    (first → ¬ service → t.seq = { u.seq with decided := true, lamp := true } ∧
      ((u.poleRec p).discovered = false → t.rep = (raise .lockout [LockoutCause.code u.seq.cause, 0, 0] u).rep)) := by
  have seq : (poleEvent (takePosition p x) u).seq = u.seq := poleEvent_rest_seq rest
  have quiet : (u.poleRec p).discovered = false → (poleEvent (takePosition p x) u).ReportsAlike u := fun undiscovered => by
    rw [poleEvent_rest_undiscovered rest undiscovered]
    exact ⟨rfl, rfl, rfl, rfl⟩
  have starts := startDecision_startsFrom (poleEvent (takePosition p x) u)
  rw [poleEvent_allClosed] at starts
  rw [decided_rest_third rest undecided others]
  generalize poleEvent (takePosition p x) u = w at seq quiet starts
  obtain ⟨past, serves, locks⟩ := starts
  rw [seq] at past serves locks
  intro t first service
  have stays : ¬ first → t.seq = { u.seq with decided := true } ∧ t.rep = w.rep := fun other =>
    past (by simpa [first, imp_iff_not_or] using other)
  have serving : first → service → t.seq = { u.seq with decided := true }.toReset ∧ t.rep = w.rep :=
    fun ⟨state, initial⟩ => serves state initial
  have locking : first → ¬ service → t.seq = { u.seq with decided := true, lamp := true } ∧
      t.rep = (raise .lockout [LockoutCause.code u.seq.cause, 0, 0] w).rep := fun ⟨state, initial⟩ => locks state initial
  refine ⟨?_, fun other => ?_, fun is serve => ?_, fun is other => ?_⟩
  · by_cases is : first
    · by_cases serve : service
      · rw [(serving is serve).1]
        rfl
      · rw [(locking is serve).1]
    · rw [(stays is).1]
  · obtain ⟨sequence, reports⟩ := stays other
    exact ⟨sequence, fun undiscovered => reports.trans (quiet undiscovered).rep⟩
  · obtain ⟨sequence, reports⟩ := serving is serve
    rw [sequence]
    exact ⟨rfl, rfl, rfl, fun undiscovered => reports.trans (quiet undiscovered).rep⟩
  · obtain ⟨sequence, reports⟩ := locking is other
    exact ⟨sequence, fun undiscovered => reports.trans ((quiet undiscovered).raise _ _).rep⟩

/-- R73: OPEN in a trip's pulse, wait or gap. -/
theorem decided_opened (opened : x = .opened)
    (trip : ((u.poleRec p).mech = .tripPulse ∧ (u.poleRec p).heldOpen = false ∧ (u.poleRec p).windowHeld = false) ∨
      (u.poleRec p).mech = .tripWait ∨ (u.poleRec p).mech = .tripRetry) :
    let t := decideIfDiscovered (poleEvent (takePosition p x) u)
    let o : OpOutcome := if (u.poleRec p).mech = .tripRetry ∨ (u.poleRec p).attempt = 2 then .retriedSuccess else .success
    t.poleRec p = { u.poleRec p with position := x, discovered := true }.ended o ∧ u.tripsTake p o t ∧
    ∀ k, u.lastTrip p k → u.lastTripDone p k false t := by
  subst opened
  rw [← placed_poleRec]
  refine decided_trip (takePosition_trip trip) ?_
  split <;> decide

/-- R77: CLOSED in a close. -/
theorem decided_closed (closed : x = .closed)
    (close : (u.poleRec p).mech = .closePulse ∨ (u.poleRec p).mech = .closeWait) :
    let t := decideIfDiscovered (poleEvent (takePosition p x) u)
    u.closeTakes p .success t ∧ (t.poleRec p).last = some .success ∧
    (¬ u.mayFollowOn → t.poleRec p = { u.poleRec p with position := x, discovered := true }.ended .success) ∧
    (u.lastClose p → if u.seq.ctx.closeFailed = false then u.closingDone t else t.closingJammed) := by
  subst closed
  rw [← placed_poleRec]
  exact decided_close (takePosition_close close)

theorem positionBody_places (p : Pole) (x y : Position) :
    positionBody p x y = [BitVec.ofNat 8 (placeIn [Pole.a, .b, .c] (some p)),
      BitVec.ofNat 8 (placeIn [Position.opened, .closed, .unknown] (some x)),
      BitVec.ofNat 8 (placeIn [Position.opened, .closed, .unknown] (some y))] := by
  have pole : Pole.code p = BitVec.ofNat 8 (placeIn [Pole.a, .b, .c] (some p)) := by cases p <;> rfl
  have position : ∀ z, Position.code z = BitVec.ofNat 8 (placeIn [Position.opened, .closed, .unknown] (some z)) := by
    intro z
    cases z <;> rfl
  rw [positionBody, pole, position, position]

end

/-- Settles O30: the contact change by what its filters accept, then the decoded position by what the pole was doing. -/
theorem auxChangeDecodesPosition : Obligations.AuxChangeDecodesPosition := by
  intro p levels s powered f now a b dec r read
  let u := s.contactsTaken p levels
  have run : exec (.auxChange p levels) s = .next (changeContacts p levels s) := run_powered powered
  have next : ∀ old y, now old y = old.next y := by
    intro old y
    cases y <;> rfl
  have onA : f.a.accepted.next levels.a = a := (next _ _).symm
  have onB : f.b.accepted.next levels.b = b := (next _ _).symm
  have decodes : decoded a b = dec := rfl
  obtain ⟨acceptsA, acceptsB⟩ := contactsTaken_accepted (p := p) (levels := levels) (s := s)
  replace acceptsA : (u.line.filters.aux.get p).a.accepted = a := acceptsA.trans onA
  replace acceptsB : (u.line.filters.aux.get p).b.accepted = b := acceptsB.trans onB
  have changed : (a ≠ f.a.accepted ∨ b ≠ f.b.accepted) → changeContacts p levels s = takeContacts p u := fun other =>
    changeContacts_other (by rwa [onA, onB])
  refine ⟨fun sameA sameB => ?_, fun other unknown => ⟨u, ?_, rfl, acceptsA, acceptsB⟩, fun other knownA knownB => ?_⟩
  · rw [run, changeContacts_same (onA.trans sameA) (onB.trans sameB)]
  · rw [run, changed other, takeContacts_unknown (by rwa [acceptsA, acceptsB])]
  · have taken : takeContacts p u = decideIfDiscovered (poleEvent (takePosition p dec) u) := by
      rw [takeContacts_known (acceptsA ▸ knownA) (acceptsB ▸ knownB), acceptsA, acceptsB, decodes]
    rw [run, changed other, taken]
    have filters := decided_filters (s := u) (p := p) dec
    obtain ⟨store, time⟩ := decided_outside (takePosition p dec) u
    obtain ⟨position, discovered, others⟩ := decided_place (s := u) (p := p) dec
    refine ⟨_, rfl, by rw [filters, acceptsA], by rw [filters, acceptsB], position, discovered, others, store, time,
      fun opened trip => ?_, fun closed close => ?_, fun k opened last trip => ?_, fun closed last close => ?_,
      fun rest => ?_, fun rest early => ?_, fun rest early => ?_, fun rest undecided known => ?_⟩
    · obtain ⟨ends, takes, -⟩ := decided_opened (u := u) opened trip
      exact ⟨ends, takes⟩
    · obtain ⟨takes, outcome, ends, -⟩ := decided_closed (u := u) closed close
      exact ⟨takes, outcome, ends⟩
    · obtain ⟨-, -, done⟩ := decided_opened (u := u) opened trip
      exact done k last
    · obtain ⟨-, -, -, ends⟩ := decided_closed (u := u) closed close
      exact ends last
    · exact (decideIfDiscovered_poleRec _ p).trans (poleEvent_rest_poleRec (s := u) rest)
    · have line : (decideIfDiscovered (poleEvent (takePosition p dec) u)).line = u.line := by
        rw [decided_rest_early (s := u) rest early, poleEvent_rest (s := u) rest]
        split <;> rfl
      intro moved place
      have same : moved = u.placed p dec := by
        show { s with line := _, poles := _ } = _
        rw [line]
        rfl
      rw [decided_rest_early (s := u) rest early, poleEvent_rest (s := u) rest, positionBody_places, same]
      rfl
    · rw [decided_rest_early (s := u) rest early]
      exact poleEvent_rest_seq (s := u) rest
    · obtain ⟨decides, stays, serves, locks⟩ := decided_rest_start (u := u) (x := dec) rest undecided known
      have alike : u.ReportsAlike s := ⟨rfl, rfl, rfl, rfl⟩
      refine ⟨decides, stays, serves, fun first other => ?_⟩
      obtain ⟨sequence, reports⟩ := locks first other
      exact ⟨sequence, fun undiscovered => (reports undiscovered).trans (alike.raise _ _).rep⟩

end Sys2Proof.Machine
end

section
/-! PROOFS. A hold removed (R92 to R94); a CLOSE refused, or its warning opened (R100); and the warning's end (R101, R62,
R77). -/

namespace Sys2Proof.Machine

/-! ## HOLD_CLEAR (R92, R93) -/

/-- R92: the hold that a port may remove stands in one of the slots 1 to 7. -/
theorem removable_stands {h : HoldUnit} {p : PortId} {tag : Half} {k : Nat} (named : removable h p tag = some k) :
    ∃ i x, k = i + 1 ∧ i < 7 ∧ h.slot (i + 1) = some x := by
  have stands : ∀ {o : HoldOrigin} {g : Half}, h.find o g = some k →
      ∃ i x, k = i + 1 ∧ i < 7 ∧ h.slot (i + 1) = some x := by
    intro o g found
    obtain ⟨i, x, rfl, at', -⟩ := HoldUnit.find_some found
    obtain ⟨bound, -⟩ := List.getElem?_eq_some_iff.mp at'
    refine ⟨i, x, rfl, by simpa using bound, ?_⟩
    have stored : h.slots[i]? = some (some x) := Vector.getElem?_toList.symm.trans at'
    exact congrArg (·.getD none) stored
  unfold removable at named
  cases p with
  | radio => exact stands named
  | crew =>
    dsimp only at named
    split at named
    · exact stands named
    · exact stands named

/-- R92: no such hold. -/
theorem holdClearTaken_absent {tag : Half} {r : CmdRef} {s : State} (absent : removable s.holds r.port tag = none) :
    holdClearTaken tag r s = complete r (.refused .notHolder) s := by
  unfold holdClearTaken
  rw [absent]
  rfl

/-- R92, R93: the hold named is removed. -/
theorem holdClearTaken_stands {tag : Half} {r : CmdRef} {s : State} {k : Nat} {x : Hold}
    (named : removable s.holds r.port tag = some k) (stands : s.holds.slot k = some x) :
    holdClearTaken tag r s = removeHold (some r) k x s := by
  unfold holdClearTaken
  rw [named, Option.bind_some, stands]
  rfl

/-- Settles O33: no hold to remove, or the slot emptied with the write that the command waits for. -/
theorem holdClearRemoves : Obligations.HoldClearRemoves := by
  intro p n tag s ready named
  let u := s.admitted p n .holdClear
  have names : removable u.holds (s.nextRef p).port tag = named := rfl
  refine ⟨fun absent => ?_, fun k found => ?_⟩
  · exact command_answered (f := id) ready rfl (holdClearTaken_absent (names.trans absent)) rfl
  · obtain ⟨i, x, rfl, bound, stands⟩ := removable_stands (names.trans found)
    have taken : holdClearTaken tag (s.nextRef p) u = removeHold (some (s.nextRef p)) (i + 1) x u :=
      holdClearTaken_stands (names.trans found) stands
    let emptied := (raise .holdCleared (holdBody (i + 1) x) (u.withSlot (i + 1) none)).askAlarm
    obtain ⟨rest, slots, close, waiter, queued, -⟩ := writeHolds_command (s.nextRef p) i emptied _ rfl
    refine ⟨_, (command_owner ready rfl).trans (congrArg _ taken), ?_, fun j other => ?_, close, ?_, waiter, queued,
      ?_, ?_, ?_, ?_, ?_⟩
    · exact (slots _).trans (slot_setSlot_same _ _ bound)
    · exact (slots j).trans (slot_setSlot_other _ _ other)
    · exact (congrArg (·.cmd.ctx p) rest).trans (admitted_ctx s p n .holdClear)
    · exact (congrArg State.seq rest :)
    · exact (congrArg State.poles rest :)
    · exact (congrArg State.prot rest :)
    · exact (congrArg State.batt rest :)
    · exact (congrArg State.time rest :)

/-! ## CLOSE refused (R100 steps 1 to 4) -/

/-- R100: a mask that names no pole, or more than the three. -/
theorem closeCommandTaken_bad {m : Byte} (n : Half) (r : CmdRef) (s : State) (bad : m.toNat = 0 ∨ 7 < m.toNat) :
    closeCommandTaken n m r s = complete r .badArgument s := by
  unfold closeCommandTaken
  rw [poleMaskArg_bad bad]

/-- R100: a CLOSE that a reason refuses. -/
theorem closeCommandTaken_barred {m : Byte} (n : Half) {r : CmdRef} {s : State} {reason : Reason} (named : m.toNat ≠ 0)
    (small : m.toNat ≤ 7) (bar : closeBar ⟨m.getLsbD 0, m.getLsbD 1, m.getLsbD 2⟩ s = some reason) :
    closeCommandTaken n m r s = complete r (.refused reason) s := by
  unfold closeCommandTaken
  simp only [poleMaskArg_good named small, bar]

/-- R100: a CLOSE that nothing refuses. -/
theorem closeCommandTaken_free {m : Byte} (n : Half) {r : CmdRef} {s : State} (named : m.toNat ≠ 0)
    (small : m.toNat ≤ 7) (bar : closeBar ⟨m.getLsbD 0, m.getLsbD 1, m.getLsbD 2⟩ s = none) :
    closeCommandTaken n m r s = closeTaken r n ⟨m.getLsbD 0, m.getLsbD 1, m.getLsbD 2⟩ s := by
  unfold closeCommandTaken
  simp only [poleMaskArg_good named small, bar]

/-- Settles O35: the bad mask, or the first reason of R100. -/
theorem closeRefusedAtOnce : Obligations.CloseRefusedAtOnce := by
  intro p n m s ready mask
  refine ⟨fun bad => ?_, fun reason named small bar => ?_⟩
  · exact command_answered (f := id) ready rfl (closeCommandTaken_bad n _ _ bad) rfl
  · have barred : closeBar mask (s.admitted p n .close) = some reason := bar
    exact command_answered (f := id) ready rfl (closeCommandTaken_barred n named small barred) rfl

/-- R100 steps 1 to 4: what it takes for nothing to refuse a CLOSE. -/
theorem closeBar_none {mask : PoleMask} {s : State} (accepted : s.holds.leverAccepted = true)
    (free : s.holds.close = none) (quiet : s.seq.state = .reset ∨ s.seq.state = .lockout)
    (admits : gateQuery mask s = none) : closeBar mask s = none := by
  have still : ¬ (s.seq.state ≠ .reset ∧ s.seq.state ≠ .lockout) := fun ⟨notReset, notLockout⟩ =>
    quiet.elim notReset notLockout
  unfold closeBar
  rw [if_neg (by simp [accepted]), if_neg (by simp [free]), if_neg still, admits]
  rfl

/-! ## The warning's end (R101, R62, R77) -/

/-- R101: the close request of a record's mask, with its warning timer stopped. -/
def State.askedToClose (s : State) (r : CloseRecord) : State :=
  abortTest .close { s with holds := { s.holds with close := some { r with timer := none } } }

/-- R84: the gate does not judge the operator close record. -/
theorem gateQuery_withClose (mask : PoleMask) (s : State) (x : Option CloseRecord) :
    gateQuery mask { s with holds := { s.holds with close := x } } = gateQuery mask s := rfl

/-- R101: the gate refuses the close. -/
theorem warningEnds_refused {s : State} {r : CloseRecord} {g : GateReason} (record : s.holds.close = some r)
    (warning : r.phase = .warning) (refused : gateQuery r.mask s = some g) :
    warningEnds s = s.onlySequence (closeRefused g.reason r (s.askedToClose r)) := by
  unfold warningEnds
  rw [record]
  dsimp only
  rw [if_pos warning, closeRequest_refused (g := g) (by rwa [gateQuery_withClose])]
  rfl

/-- R101, R62: the gate admits the close. -/
theorem warningEnds_admitted {s : State} {r : CloseRecord} (record : s.holds.close = some r)
    (warning : r.phase = .warning) (admitted : gateQuery r.mask s = none) :
    warningEnds s = s.onlySequence (closeAdmitted r.mask
      { beginCloses r.mask (s.askedToClose r) with
        holds := { s.holds with close := some { r with timer := none, phase := .pulsing } } }) := by
  unfold warningEnds
  rw [record]
  dsimp only
  rw [if_pos warning, closeRequest_admitted (by rwa [gateQuery_withClose])]
  rfl

/-- What the admitted end of a warning leaves. -/
structure State.CloseAdmitted (s : State) (r : CloseRecord) (t : State) : Prop where
  holds : t.holds = { s.holds with close := some { r with timer := none, phase := .pulsing } }
  state : t.seq.state = .closing
  shot : t.seq.shot = 1
  mark : t.seq.afterClose = true
  closesOut : t.seq.ctx.closesOut = r.mask
  waits : t.seq.operatorClose = some ⟨r.mask, r.mask, ⟨none, none, none⟩⟩
  lamp : s.seq.state = .lockout → t.seq.lamp = false
  poles : ∀ p, t.poleRec p =
    if r.mask.get p = true then (s.poleRec p).beginClose s.store.active s.now else s.poleRec p
  test : t.batt.test = none
  noTest : s.batt.test = none → t.batt = s.batt ∧ t.cmd = s.cmd
  prot : t.prot = s.prot
  store : t.store = s.store
  line : t.line = s.line
  time : t.time = s.time

/-- R101, R62, R77: the record PULSING, the sequence CLOSING, the close pulses of the mask begun. -/
theorem warningEnds_closeAdmitted {s : State} {r : CloseRecord} (record : s.holds.close = some r)
    (warning : r.phase = .warning) (admitted : gateQuery r.mask s = none) : s.CloseAdmitted r (warningEnds s) := by
  rw [warningEnds_admitted record warning admitted]
  refine ⟨rfl, rfl, rfl, rfl, rfl, rfl, fun locked => if_pos locked, beginCloses_pole r.mask (s.askedToClose r),
    abortTest_test .close _, fun untested => ?_, rfl, rfl, rfl, rfl⟩
  have asked : s.askedToClose r = { s with holds := { s.holds with close := some { r with timer := none } } } :=
    abortTest_none .close untested
  rw [asked]
  exact ⟨rfl, rfl⟩

/-- R120, R169: a notice, of a trip or a close, answers the command of the test it ends and no other. -/
theorem abortTest_ctx_kept_or_idle {cause : TestCause} (commanded : cause ≠ .abort) (s : State) (p : PortId) :
    (abortTest cause s).cmd.ctx p = s.cmd.ctx p ∨ (abortTest cause s).cmd.ctx p = .idle := by
  cases test : s.batt.test with
  | none => exact .inl (by rw [abortTest_none cause test])
  | some x =>
    obtain ⟨body, ended⟩ := abortTest_running test commanded
    have cmd : (raise .testResult body (s.testEnded cause x)).cmd = s.cmd := by
      rw [raise_cmd, (testEnded_blocks s cause x).2]
    rw [ended, State.onlyBattery_cmd, ← cmd]
    cases x.origin with
    | command r n => exact complete_ctx r _ _ p
    | scheduled => exact .inl rfl

/-- R101, R169: the CLOSE that the gate refuses at the warning's end has its answer. -/
theorem closeRefused_idle {s : State} {r : CloseRecord} {e : Executing} (x : Reason)
    (held : s.holding r.cmd = some e) : (closeRefused x r (s.askedToClose r)).cmd.ctx r.cmd.port = .idle := by
  let asked := (s.askedToClose r).withoutClose
  have answered : (closeRefused x r (s.askedToClose r)).cmd = (complete r.cmd (.refused x) asked).cmd := rfl
  rw [answered]
  obtain kept | idle := abortTest_ctx_kept_or_idle (cause := .close) (by decide)
    { s with holds := { s.holds with close := some { r with timer := none } } } r.cmd.port
  · exact complete_idle _ ((holding_congr (s := s) (t := asked) kept).trans held)
  · exact (complete_heard r.cmd (.refused x) asked).idle r.cmd.port idle

/-- Settles O37: the gate's two answers. -/
theorem warningTimerAsksGate : Obligations.WarningTimerAsksGate := by
  intro s r expires record warning
  have timer : s.warningTimer = r.timer := by rw [State.warningTimer, record, Option.bind_some]
  have run : exec .warningTimerExpiry s = .next (warningEnds s) := expires_run (f := State.warningTimer) (timer ▸ expires)
  refine ⟨fun g refused => ⟨_, run, ?_⟩, fun admitted => ⟨_, run, ?_⟩⟩
  · rw [warningEnds_refused record warning refused]
    exact ⟨rfl, rfl, rfl, rfl, rfl, rfl, rfl, fun e held => closeRefused_idle g.reason held⟩
  · have left := warningEnds_closeAdmitted record warning admitted
    refine ⟨left.holds, left.state, left.shot, left.mark, left.closesOut, left.waits, left.lamp, fun p on => ?_,
      fun p off => ?_, left.test, left.prot, left.store, left.line, left.time⟩
    · rw [left.poles, if_pos on]
      exact ⟨rfl, rfl, rfl, rfl⟩
    · rw [left.poles, if_neg (Bool.eq_false_iff.mp off)]

/-! ## CLOSE taken (R100 steps 5 to 8) -/

/-- R99: the record that a CLOSE taken makes. -/
def State.closeRecordOf (s : State) (r : CmdRef) (number : Half) (mask : PoleMask) : CloseRecord :=
  let ends := s.now + s.store.active.warningDelay r.port
  { cmd := r, number := number, mask := mask, phase := .warning, warningEnd := ends, timer := some ends }

/-- R100 steps 5 and 6: the close-taken notice, and the record. -/
def State.closeOpened (s : State) (r : CmdRef) (number : Half) (mask : PoleMask) : State :=
  { abortTest .close s with holds := { s.holds with close := some (s.closeRecordOf r number mask) } }

/-- R100 steps 7 and 8: with a warning delay the tone is asked for, and the record waits. -/
theorem closeTaken_delayed {r : CmdRef} (number : Half) (mask : PoleMask) {s : State}
    (delayed : 0 < s.store.active.warningDelay r.port) :
    closeTaken r number mask s =
      raise .operatorClose (operatorCloseBody r.port mask (s.store.active.warningDelay r.port))
        { s.closeOpened r number mask with
          line := { s.line with warningEnd := some (s.now + s.store.active.warningDelay r.port) } } := by
  unfold closeTaken
  simp only [if_neg delayed.ne']
  rfl

/-- Log 22: with a warning delay of 0 the warning ends in the same step. -/
theorem closeTaken_undelayed {r : CmdRef} (number : Half) (mask : PoleMask) {s : State}
    (undelayed : s.store.active.warningDelay r.port = 0) :
    closeTaken r number mask s =
      warningEnds (raise .operatorClose (operatorCloseBody r.port mask 0) (s.closeOpened r number mask)) := by
  unfold closeTaken State.closeOpened State.closeRecordOf
  simp only [undelayed, if_true]
  rfl

/-- R84, R100: what the close-taken notice and OPERATOR_CLOSE change, the gate does not judge. -/
theorem gateQuery_closeOpened (k mask : PoleMask) (r : CmdRef) (number : Half) (b : List Byte) (s : State) :
    gateQuery k (raise .operatorClose b (s.closeOpened r number mask)) = gateQuery k s :=
  gateQuery_abortTest k .close s

/-- With no test running, the close-taken notice leaves the battery and the contexts. -/
theorem closeOpened_noTest {r : CmdRef} {number : Half} {mask : PoleMask} {s : State} (untested : s.batt.test = none) :
    (s.closeOpened r number mask).batt = s.batt ∧ (s.closeOpened r number mask).cmd = s.cmd := by
  unfold State.closeOpened
  rw [abortTest_none .close untested]
  exact ⟨rfl, rfl⟩

/-- Settles O36: the warning opened, or with a delay of 0 ended at once with the gate's second answer. -/
theorem closeOpensWarning : Obligations.CloseOpensWarning := by
  intro p n m s ready mask delay named small accepted free quiet admits
  let u := s.admitted p n .close
  let r := s.nextRef p
  have taken : closeCommandTaken n m r u = closeTaken r n mask u :=
    closeCommandTaken_free n named small (closeBar_none (s := u) accepted free quiet admits)
  have run : exec (.close p n m) s = .next (closeTaken r n mask u) :=
    (command_owner ready rfl).trans (congrArg _ taken)
  have held : ∀ t : State, t.cmd = u.cmd → t.cmd.ctx p = takenContext n .close s.cmd.nextSerial := fun t same =>
    (congrArg (·.ctx p) same).trans (admitted_ctx s p n .close)
  obtain zero | delayed : delay = 0 ∨ 0 < delay := Nat.eq_zero_or_pos delay
  · let opened := raise .operatorClose (operatorCloseBody p mask 0) (u.closeOpened r n mask)
    have left : opened.CloseAdmitted (u.closeRecordOf r n mask) (warningEnds opened) :=
      warningEnds_closeAdmitted rfl rfl ((gateQuery_closeOpened ..).trans admits)
    have record : ({ u.closeRecordOf r n mask with timer := none, phase := .pulsing } : CloseRecord) =
        ⟨r, n, mask, .pulsing, s.now, none⟩ :=
      congrArg (CloseRecord.mk r n mask .pulsing · none) (congrArg (s.now + ·) zero)
    refine ⟨_, run.trans (congrArg _ (closeTaken_undelayed n mask zero)), left.test, fun untested => ?_, left.prot,
      left.store, left.time, fun delayed => absurd zero delayed.ne', fun _ => ⟨?_, left.line, left.state, left.shot, left.mark,
        left.closesOut, left.waits, left.lamp, fun q on => ?_, fun q off => ?_⟩⟩
    · obtain ⟨batt, cmd⟩ := closeOpened_noTest (r := r) (number := n) (mask := mask) (s := u) untested
      obtain ⟨batt', cmd'⟩ := left.noTest (by rw [raise_batt, batt]; exact untested)
      exact ⟨batt'.trans batt, held _ (cmd'.trans cmd)⟩
    · exact left.holds.trans (congrArg (fun x => ({ s.holds with close := some x } : HoldUnit)) record)
    · exact (left.poles q).trans (if_pos on)
    · exact (left.poles q).trans (if_neg (Bool.eq_false_iff.mp off))
  · refine ⟨_, run.trans (congrArg _ (closeTaken_delayed n mask delayed)), abortTest_test .close u, fun untested => ?_, rfl,
      rfl, rfl, fun _ => ⟨rfl, rfl, rfl, rfl⟩, fun zero => absurd zero delayed.ne'⟩
    obtain ⟨batt, cmd⟩ := closeOpened_noTest (r := r) (number := n) (mask := mask) (s := u) untested
    exact ⟨batt, held _ cmd⟩

end Sys2Proof.Machine
end

section
/-! PROOFS. The load test started, commanded or due (R116 to R118, R122), and graded (R119). -/

namespace Sys2Proof.Machine

/-! ## The start conditions (R117) -/

/-- The place of the first failure in a list of conditions, taken from the front. -/
theorem firstFailing_cons {α : Type} (ok : Bool) (rest : List Bool) (f : Nat → α) :
    ((ok :: rest).findIdx? (!·)).map f =
      if ok = false then some (f 0) else (rest.findIdx? (!·)).map fun k => f (k + 1) := by
  cases ok with
  | false => rfl
  | true => rw [List.findIdx?_cons, if_neg (by decide), if_neg (by decide), Option.map_map]; rfl

/-- R117: the fourth start condition fails where some mechanism is not IDLE. -/
theorem allIdle_eq_false (s : State) : (s.poles.pole.toList.all fun r => decide (r.mech = .idle)) = false ↔
    (s.poleRec .a).mech ≠ .idle ∨ (s.poleRec .b).mech ≠ .idle ∨ (s.poleRec .c).mech ≠ .idle := by
  show _ ↔ s.poles.pole.a.mech ≠ .idle ∨ s.poles.pole.b.mech ≠ .idle ∨ s.poles.pole.c.mech ≠ .idle
  simp only [PerPole.toList, List.all_cons, List.all_nil, Bool.and_true, Bool.and_eq_false_iff, decide_eq_false_iff_not,
    ne_eq]

/-- R117, R122: the number of the first start condition that fails, as the refusal's data holds it. -/
def State.startBar (s : State) : Option Byte := (testBar s).map (BitVec.ofNat 8)

/-- R117: the start conditions, in order. -/
theorem startBar_eq (s : State) : s.startBar =
    if s.batt.charger ≠ .float then some 1
    else if s.batt.ac ≠ .active then some 2
    else if s.seq.state ≠ .reset then some 3
    else if (s.poleRec .a).mech ≠ .idle ∨ (s.poleRec .b).mech ≠ .idle ∨ (s.poleRec .c).mech ≠ .idle then some 4
    else if s.holds.close.isSome = true then some 5
    else if s.poles.storeVoltage < s.store.active.storeTarget then some 6
    else if s.batt.level ≠ .normal then some 7
    else if s.batt.shutdown ≠ .none then some 8
    else none := by
  have noClose : s.holds.close.isNone = false ↔ s.holds.close.isSome = true := by
    cases s.holds.close <;> simp
  unfold State.startBar testBar testConditions
  rw [Option.map_map]
  simp only [firstFailing_cons, allIdle_eq_false, noClose, decide_eq_false_iff_not, Nat.not_le]
  rfl

theorem startBar_none_iff {s : State} : s.startBar = none ↔ testBar s = none := Option.map_eq_none_iff

/-- R122: the failing condition's number is the one byte of the refusal's data. -/
theorem testBar_data {s : State} {n : Nat} {k : Byte} (bar : testBar s = some n) (code : s.startBar = some k) :
    u8 n = [k] := by
  have small : n < 256 := by
    obtain ⟨i, found, rfl⟩ := Option.map_eq_some_iff.mp bar
    have place : i < 8 := (List.findIdx?_eq_some_iff_findIdx_eq.mp found).1
    omega
  rw [State.startBar, bar, Option.map_some, Option.some_inj] at code
  rw [u8, if_pos small, code]

/-! ## A test started (R118) -/

/-- R118: the battery record as a test starts. -/
def State.testStarted (s : State) (origin : TestOrigin) : Battery :=
  { s.batt with
    charger := .test,
    test := some
      { origin := origin, startTag := s.time.timeTag, startVoltage := s.batt.voltage,
        minVoltage := s.batt.voltage, timer := some (s.now + s.store.active.testDuration) } }

theorem startTest_scheduled (s : State) :
    startTest .scheduled s = { s with batt := { s.testStarted .scheduled with retryWait := none } } := rfl

theorem startTest_command (r : CmdRef) (n : Half) (s : State) :
    startTest (.command r n) s = { s with batt := s.testStarted (.command r n) } := rfl

/-- R116: a test that is due starts, or the retry wait does. -/
theorem testDue_eq (s : State) : testDue s = { s with
    batt := if s.startBar = none then { s.testStarted .scheduled with retryWait := none }
            else { s.batt with retryWait := some (s.now + 600000) } } := by
  unfold testDue
  by_cases free : s.startBar = none
  · rw [if_pos free, if_pos (Option.isNone_iff_eq_none.mpr (startBar_none_iff.mp free)), startTest_scheduled]
  · rw [if_neg free, if_neg fun none => free (startBar_none_iff.mpr (Option.isNone_iff_eq_none.mp none))]

/-! ## BATTERY_TEST (R122) -/

section
variable {s : State} (n : Half) (r : CmdRef)

theorem batteryTestTaken_active (running : s.batt.test.isSome = true) :
    batteryTestTaken n r s = complete r (.refused .testActive) s := if_pos running

theorem batteryTestTaken_barred {k : Byte} (idle : s.batt.test = none) (barred : s.startBar = some k) :
    batteryTestTaken n r s = complete r (.refused .testNotAllowed [k]) s := by
  unfold batteryTestTaken
  rw [idle, Option.isSome_none, if_neg Bool.false_ne_true]
  cases bar : testBar s with
  | none => cases barred.symm.trans (startBar_none_iff.mpr bar)
  | some m => simp only [testBar_data bar barred]

theorem batteryTestTaken_free (idle : s.batt.test = none) (free : s.startBar = none) :
    batteryTestTaken n r s = { s with batt := s.testStarted (.command r n) } := by
  unfold batteryTestTaken
  rw [idle, Option.isSome_none, if_neg Bool.false_ne_true, startBar_none_iff.mp free]
  exact startTest_command r n s

end

/-! ## The due moments (R116) -/

theorem waitRunsOn_iff (s : State) : waitRunsOn s = true ↔ ∃ e, s.batt.retryWait = some e ∧ s.now < e := by
  simp only [waitRunsOn, Option.any_eq_true, decide_eq_true_eq]

theorem scheduledNow_iff (s : State) : scheduledNow s = true ↔ ∃ x, s.batt.test = some x ∧ x.origin = .scheduled ∧
    x.timer = some (s.now + s.store.active.testDuration) := by
  simp only [scheduledNow, Option.any_eq_true, Bool.and_eq_true, decide_eq_true_eq]

/-- R116: a due time that no other due moment has gone before. -/
theorem dueTimeReached_first {s : State} (first : ¬ (waitRunsOn s || scheduledNow s) = true) :
    dueTimeReached s = testDue { s with batt := { s.batt with nextDue := none } } := if_neg first

/-- Settles O38, through the first start condition that fails: BATTERY_TEST, then the two due moments. -/
theorem testStarts : Obligations.TestStarts := by
  intro s bar started
  have code : s.startBar = bar := startBar_eq s
  clear_value bar
  subst code
  refine ⟨fun p n ready => ⟨fun running => ?_, fun k idle barred => ?_, fun idle free => ?_⟩,
    ⟨fun expires second => ?_, fun expires noWait notStarted => ?_⟩, fun expires => ?_⟩
  · exact command_answered (f := id) ready rfl (batteryTestTaken_active n (s.nextRef p) running) rfl
  · exact command_answered (f := id) ready rfl
      (batteryTestTaken_barred (s := s.admitted p n .batteryTest) n (s.nextRef p) idle barred) rfl
  · exact (command_owner ready rfl).trans
      (congrArg _ (batteryTestTaken_free (s := s.admitted p n .batteryTest) n (s.nextRef p) idle free))
  · have found : (waitRunsOn s || scheduledNow s) = true :=
      Bool.or_eq_true_iff.mpr (second.imp (waitRunsOn_iff s).mpr (scheduledNow_iff s).mpr)
    exact (expires_run (f := (·.batt.nextDue)) expires).trans (congrArg _ (dueTimeReached_idle found))
  · have first : ¬ (waitRunsOn s || scheduledNow s) = true := fun found =>
      (Bool.or_eq_true_iff.mp found).elim (noWait ∘ (waitRunsOn_iff s).mp) (notStarted ∘ (scheduledNow_iff s).mp)
    exact (expires_run (f := (·.batt.nextDue)) expires).trans
      (congrArg _ ((dueTimeReached_first first).trans (testDue_eq _)))
  · exact (expires_run (f := (·.batt.retryWait)) expires).trans (congrArg _ (testDue_eq _))

/-! ## A test graded (R119) -/

/-- R112, R119, R120: the charger as it leaves TEST. -/
theorem leftTest_eq (b : Battery) (bank : Bank) : b.leftTest bank = { b with
    pendingFault := none,
    charger := if b.pendingFault.isSome then .fault
      else if b.ac ≠ .active ∨ b.readingTaken = false then .off
      else if b.voltage < bank.floatVoltage - bank.rebulkMargin then .bulk else .float } := by
  unfold Battery.leftTest
  cases pending : b.pendingFault with
  | some c => rfl
  | none => simp only [entry_eq, pending, Option.isSome_none, Bool.false_eq_true, if_false]

/-- R119: the record of a graded test. -/
def LoadTest.graded (x : LoadTest) (bank : Bank) : TestRecord :=
  x.record (gradeOf bank (x.startVoltage - x.minVoltage)) none

/-- R116, R119: the next due time set anew, and no retry wait. -/
def Battery.scheduled (b : Battery) (due : Option Nat) : Battery := { b with nextDue := due, retryWait := none }

def State.scheduled (s : State) (due : Option Nat) : State := { s with batt := s.batt.scheduled due }

@[simp] theorem State.scheduled_batt (s : State) (due : Option Nat) : (s.scheduled due).batt = s.batt.scheduled due := rfl

@[simp] theorem State.scheduled_cmd (s : State) (due : Option Nat) : (s.scheduled due).cmd = s.cmd := rfl

/-- R119: the battery record after a test that is graded. -/
def Battery.graded (b : Battery) (bank : Bank) (now : Nat) (x : LoadTest) : Battery :=
  ((b.endTest (x.graded bank)).leftTest bank).scheduled (dueAfter bank now)

/-- R119: the end of a graded test up to its event. -/
def State.testGraded (s : State) (x : LoadTest) : State :=
  (chargerLeavesTest { s with batt := s.batt.endTest (x.graded s.store.active) }).scheduled
    (dueAfter s.store.active s.now)

theorem testGraded_blocks (s : State) (x : LoadTest) :
    (s.testGraded x).batt = s.batt.graded s.store.active s.now x ∧ (s.testGraded x).cmd = s.cmd := by
  obtain ⟨batt, cmd, -⟩ := chargerLeavesTest_leaves { s with batt := s.batt.endTest (x.graded s.store.active) }
  rw [State.testGraded, State.scheduled_batt, State.scheduled_cmd, batt, cmd]
  exact ⟨rfl, rfl⟩

/-- R119: a running test graded: the event, and where it was commanded its answer. -/
theorem gradeTest_running {s : State} {x : LoadTest} (running : s.batt.test = some x) :
    ∃ body, gradeTest s = s.onlyBattery (answerTest x.origin (.done (testRecordBytes (x.graded s.store.active)))
      (raise .testResult body (s.testGraded x))) := by
  unfold gradeTest
  rw [running]
  exact ⟨_, rfl⟩

theorem gradeTest_batt {s : State} {x : LoadTest} (running : s.batt.test = some x) :
    (gradeTest s).batt = s.batt.graded s.store.active s.now x := by
  obtain ⟨body, graded⟩ := gradeTest_running running
  rw [graded, State.onlyBattery_batt, answerTest_batt, raise_batt, (testGraded_blocks s x).1]

/-- R119, R169: the BATTERY_TEST that ran is answered. -/
theorem gradeTest_idle {s : State} {x : LoadTest} {r : CmdRef} {n : Half} {e : Executing}
    (running : s.batt.test = some x) (origin : x.origin = .command r n) (held : s.holding r = some e) :
    (gradeTest s).cmd.ctx r.port = .idle := by
  obtain ⟨body, graded⟩ := gradeTest_running running
  rw [graded, origin]
  refine complete_idle _ (e := e) (Eq.trans (holding_congr ?_) held)
  rw [raise_cmd, (testGraded_blocks s x).2]

/-- Settles O39: the battery record of a graded test, and the answer of the command that ran it. -/
theorem durationTimerGrades : Obligations.DurationTimerGrades := by
  intro s x expires running b drop grade
  have timer : s.durationTimer = x.timer := by rw [State.durationTimer, running, Option.bind_some]
  have run : exec .durationTimerExpiry s = .next (gradeTest s) := expires_run (f := State.durationTimer) (timer ▸ expires)
  refine ⟨_, run, ?_, fun r k e origin held => gradeTest_idle running origin held, rfl, rfl, rfl, rfl, rfl, rfl, rfl⟩
  rw [gradeTest_batt running, Battery.graded, leftTest_eq]
  rfl

end Sys2Proof.Machine
end

section
/-! PROOFS. AC_PRESENT_CHANGE: the charger by its state, and the event flags (R110, R120, R183). -/

namespace Sys2Proof.Machine

/-! ## The Line Unit's part, whichever the input (R183) -/

/-- R183: an accepted change of a maskable input changes the Line Unit, and by its event what reports. -/
theorem lineTakes_blocks (i : MaskInput) (x : Accepted) (s : State) :
    lineTakes i x s = { s.onlyReport (lineTakes i x s) with line := (lineTakes i x s).line } := by
  have told : ∀ t : State, raiseLineEvent i x.level t = t.onlyReport (raiseLineEvent i x.level t) := by
    intro t
    unfold raiseLineEvent
    split <;> rfl
  unfold lineTakes lineEffect
  split
  · rw [told]
    split <;> rfl
  · rfl

/-- R183: the flags are set by a change to active under an enabled mask, other than a first acceptance. -/
theorem lineTakes_line (i : MaskInput) (x : Accepted) (s : State) :
    (lineTakes i x s).line =
      if (x.level && !x.first && i.get s.line.masks) = true then s.line.setFlags i else s.line := by
  have told : ∀ t : State, (raiseLineEvent i x.level t).line = t.line := by
    intro t
    unfold raiseLineEvent
    split <;> rfl
  unfold lineTakes lineEffect
  obtain ⟨level, first⟩ := x
  cases first with
  | true => simp
  | false =>
    cases masked : i.get s.line.masks with
    | false => simp
    | true => cases level <;> simpa using told _

/-! ## The Battery Unit's part (R110, R120) -/

/-- R110: at a change to active the charger leaves OFF by the entry rule. -/
theorem batteryTakesAc_present (s : State) : (batteryTakesAc true s).batt = { s.batt with
    ac := .active,
    charger := if s.batt.charger ≠ .off then s.batt.charger
      else if s.batt.readingTaken = false then .off
      else if s.batt.voltage < s.store.active.floatVoltage - s.store.active.rebulkMargin then .bulk else .float } := by
  unfold batteryTakesAc
  cases charger : s.batt.charger with
  | off => simp [charger, entry_eq]
  | bulk | absorb | float | test | fault => simp [charger]

/-- R110: at a change to inactive a charger with no test goes OFF, and no longer waits to leave FAULT. -/
theorem batteryTakesAc_absent {s : State} (untested : s.batt.charger ≠ .test) :
    (batteryTakesAc false s).batt = { s.batt with
      ac := .inactive, charger := .off,
      faultClear := if s.batt.charger = .fault then none else s.batt.faultClear } := by
  unfold batteryTakesAc
  cases charger : s.batt.charger with
  | test => exact absurd charger untested
  | off | bulk | absorb | float | fault => simp [charger]

/-- R110: at a change to inactive the charger's TEST ends. -/
theorem batteryTakesAc_testLost {s : State} (tested : s.batt.charger = .test) :
    (batteryTakesAc false s).batt = (abortTest .acLost { s with batt := { s.batt with ac := .inactive } }).batt := by
  unfold batteryTakesAc
  simp [tested]

/-- R112, R120: a test that ends with its cause, the AC level inactive. -/
theorem aborted_unpowered (bank : Bank) (now : Nat) (cause : TestCause) (x : LoadTest) {b : Battery}
    (lost : b.ac = .inactive) :
    (b.aborted bank now cause x).ac = .inactive ∧ (b.aborted bank now cause x).test = none ∧
    (b.aborted bank now cause x).lastTest = some (x.record .aborted (some cause)) ∧
    (b.aborted bank now cause x).charger = if b.pendingFault.isSome then .fault else .off := by
  unfold Battery.aborted
  rw [leftTest_eq]
  exact ⟨lost, rfl, rfl, by simp [Battery.endTest, lost]⟩

/-- R110: the battery record's level follows the input. -/
theorem batteryTakesAc_ac (level : Bool) (s : State) : (batteryTakesAc level s).batt.ac = .of level := by
  cases level with
  | true => rw [batteryTakesAc_present]; rfl
  | false =>
    by_cases tested : s.batt.charger = .test
    · let lost : State := { s with batt := { s.batt with ac := .inactive } }
      refine (congrArg Battery.ac (batteryTakesAc_testLost tested)).trans ?_
      cases test : s.batt.test with
      | none => exact congrArg (·.batt.ac) (abortTest_none (s := lost) .acLost test)
      | some x =>
        rw [abortTest_batt (s := lost) (x := x) test (by decide)]
        exact (aborted_unpowered _ _ .acLost x rfl).1
    · rw [batteryTakesAc_absent tested]; rfl

/-! ## The change row -/

/-- R182: the Battery Unit's part, then the Line Unit's. -/
theorem takeAcPresent_blocks (x : Accepted) (s : State) :
    takeAcPresent x s =
      { (batteryTakesAc x.level s).onlyReport (takeAcPresent x s) with line := (takeAcPresent x s).line } :=
  lineTakes_blocks .acPresent x (batteryTakesAc x.level s)

/-- R183: AC_PRESENT's flags. -/
theorem takeAcPresent_line (x : Accepted) (s : State) :
    let on := x.level && !x.first && s.line.masks.acPresent
    (takeAcPresent x s).line.filters = s.line.filters ∧
    (takeAcPresent x s).line.radioFlags.acPresent = (s.line.radioFlags.acPresent || on) ∧
    (takeAcPresent x s).line.crewFlags.acPresent = (s.line.crewFlags.acPresent || on) := by
  intro on
  have line : (takeAcPresent x s).line = if on = true then s.line.setFlags .acPresent else s.line :=
    lineTakes_line .acPresent x (batteryTakesAc x.level s)
  rw [line]
  cases on <;> simp [LineUnit.setFlags, MaskInput.set]

/-- Settles O41: no change, or the battery record by the charger's state and the flags under their mask. -/
theorem acChangeMovesCharger : Obligations.AcChangeMovesCharger := by
  intro level s powered lvl old b flag
  refine ⟨fun same => ?_, fun other => ?_⟩
  · exact (run_powered powered).trans (congrArg _ (changeCabinet_same (i := .acPresent) same))
  · let u := s.withFilters { s.line.filters with cabinet := { s.line.filters.cabinet with
      acPresent := (s.line.filters.cabinet.acPresent.accept level).1 } }
    have run : exec (.acPresentChange level) s = .next (takeAcPresent ⟨level, decide (old = .notYet)⟩ u) :=
      (run_powered powered).trans (congrArg _ (changeCabinet_other (i := .acPresent) other))
    have blocks := takeAcPresent_blocks ⟨level, decide (old = .notYet)⟩ u
    have batt : (takeAcPresent ⟨level, decide (old = .notYet)⟩ u).batt = (batteryTakesAc level u).batt :=
      (congrArg State.batt blocks :)
    obtain ⟨filters, radio, crew⟩ := takeAcPresent_line ⟨level, decide (old = .notYet)⟩ u
    rw [← decide_not] at radio crew
    refine ⟨_, run, congrArg (·.cabinet.acPresent.accepted) filters, ?_, ?_, ?_, ?_, radio, crew,
      (congrArg State.seq blocks :), (congrArg State.poles blocks :), (congrArg State.prot blocks :),
      (congrArg State.holds blocks :), (congrArg State.store blocks :), (congrArg State.time blocks :)⟩
    · exact (congrArg Battery.ac batt).trans (batteryTakesAc_ac level u)
    · rintro rfl
      exact batt.trans (batteryTakesAc_present u)
    · rintro rfl untested
      exact batt.trans (batteryTakesAc_absent (s := u) untested)
    · rintro x rfl tested running
      have ended := batt.trans ((batteryTakesAc_testLost (s := u) tested).trans (abortTest_batt running (by decide)))
      obtain ⟨-, test, last, charger⟩ := aborted_unpowered u.store.active u.now .acLost x
        (b := { s.batt with ac := .inactive }) rfl
      rw [ended]
      exact ⟨test, congrArg (Option.map TestRecord.cause) last, charger⟩

end Sys2Proof.Machine
end

section
/-! PROOFS. The report queue: the number of a new entry (R131), the entry that gives way (R133), the entry selected
(R137), and what the Report Unit's work changes (R138, R139). -/

namespace Sys2Proof.Machine

/-! ## Report numbers (R131) -/

theorem numberAfter_toNat (n : Half) : (numberAfter n).toNat = if n.toNat = 65535 then 1 else n.toNat + 1 := by
  unfold numberAfter
  have top : n = 0xFFFF#16 ↔ n.toNat = 65535 := by rw [← BitVec.toNat_inj]; rfl
  simp only [top]
  split
  · rfl
  · rw [BitVec.toNat_add]
    have := n.isLt
    simp
    omega

/-- R131: the number some places on, passing over 0. -/
theorem numberAfter_iterate (n : Half) {i : Nat} (h : i ≤ 64) :
    (numberAfter^[i] n).toNat = if n.toNat + i ≤ 65535 then n.toNat + i else n.toNat + i - 65535 := by
  induction i with
  | zero => simp; omega
  | succ i ih =>
    rw [Function.iterate_succ_apply', numberAfter_toNat, ih (by omega)]
    split <;> split <;> split <;> omega

/-- R131: 65 numbers one after another are different. -/
theorem numberAfter_iterate_nodup (n : Half) : ((List.range 65).map fun i => numberAfter^[i] n).Nodup := by
  refine List.Nodup.map_on (fun i hi j hj same => ?_) List.nodup_range
  have first := numberAfter_iterate n (i := i) (by simpa [Nat.lt_succ_iff] using hi)
  have second := numberAfter_iterate n (i := j) (by simpa [Nat.lt_succ_iff] using hj)
  rw [same, second] at first
  rw [List.mem_range] at hi hj
  split at first <;> split at first <;> omega

/-- R131: the search ends at a number that no entry holds, or has found every number it tried held. -/
theorem freeNumber_free_or_held (tries : Nat) (q : List ReportEntry) (n : Half) :
    freeNumber tries q n ∉ q.map ReportEntry.number ∨
      ∀ i < tries, numberAfter^[i] n ∈ q.map ReportEntry.number := by
  induction tries generalizing n with
  | zero => exact .inr fun i h => absurd h (Nat.not_lt_zero i)
  | succ tries ih =>
    unfold freeNumber
    by_cases held : n ∈ q.map ReportEntry.number
    · have any : (q.any fun e => decide (e.number = n)) = true := by simpa using held
      rw [if_pos any]
      refine (ih (numberAfter n)).imp_right fun later i h => ?_
      cases i with
      | zero => exact held
      | succ i => exact later i (by omega)
    · have none : ¬ (q.any fun e => decide (e.number = n)) = true := by simpa using held
      rw [if_neg none]
      exact .inl held

/-- R131: in a queue of at most 64 entries the search ends at a number that none holds. -/
theorem freeNumber_free {q : List ReportEntry} (n : Half) (short : q.length ≤ 64) :
    freeNumber 65 q n ∉ q.map ReportEntry.number := by
  refine (freeNumber_free_or_held 65 q n).resolve_right fun held => ?_
  have inside : ((List.range 65).map fun i => numberAfter^[i] n) ⊆ q.map ReportEntry.number := by
    intro x hx
    obtain ⟨i, hi, rfl⟩ := List.mem_map.mp hx
    exact held i (List.mem_range.mp hi)
  have := ((numberAfter_iterate_nodup n).subperm inside).length_le
  rw [List.length_map, List.length_map, List.length_range] at this
  omega

/-- R131: the next number is taken if it is free. -/
theorem freeNumber_next {q : List ReportEntry} {n : Half} (tries : Nat) (free : n ∉ q.map ReportEntry.number) :
    freeNumber (tries + 1) q n = n := by
  unfold freeNumber
  rw [if_neg (by simpa using free)]

/-! ## Displacement (R133) -/

/-- R133: an entry that a displacement of a priority may take: QUEUED, of that priority. -/
def Priority.takes (p : Priority) (e : ReportEntry) : Bool := !e.inFlight && decide (e.priority = p)

/-- R133: there is no oldest entry where none may be taken. -/
theorem removeOldest_none {p : Priority} {q : List ReportEntry} (h : q.any p.takes = false) :
    removeOldest p q = none := by
  induction q with
  | nil => rfl
  | cons e rest ih =>
    rw [List.any_cons, Bool.or_eq_false_iff] at h
    obtain ⟨stays, later⟩ := h
    unfold removeOldest
    rw [if_neg (by simpa [Priority.takes, and_comm] using stays), ih later]
    rfl

/-- R133: the oldest entry that may be taken leaves the queue. -/
theorem removeOldest_split {p : Priority} {before after : List ReportEntry} {e : ReportEntry}
    (first : before.any p.takes = false) (goes : p.takes e = true) :
    removeOldest p (before ++ e :: after) = some (before ++ after) := by
  induction before with
  | nil =>
    rw [List.nil_append, removeOldest, if_pos (by simpa [Priority.takes, and_comm] using goes)]
    rfl
  | cons x before ih =>
    rw [List.any_cons, Bool.or_eq_false_iff] at first
    obtain ⟨stays, later⟩ := first
    rw [List.cons_append, removeOldest, if_neg (by simpa [Priority.takes, and_comm] using stays), ih later]
    rfl

/-- R133: what a displacement leaves is the queue without one entry. -/
theorem removeOldest_some {p : Priority} {q r : List ReportEntry} (h : removeOldest p q = some r) :
    r.Sublist q ∧ r.length + 1 = q.length := by
  induction q generalizing r with
  | nil => cases h
  | cons e rest ih =>
    unfold removeOldest at h
    split at h
    · cases h
      exact ⟨List.sublist_cons_self e rest, rfl⟩
    · obtain ⟨left, removed, rfl⟩ := Option.map_eq_some_iff.mp h
      obtain ⟨sub, length⟩ := ih removed
      exact ⟨sub.cons_cons e, congrArg (· + 1) length⟩

theorem displace_urgent (q : List ReportEntry) :
    displace q .urgent = (removeOldest .routine q).or (removeOldest .normal q) := Option.orElse_eq_or

theorem displace_some {p : Priority} {q r : List ReportEntry} (h : displace q p = some r) :
    r.Sublist q ∧ r.length + 1 = q.length := by
  cases p with
  | routine => cases h
  | normal => exact removeOldest_some h
  | urgent =>
    rw [displace_urgent] at h
    obtain removed | ⟨-, removed⟩ := Option.or_eq_some_iff.mp h
    · exact removeOldest_some removed
    · exact removeOldest_some removed

/-- R133: a new entry is dropped where no entry of a lower priority may be taken. -/
theorem displace_none {p : Priority} {q : List ReportEntry}
    (h : p = .routine ∨ q.any (Priority.takes .routine) = false ∧
      (p = .normal ∨ q.any (Priority.takes .normal) = false)) : displace q p = none := by
  cases p with
  | routine => rfl
  | normal => exact removeOldest_none (h.resolve_left nofun).1
  | urgent =>
    obtain ⟨routine, normal⟩ := h.resolve_left nofun
    rw [displace_urgent, removeOldest_none routine, removeOldest_none (normal.resolve_left nofun)]
    rfl

/-- R133: the entry displaced: the oldest ROUTINE one, or for an URGENT entry, where there is none, the oldest
NORMAL one. -/
theorem displace_split {p : Priority} {before after : List ReportEntry} {e : ReportEntry}
    (h : p ≠ .routine ∧ Priority.takes .routine e = true ∧ before.any (Priority.takes .routine) = false ∨
      p = .urgent ∧ (before ++ e :: after).any (Priority.takes .routine) = false ∧ Priority.takes .normal e = true ∧
        before.any (Priority.takes .normal) = false) :
    displace (before ++ e :: after) p = some (before ++ after) := by
  obtain ⟨higher, goes, first⟩ | ⟨rfl, routine, goes, first⟩ := h
  · have removed := removeOldest_split (after := after) first goes
    cases p with
    | routine => exact absurd rfl higher
    | normal => exact removed
    | urgent => rw [displace_urgent, removed, Option.some_or]
  · rw [displace_urgent, removeOldest_none routine, removeOldest_split first goes, Option.none_or]

/-! ## Selection (R137) -/

/-- R137: the oldest eligible entry of a priority. -/
def oldestOf (level : SupplyLevel) (q : List ReportEntry) (p : Priority) : Option ReportEntry :=
  q.find? fun e => e.eligible level && decide (e.priority = p)

theorem selected_eq (level : SupplyLevel) (q : List ReportEntry) :
    selected level q = (oldestOf level q .urgent).or ((oldestOf level q .normal).or (oldestOf level q .routine)) := by
  simp only [selected, Option.orElse_eq_or]
  rfl

theorem oldestOf_none {level : SupplyLevel} {q : List ReportEntry} {p : Priority}
    (h : ∀ x ∈ q, x.eligible level = true → x.priority ≠ p) : oldestOf level q p = none := by
  refine List.find?_eq_none.mpr fun x hx found => ?_
  obtain ⟨eligible, same⟩ := Bool.and_eq_true_iff.mp found
  exact h x hx eligible (of_decide_eq_true same)

theorem oldestOf_split {level : SupplyLevel} {before : List ReportEntry} {e : ReportEntry} (after : List ReportEntry)
    (eligible : e.eligible level = true) (first : ∀ x ∈ before, x.eligible level = true → x.priority ≠ e.priority) :
    oldestOf level (before ++ e :: after) e.priority = some e := by
  have none : oldestOf level before e.priority = none := oldestOf_none first
  unfold oldestOf at none ⊢
  rw [List.find?_append, none, Option.none_or, List.find?_cons_of_pos]
  simp [eligible]

/-- R137: an entry selected stands in the queue and is eligible. -/
theorem selected_mem {level : SupplyLevel} {q : List ReportEntry} {e : ReportEntry} (h : selected level q = some e) :
    e ∈ q ∧ e.eligible level = true := by
  have one : ∀ p, oldestOf level q p = some e → e ∈ q ∧ e.eligible level = true := by
    intro p found
    unfold oldestOf at found
    exact ⟨List.mem_of_find?_eq_some found, (Bool.and_eq_true_iff.mp (List.find?_some found :)).1⟩
  rw [selected_eq, Option.or_eq_some_iff, Option.or_eq_some_iff] at h
  obtain found | ⟨-, found | ⟨-, found⟩⟩ := h
  exacts [one _ found, one _ found, one _ found]

/-- R137: with nothing eligible nothing is selected. -/
theorem selected_none {level : SupplyLevel} {q : List ReportEntry} (h : ∀ e ∈ q, ¬ e.eligible level = true) :
    selected level q = none := by
  cases found : selected level q with
  | none => rfl
  | some e =>
    obtain ⟨inside, eligible⟩ := selected_mem found
    exact absurd eligible (h e inside)

/-- R137: URGENT goes before NORMAL, and NORMAL before ROUTINE. -/
def Priority.Above (p q : Priority) : Prop := (p = .urgent ∧ q ≠ .urgent) ∨ (p = .normal ∧ q = .routine)

theorem Priority.Above.asymm {p q : Priority} (h : p.Above q) : ¬ q.Above p := by
  obtain ⟨rfl, other⟩ | ⟨rfl, rfl⟩ := h
  · simp [Priority.Above, other]
  · simp [Priority.Above]

/-- R137: the oldest eligible entry of the best priority is selected. -/
theorem selected_split {level : SupplyLevel} {before after : List ReportEntry} {e : ReportEntry}
    (eligible : e.eligible level = true)
    (older : ∀ x ∈ before, x.eligible level = true → e.priority.Above x.priority)
    (newer : ∀ x ∈ after, x.eligible level = true → ¬ x.priority.Above e.priority) :
    selected level (before ++ e :: after) = some e := by
  have own : oldestOf level (before ++ e :: after) e.priority = some e := by
    refine oldestOf_split after eligible fun x hx able same => ?_
    obtain ⟨urgent, other⟩ | ⟨normal, routine⟩ := older x hx able
    · exact other (same.trans urgent)
    · exact absurd (same.symm.trans routine) (by rw [normal]; decide)
  have higher : ∀ p : Priority, p.Above e.priority → oldestOf level (before ++ e :: after) p = none := by
    intro p above
    refine oldestOf_none fun x hx able same => ?_
    subst same
    obtain hx | rfl | hx := by simpa using hx
    · exact above.asymm (older x hx able)
    · exact above.asymm above
    · exact newer x hx able above
  rw [selected_eq]
  cases priority : e.priority with
  | urgent => rw [← priority, own, Option.some_or]
  | normal =>
    rw [higher .urgent (.inl ⟨rfl, by rw [priority]; decide⟩), Option.none_or, ← priority, own, Option.some_or]
  | routine =>
    rw [higher .urgent (.inl ⟨rfl, by rw [priority]; decide⟩), higher .normal (.inr ⟨rfl, priority⟩), Option.none_or,
      Option.none_or, ← priority, own]

/-- R137: eligibility in the words of the statements. -/
theorem ReportEntry.eligible_iff (level : SupplyLevel) (e : ReportEntry) :
    e.eligible level = true ↔
      e.inFlight = false ∧ (level = .normal ∨ level = .low ∨ e.priority = .urgent) := by
  simp [ReportEntry.eligible, or_assoc]

/-! ## The selection pass (R138, R139) -/

section
variable {s : State} {e : ReportEntry}

theorem selectionPass_idle (h : selected s.batt.level s.rep.queue = none) :
    selectionPass s = { s with rep := { s.rep with tx := .idle } } := by
  unfold selectionPass
  rw [h]

theorem selectionPass_sends (h : selected s.batt.level s.rep.queue = some e) (covered : e.cost ≤ s.rep.budget) :
    selectionPass s = sendEntry e s := by
  unfold selectionPass
  rw [h]
  exact if_pos covered

theorem selectionPass_waits (h : selected s.batt.level s.rep.queue = some e) (short : s.rep.budget < e.cost) :
    selectionPass s = { s with rep := { s.rep with tx := .waitBudget } } := by
  unfold selectionPass
  rw [h]
  exact if_neg (Nat.not_le.mpr short)

/-- R138, R139: a selection pass ends in IDLE or WAIT_BUDGET, or sends an entry that the queue holds and the budget
covers. -/
theorem selectionPass_cases (s : State) :
    (∃ tx, (tx = .idle ∨ tx = .waitBudget) ∧ selectionPass s = { s with rep := { s.rep with tx := tx } }) ∨
    ∃ e ∈ s.rep.queue, e.eligible s.batt.level = true ∧ e.cost ≤ s.rep.budget ∧ selectionPass s = sendEntry e s := by
  cases found : selected s.batt.level s.rep.queue with
  | none => exact .inl ⟨.idle, .inl rfl, selectionPass_idle found⟩
  | some e =>
    by_cases covered : e.cost ≤ s.rep.budget
    · obtain ⟨inside, eligible⟩ := selected_mem found
      exact .inr ⟨e, inside, eligible, covered, selectionPass_sends found covered⟩
    · exact .inl ⟨.waitBudget, .inr rfl, selectionPass_waits found (Nat.not_le.mp covered)⟩

end

/-- R138: a selection pass works on the Report Unit and the ports. -/
theorem selectionPass_blocks (s : State) : selectionPass s = s.onlyReport (selectionPass s) := by
  obtain ⟨tx, -, pass⟩ | ⟨e, -, -, -, pass⟩ := selectionPass_cases s
  · rw [pass]
    rfl
  · rw [pass]
    rfl

/-- R139: sending changes no entry's number. -/
theorem sendEntry_numbers (e : ReportEntry) (s : State) :
    (sendEntry e s).rep.queue.map ReportEntry.number = s.rep.queue.map ReportEntry.number := by
  simp only [sendEntry, ReportUnit.update, List.map_map]
  refine List.map_congr_left fun x _ => ?_
  simp only [Function.comp]
  split <;> rfl

end Sys2Proof.Machine
end

section
/-! PROOFS. An event raised (R128, R130 to R136), the refill (R146) and the selection pass (R137 to R139, R145). -/

namespace Sys2Proof.Machine

/-! ## An event raised (R128) -/

/-- R136: an entry's NOTICE reaches the crew port alone. -/
theorem sendNotice_eq (e : ReportEntry) (s : State) :
    sendNotice e s = { s with
      port := if s.rep.crewPresent = .active then
        (s.port.handCrew { frame := noticeFrame s.rep e, tag := .notice }).1 else s.port } := by
  unfold sendNotice
  split <;> rfl

/-- R136, R138: an entry that has been placed, the Report Unit then being `r`: copied to an attached crew, and followed by
a selection pass in IDLE and WAIT_BUDGET. -/
def State.reporting (s : State) (r : ReportUnit) (e : ReportEntry) : State :=
  selectionIfOpen { s with
    rep := r
    port := if s.rep.crewPresent = .active then
      (s.port.handCrew { frame := noticeFrame r e, tag := .notice }).1 else s.port }

theorem State.onlyReport_reporting (s : State) (r : ReportUnit) (e : ReportEntry) :
    s.onlyReport (s.reporting r e) = s.reporting r e := by
  unfold State.reporting
  rw [selectionIfOpen_blocks]
  rfl

section
variable (k : EventKind) (p : Priority) (body : List Byte) (s : State)

/-- R130, R131: the entry of an event that is raised now. -/
def State.entryFor : ReportEntry := newEntry s k p body (freeNumber 65 s.rep.queue s.rep.nextNumber)

theorem placeEntry_eq {r : ReportUnit} (crew : r.crewPresent = s.rep.crewPresent) :
    placeEntry k p body r s = s.reporting (r.append (s.entryFor k p body)) (s.entryFor k p body) := by
  have noticed := sendNotice_eq (s.entryFor k p body) { s with rep := r.append (s.entryFor k p body) }
  unfold State.reporting
  rw [← crew]
  exact congrArg selectionIfOpen noticed

variable {s}

/-- R128, R132: with room the entry is placed. -/
theorem raise_room (priority : s.store.active.priority k = some p) (room : s.rep.queue.length < 64) :
    raise k body s = s.reporting (s.rep.append (s.entryFor k p body)) (s.entryFor k p body) := by
  simp only [raise, priority, if_pos room]
  exact (congrArg s.onlyReport (placeEntry_eq k p body s rfl)).trans (s.onlyReport_reporting _ _)

/-- R133, R134: in a full queue the entry is placed where another gives way. -/
theorem raise_displaces {q : List ReportEntry} (priority : s.store.active.priority k = some p)
    (full : 64 ≤ s.rep.queue.length) (gives : displace s.rep.queue p = some q) :
    raise k body s =
      s.reporting ({ s.rep with queue := q }.markLoss.append (s.entryFor k p body)) (s.entryFor k p body) := by
  simp only [raise, priority, if_neg (Nat.not_lt.mpr full), gives]
  exact (congrArg s.onlyReport (placeEntry_eq k p body s (r := { s.rep with queue := q }.markLoss) rfl)).trans
    (s.onlyReport_reporting _ _)

/-- R133, R134: in a full queue where none gives way the event is dropped. -/
theorem raise_drops (priority : s.store.active.priority k = some p) (full : 64 ≤ s.rep.queue.length)
    (stays : displace s.rep.queue p = none) : raise k body s = { s with rep := s.rep.markLoss } := by
  simp only [raise, priority, if_neg (Nat.not_lt.mpr full), stays]
  rfl

end

/-- R132, R135: an entry appended to a queue that it does not bring to 32. -/
theorem append_backlog_kept {r : ReportUnit} (e : ReportEntry) (length : r.queue.length ≠ 31) :
    r.append e = { r with queue := r.queue ++ [e], nextNumber := if e.number = 65535 then 1 else e.number + 1 } := by
  simp [ReportUnit.append, length, numberAfter]

/-- Settles O42: the branches of R128, with the number the search of R131 ends at. -/
theorem eventsAreQueued : Obligations.EventsAreQueued := by
  intro k body s made unmarked yields numbers taken placed
  have number : s.rep.queue.length ≤ 64 → taken (freeNumber 65 s.rep.queue s.rep.nextNumber) := fun short =>
    ⟨freeNumber_free _ short, freeNumber_next 64⟩
  refine ⟨raise_suppressed, fun p priority room => ⟨_, number room.le, ?_⟩,
    fun p priority full => ⟨fun stays => ?_, ?_⟩⟩
  · rw [raise_room k p body priority room]
    simp only [ReportUnit.append, Nat.reduceEqDiff]
    rfl
  · exact raise_drops k p body priority full.ge (displace_none stays)
  · intro before e after queue gives
    refine ⟨_, number full.le, ?_⟩
    have displaced : displace s.rep.queue p = some (before ++ after) := by
      rw [queue] at gives ⊢
      exact displace_split gives
    have length : (unmarked (before ++ after)).length ≠ 31 := by
      rw [queue] at full
      simp [unmarked] at full ⊢
      omega
    rw [raise_displaces k p body priority full.ge displaced, append_backlog_kept _ length]
    rfl

/-! ## The refill and the selection pass (R146, R137 to R139) -/

theorem refill_eq (s : State) :
    refill s = selectionIfOpen { s with rep := { s.rep with
      budget := min (s.rep.budget + refillShare s.store.active s.batt.level s.batt.ac) s.store.active.budgetCeiling
      refillTimer := some (s.now + 60000) } } := by
  unfold refill
  rw [selectionIfOpen_blocks]
  rfl

/-- R139: the entries named by an entry's number, where that is its own alone. -/
theorem update_split {r : ReportUnit} {before after : List ReportEntry} {e : ReportEntry}
    (f : ReportEntry → ReportEntry) (queue : r.queue = before ++ e :: after)
    (distinct : (r.queue.map ReportEntry.number).Nodup) :
    (r.update e.number f).queue = before ++ f e :: after := by
  have others : ∀ x, x ∈ before ∨ x ∈ after → x.number ≠ e.number := by
    rw [queue, List.map_append, List.map_cons, List.nodup_middle, List.nodup_cons] at distinct
    intro x hx same
    rw [← List.map_append] at distinct
    exact distinct.1 (List.mem_map.mpr ⟨x, List.mem_append.mpr hx, same⟩)
  have kept : ∀ l : List ReportEntry, (∀ x ∈ l, x.number ≠ e.number) →
      (l.map fun x => if x.number = e.number then f x else x) = l := fun l apart =>
    (List.map_congr_left (g := id) fun x hx => if_neg (apart x hx)).trans l.map_id
  simp only [ReportUnit.update, queue, List.map_append, List.map_cons, if_true]
  rw [kept before fun x hx => others x (.inl hx), kept after fun x hx => others x (.inr hx)]

/-- Settles O43: the refill ends in a selection pass where the transmitter is open to one; the pass goes by the entry
selected and by the budget. -/
theorem refillAndSelection : Obligations.RefillAndSelection := by
  intro s eligible better share filled
  have able : ∀ e : ReportEntry, e.eligible s.batt.level = true ↔ eligible e := fun e => e.eligible_iff _
  refine ⟨fun due => ?_, fun none => ?_, fun before e after queue fit older newer => ?_⟩
  · have same : refillShare s.store.active s.batt.level s.batt.ac = share := by
      unfold refillShare
      cases level : s.batt.level <;> simp [share, level]
    refine (expires_run due).trans (congrArg _ ?_)
    rw [refill_eq, same]
    rfl
  · exact selectionPass_idle (selected_none fun e inside fit => none e inside ((able e).mp fit))
  · have found : selected s.batt.level s.rep.queue = some e := by
      rw [queue]
      exact selected_split ((able e).mpr fit) (fun x hx fit => older x hx ((able x).mp fit))
        fun x hx fit => newer x hx ((able x).mp fit)
    refine ⟨selectionPass_waits found, fun distinct covered => ?_⟩
    rw [selectionPass_sends found covered]
    exact ⟨e.sent s.rep.overrun, update_split _ queue distinct, rfl, rfl, rfl, rfl, rfl⟩

end Sys2Proof.Machine
end

section
/-! PROOFS. The report timers' ends (R141, R142, R147) and REPORT_ACK (R143, R134, R135, R148). -/

namespace Sys2Proof.Machine

/-! ## The report timers (R141, R142, R147) -/

theorem enterIdle_blocks (s : State) : s.onlyReport (enterIdle s) = enterIdle s := by
  unfold enterIdle
  rw [selectionPass_blocks]
  rfl

theorem resend_blocks (e : ReportEntry) (s : State) : s.onlyReport (resend e s) = resend e s := by
  unfold resend
  split
  · rfl
  · exact enterIdle_blocks s

/-- R141: a resend of an entry that is QUEUED. -/
theorem resend_eq {e : ReportEntry} (queued : e.inFlight = false) (s : State) :
    resend e s =
      if (s.batt.level = .normal ∨ s.batt.level = .low ∨ e.priority = .urgent) ∧ e.cost ≤ s.rep.budget then
        sendEntry e s
      else selectionPass { s with rep := { s.rep with tx := .idle } } := by
  unfold resend enterIdle
  simp only [ReportEntry.eligible_iff, queued, true_and]

/-- R141: the state in which an unanswered entry has returned to QUEUED. -/
def State.requeued (s : State) : State := { s with rep := { s.rep.requeue with ackTimer := none } }

section
variable {s : State} {e : ReportEntry}

theorem ackExpires_eq (waits : s.rep.tx = .awaitAck) (sent : s.rep.queue.find? (·.inFlight) = some e) :
    ackExpires s = s.onlyReport (unanswered { e with inFlight := false } s.requeued) := by
  unfold ackExpires ReportUnit.inFlight
  rw [if_pos waits, sent]
  rfl

theorem unanswered_resends (left : 0 < e.allowance) : unanswered e s = resend e s := if_pos left

theorem unanswered_changesOver (spent : e.allowance = 0) (primary : e.resume = .primary) :
    unanswered e s = resend { e with resume := .alternate, allowance := freshAllowance s.store.active }
      { s with rep := s.rep.update e.number fun _ =>
        { e with resume := .alternate, allowance := freshAllowance s.store.active } } := by
  unfold unanswered
  rw [if_neg (by omega), primary]

theorem unanswered_holdsOff (spent : e.allowance = 0) (alternate : e.resume = .alternate) :
    unanswered e s = enterHoldoff s := by
  unfold unanswered
  rw [if_neg (by omega), alternate]

end

/-- Settles O44: the unanswered entry by its allowance and resume channel; the other two timers' ends. -/
theorem reportTimersEnd : Obligations.ReportTimersEnd := by
  intro s b fresh queued resent periodic
  refine ⟨?_, fun due => ?_, fun due => ?_⟩
  · intro e due waits sent back moved
    have run : exec .ackTimerExpiry s = .next (s.onlyReport (unanswered back s.requeued)) :=
      (expires_run due).trans (congrArg _ (ackExpires_eq waits sent))
    have resends : ∀ (x : ReportEntry) (u : State), x.inFlight = false → s.onlyReport u = u →
        u.batt = s.batt → u.rep.budget = s.rep.budget → s.onlyReport (resend x u) = resent x u := by
      intro x u idle only batt budget
      have same : s.onlyReport (resend x u) = resend x u := by
        rw [← resend_blocks, ← only]
        rfl
      rw [same, resend_eq idle]
      simp only [resent, ← batt, ← budget]
    refine ⟨fun left => ?_, fun spent primary => ?_, fun spent alternate => ?_⟩
    · rw [run, unanswered_resends (e := back) left]
      exact congrArg _ (resends back s.requeued rfl rfl rfl rfl)
    · rw [run, unanswered_changesOver (e := back) spent primary]
      exact congrArg _ (resends moved _ rfl rfl rfl rfl)
    · rw [run, unanswered_holdsOff (e := back) spent alternate]
      rfl
  · refine (expires_run due).trans (congrArg _ ?_)
    exact enterIdle_blocks { s with rep := { s.rep with holdoffTimer := none } }
  · refine (expires_run due).trans (congrArg _ ?_)
    unfold periodicExpires
    dsimp only
    split <;> rfl

/-! ## REPORT_ACK (R143) -/

section
variable {r : ReportUnit} {e : ReportEntry}

/-- R143: an acknowledgement of a number that no entry was sent under matches none. -/
theorem acknowledged_none {n : Half} (unsent : ∀ x ∈ r.queue, x.number = n → x.attempts = 0) :
    acknowledged r n = none := by
  refine List.find?_eq_none.mpr fun x inside matched => ?_
  obtain ⟨same, sent⟩ := by simpa using matched
  have := unsent x inside same
  omega

/-- R143: an entry that an acknowledgement matches stands in the queue under its number. -/
theorem acknowledged_mem {n : Half} (found : acknowledged r n = some e) : e ∈ r.queue ∧ e.number = n := by
  unfold acknowledged at found
  have fits := (List.find?_some found :)
  simp only [Bool.and_eq_true, decide_eq_true_eq] at fits
  exact ⟨List.mem_of_find?_eq_some found, fits.1⟩

/-- R143: of distinct numbers an acknowledgement matches the one entry that bears its own. -/
theorem acknowledged_some (inside : e ∈ r.queue) (distinct : (r.queue.map ReportEntry.number).Nodup)
    (sent : 1 ≤ e.attempts) : acknowledged r e.number = some e := by
  have isSome : (acknowledged r e.number).isSome = true :=
    List.find?_isSome.mpr ⟨e, inside, by simpa using sent⟩
  obtain ⟨x, found⟩ := Option.isSome_iff_exists.mp isSome
  obtain ⟨also, same⟩ := acknowledged_mem found
  rw [found, List.inj_on_of_nodup_map distinct also inside same]

theorem remove_numbers : (r.remove e).queue.map ReportEntry.number =
    (r.queue.map ReportEntry.number).filter (· ≠ e.number) := by
  rw [List.filter_map]
  rfl

/-- R143: of distinct numbers one entry leaves the queue. -/
theorem remove_length (inside : e ∈ r.queue) (distinct : (r.queue.map ReportEntry.number).Nodup) :
    (r.remove e).queue.length + 1 = r.queue.length := by
  have one := List.length_erase_add_one (List.mem_map_of_mem (f := ReportEntry.number) inside)
  rw [distinct.erase_eq_filter, List.length_map] at one
  rw [← one, ← List.length_map (f := ReportEntry.number), remove_numbers]
  simp [bne, Bool.beq_eq_decide_eq]

end

/-! What an acknowledged entry's removal leaves, before the transmitter goes on. -/

/-- R143, R148: the acknowledged entry removed, its handed frame withdrawn, and the Battery Unit told. -/
def State.removing (s : State) (e : ReportEntry) : State :=
  if e.kind = .shutdown then assertShutdown (withdrawOf e { s with rep := s.rep.remove e })
  else withdrawOf e { s with rep := s.rep.remove e }

theorem reportAcked_none {n : Half} {s : State} (unmatched : acknowledged s.rep n = none) : reportAcked n s = s := by
  unfold reportAcked
  rw [unmatched]

theorem reportAcked_some {n : Half} {s : State} {e : ReportEntry} (found : acknowledged s.rep n = some e) :
    reportAcked n s = s.onlyBattery (afterRemoval e (s.removing e)) := by
  unfold reportAcked
  rw [found]
  rfl

/-- R140, R143: a withdrawal reaches the handed frame alone. -/
theorem withdrawOf_eq (e : ReportEntry) (s : State) :
    withdrawOf e s = { s with
      rep := { s.rep with handed := (withdrawOf e s).rep.handed }, port := (withdrawOf e s).port } := by
  unfold withdrawOf withdrawHanded
  split
  · split <;> rfl
  · rfl

section
variable (s : State) (e : ReportEntry)

theorem removing_rep : (s.removing e).rep = { s.rep.remove e with handed := (s.removing e).rep.handed } := by
  have withdrawn := congrArg State.rep (withdrawOf_eq e { s with rep := s.rep.remove e })
  unfold State.removing assertShutdown
  split
  · split <;> exact withdrawn
  · exact withdrawn

/-- R148: shutdown is asserted where it waits for this entry. -/
theorem removing_batt : (s.removing e).batt = if e.kind = .shutdown ∧ s.batt.shutdown = .waiting then
    { s.batt with shutdown := .asserted, shutdownTimer := none } else s.batt := by
  have withdrawn : (withdrawOf e { s with rep := s.rep.remove e }).batt = s.batt := by rw [withdrawOf_eq]
  unfold State.removing assertShutdown
  rw [withdrawn]
  by_cases shutdown : e.kind = .shutdown <;> by_cases waits : s.batt.shutdown = .waiting <;>
    simp [shutdown, waits, withdrawn]

theorem removing_cmd : (s.removing e).cmd = s.cmd := by
  have withdrawn : (withdrawOf e { s with rep := s.rep.remove e }).cmd = s.cmd := by rw [withdrawOf_eq]
  unfold State.removing assertShutdown
  split
  · split <;> exact withdrawn
  · exact withdrawn

end

/-! The transmitter then goes on. -/

/-- What selections leave of the report queue: the numbers and the queue's marks. -/
structure ReportUnit.Carries (r t : ReportUnit) : Prop where
  numbers : t.queue.map ReportEntry.number = r.queue.map ReportEntry.number
  overrun : t.overrun = r.overrun
  backlog : t.backlog = r.backlog
  next : t.nextNumber = r.nextNumber

/-- R138, R139: a selection pass keeps the numbers and the marks, starts no timer, and ends outside HOLDOFF. -/
theorem selectionPass_carries (s : State) :
    s.rep.Carries (selectionPass s).rep ∧ (selectionPass s).rep.holdoffTimer = s.rep.holdoffTimer ∧
    (s.rep.ackTimer = none → (selectionPass s).rep.ackTimer = none) ∧ (selectionPass s).rep.tx ≠ .holdoff := by
  obtain ⟨tx, kind, pass⟩ | ⟨e, -, -, -, pass⟩ := selectionPass_cases s
  · rw [pass]
    refine ⟨⟨rfl, rfl, rfl, rfl⟩, rfl, id, ?_⟩
    obtain rfl | rfl := kind <;> exact nofun
  · rw [pass]
    exact ⟨⟨sendEntry_numbers e s, rfl, rfl, rfl⟩, rfl, fun _ => rfl, nofun⟩

theorem afterRemoval_blocks (e : ReportEntry) (s : State) : s.onlyReport (afterRemoval e s) = afterRemoval e s := by
  unfold afterRemoval
  split
  · split
    · exact enterIdle_blocks { s with rep := { s.rep with ackTimer := none } }
    · rfl
  · exact enterIdle_blocks { s with rep := { s.rep with holdoffTimer := none } }
  · exact (selectionPass_blocks s).symm
  · rfl
  · rfl

section
variable {s : State} {e : ReportEntry}

/-- R143: the end of an ack wait for the removed entry. -/
theorem afterRemoval_awaited (waits : s.rep.tx = .awaitAck) (sent : e.inFlight = true) :
    afterRemoval e s = enterIdle { s with rep := { s.rep with ackTimer := none } } := by
  unfold afterRemoval
  rw [waits]
  exact if_pos sent

/-- R143: an ack wait for another entry goes on. -/
theorem afterRemoval_other (waits : s.rep.tx = .awaitAck) (unsent : e.inFlight = false) : afterRemoval e s = s := by
  unfold afterRemoval
  rw [waits]
  exact if_neg (by simp [unsent])

/-- R143: the end of a holdoff. -/
theorem afterRemoval_holdoff (holds : s.rep.tx = .holdoff) :
    afterRemoval e s = enterIdle { s with rep := { s.rep with holdoffTimer := none } } := by
  unfold afterRemoval
  rw [holds]

end

theorem afterRemoval_carries (e : ReportEntry) (s : State) : s.rep.Carries (afterRemoval e s).rep := by
  have stays : s.rep.Carries s.rep := ⟨rfl, rfl, rfl, rfl⟩
  have pass : ∀ u : State, u.rep.Carries (enterIdle u).rep := fun u => by
    obtain ⟨⟨numbers, overrun, backlog, next⟩, -⟩ := selectionPass_carries { u with rep := { u.rep with tx := .idle } }
    exact ⟨numbers, overrun, backlog, next⟩
  unfold afterRemoval
  split
  · split
    · obtain ⟨numbers, overrun, backlog, next⟩ := pass { s with rep := { s.rep with ackTimer := none } }
      exact ⟨numbers, overrun, backlog, next⟩
    · exact stays
  · obtain ⟨numbers, overrun, backlog, next⟩ := pass { s with rep := { s.rep with holdoffTimer := none } }
    exact ⟨numbers, overrun, backlog, next⟩
  · exact (selectionPass_carries s).1
  · exact stays
  · exact stays

/-- Settles O45: the entry matched leaves the queue, and the transmitter goes on from what is left. -/
theorem ackRemovesEntry : Obligations.AckRemovesEntry := by
  intro n s powered
  have run : exec (.reportAck n) s = .next (reportAcked n (s.countAccepted .radio)) := by
    refine (run_powered powered).trans (congrArg _ ?_)
    exact arrive_taken ⟨powered, nofun⟩ (Nat.zero_le _)
  refine ⟨fun unsent => run.trans (congrArg _ (reportAcked_none (acknowledged_none unsent))), ?_⟩
  · rintro e inside distinct rfl sent
    let u := s.countAccepted .radio
    have acked := reportAcked_some (s := u) (acknowledged_some inside distinct sent)
    have rep := removing_rep u e
    obtain ⟨numbers, overrun, backlog, next⟩ := afterRemoval_carries e (u.removing e)
    rw [rep] at numbers overrun backlog next
    have tx : (u.removing e).rep.tx = s.rep.tx := by rw [rep]; rfl
    have blocks := afterRemoval_blocks e (u.removing e)
    have length := remove_length inside distinct
    refine ⟨_, run, ?_⟩
    rw [acked]
    refine ⟨numbers.trans remove_numbers, overrun, backlog.trans ?_, fun waits flying => ?_, fun waits queued => ?_,
      fun holds => ?_, ?_, next, rfl, rfl, rfl, rfl, rfl, rfl, ?_, rfl⟩
    · refine congrArg (s.rep.backlog && ·) (decide_eq_decide.mpr ?_)
      show (s.rep.remove e).queue.length ≠ 16 ↔ _
      omega
    · show (afterRemoval e (u.removing e)).rep.ackTimer = none
      rw [afterRemoval_awaited (tx.trans waits) flying]
      exact (selectionPass_carries _).2.2.1 rfl
    · show (afterRemoval e (u.removing e)).rep.tx = _ ∧ (afterRemoval e (u.removing e)).rep.ackTimer = _
      rw [afterRemoval_other (tx.trans waits) queued, rep]
      exact ⟨waits, rfl⟩
    · show (afterRemoval e (u.removing e)).rep.tx ≠ _ ∧ (afterRemoval e (u.removing e)).rep.holdoffTimer = none
      rw [afterRemoval_holdoff (tx.trans holds)]
      obtain ⟨-, timer, -, left⟩ := selectionPass_carries { u.removing e with
        rep := { (u.removing e).rep with holdoffTimer := none, tx := .idle } }
      exact ⟨left, timer⟩
    · exact (congrArg State.batt blocks.symm).trans (removing_batt u e)
    · exact (congrArg State.cmd blocks.symm).trans (removing_cmd u e)

end Sys2Proof.Machine
end

section
/-! PROOFS. What keeps the report queue in order (R132, R138): its length, its numbers, the one entry IN_FLIGHT and the
holdoff. -/

namespace Sys2Proof.Machine

/-! ## The order of the queue by its entries' marks -/

/-- What R132 and R138 judge of an entry: its number, and whether it is IN_FLIGHT. -/
def ReportEntry.mark (e : ReportEntry) : Half × Bool := (e.number, e.inFlight)

theorem map_mark_fst (q : List ReportEntry) : (q.map ReportEntry.mark).map Prod.fst = q.map ReportEntry.number :=
  List.map_map

theorem filter_inFlight_length (q : List ReportEntry) :
    (q.filter (·.inFlight)).length = ((q.map ReportEntry.mark).filter Prod.snd).length := by
  rw [List.filter_map, List.length_map]
  rfl

/-- A queue whose marks are some of those of a queue in order, in their order, is in order. -/
theorem ReportUnit.ok.of_marks {r t : ReportUnit} (h : r.ok)
    (marks : (t.queue.map ReportEntry.mark).Sublist (r.queue.map ReportEntry.mark)) (tx : t.tx = r.tx)
    (holdoff : t.holdoffTimer = r.holdoffTimer) : t.ok := by
  obtain ⟨short, distinct, single, awaited, held⟩ := h
  have length := marks.length_le
  rw [List.length_map, List.length_map] at length
  refine ⟨length.trans short, ?_, ?_, fun e inside sent => ?_, fun running => ?_⟩
  · rw [← map_mark_fst] at distinct ⊢
    exact (marks.map Prod.fst).nodup distinct
  · rw [filter_inFlight_length] at single ⊢
    exact (marks.filter Prod.snd).length_le.trans single
  · obtain ⟨x, also, same⟩ := List.mem_map.mp (marks.subset (List.mem_map_of_mem inside))
    rw [tx]
    exact awaited x also ((congrArg Prod.snd same).trans sent)
  · rw [tx]
    exact held (holdoff ▸ running)

/-- R138: nothing is IN_FLIGHT and no holdoff runs. -/
structure ReportUnit.Clear (r : ReportUnit) : Prop where
  short : r.queue.length ≤ 64
  distinct : (r.queue.map ReportEntry.number).Nodup
  queued : ∀ e ∈ r.queue, e.inFlight = false
  holdoff : r.holdoffTimer = none

theorem ReportUnit.Clear.ok {r : ReportUnit} (h : r.Clear) : r.ok := by
  have none : r.queue.filter (·.inFlight) = [] :=
    List.filter_eq_nil_iff.mpr fun e inside => by simp [h.queued e inside]
  refine ⟨h.short, h.distinct, by rw [none]; exact Nat.zero_le 1, fun e inside sent => ?_, fun running => ?_⟩
  · rw [h.queued e inside] at sent
    cases sent
  · rw [h.holdoff] at running
    cases running

/-- R138: outside AWAIT_ACK and HOLDOFF nothing is IN_FLIGHT and no holdoff runs. -/
theorem ReportUnit.ok.clear {r : ReportUnit} (h : r.ok) (awaits : r.tx ≠ .awaitAck) (holds : r.tx ≠ .holdoff) :
    r.Clear := by
  obtain ⟨short, distinct, -, awaited, held⟩ := h
  exact ⟨short, distinct, fun e inside => Bool.eq_false_iff.mpr fun sent => awaits (awaited e inside sent),
    Option.not_isSome_iff_eq_none.mp fun running => holds (held running)⟩

/-! ## Sending and selecting (R138, R139) -/

/-- R139: the entry sent is the only one IN_FLIGHT. -/
theorem sendEntry_ok {s : State} (h : s.rep.Clear) (e : ReportEntry) : (sendEntry e s).rep.ok := by
  have numbers := sendEntry_numbers e s
  have sent : ∀ x ∈ (sendEntry e s).rep.queue, x.inFlight = true → x.number = e.number := by
    intro x inside flying
    obtain ⟨y, also, rfl⟩ := List.mem_map.mp inside
    split at flying
    case isTrue same =>
      rw [if_pos same]
      exact same
    case isFalse =>
      rw [h.queued y also] at flying
      cases flying
  have distinct : ((sendEntry e s).rep.queue.map ReportEntry.number).Nodup := numbers ▸ h.distinct
  refine ⟨?_, distinct, ?_, fun _ _ _ => rfl, fun running => ?_⟩
  · exact (List.length_map _).trans_le h.short
  · have flying := List.Sublist.nodup (List.filter_sublist.map ReportEntry.number) distinct
      (l₁ := ((sendEntry e s).rep.queue.filter (·.inFlight)).map ReportEntry.number)
    have same : ∀ n ∈ ((sendEntry e s).rep.queue.filter (·.inFlight)).map ReportEntry.number, n = e.number := by
      intro n inside
      obtain ⟨x, chosen, rfl⟩ := List.mem_map.mp inside
      obtain ⟨also, up⟩ := List.mem_filter.mp chosen
      exact sent x also up
    rw [List.eq_replicate_of_mem same, List.nodup_replicate, List.length_map] at flying
    exact flying
  · have none : (sendEntry e s).rep.holdoffTimer = none := h.holdoff
    rw [none] at running
    cases running

theorem selectionPass_ok {s : State} (h : s.rep.Clear) : (selectionPass s).rep.ok := by
  obtain ⟨tx, -, pass⟩ | ⟨e, -, -, -, pass⟩ := selectionPass_cases s
  · rw [pass]
    exact ReportUnit.Clear.ok ⟨h.short, h.distinct, h.queued, h.holdoff⟩
  · rw [pass]
    exact sendEntry_ok h e

theorem selectionIfOpen_ok {s : State} (h : s.rep.ok) : (selectionIfOpen s).rep.ok := by
  unfold selectionIfOpen
  split
  case isTrue opened =>
    refine selectionPass_ok (h.clear (fun awaits => ?_) fun holds => ?_)
    · rw [awaits] at opened
      simp at opened
    · rw [holds] at opened
      simp at opened
  case isFalse => exact h

theorem enterIdle_ok {s : State} (h : s.rep.Clear) : (enterIdle s).rep.ok :=
  selectionPass_ok ⟨h.short, h.distinct, h.queued, h.holdoff⟩

/-! ## An event placed (R130 to R134) -/

/-- R134: a loss marked changes no number and nothing IN_FLIGHT. -/
theorem markLoss_marks (r : ReportUnit) : r.markLoss.queue.map ReportEntry.mark = r.queue.map ReportEntry.mark :=
  List.map_map

/-- R131, R132: a QUEUED entry with a free number appended to a queue with room. -/
theorem append_ok {r : ReportUnit} (h : r.ok) {e : ReportEntry} (room : r.queue.length < 64)
    (free : e.number ∉ r.queue.map ReportEntry.number) (queued : e.inFlight = false) : (r.append e).ok := by
  obtain ⟨-, distinct, single, awaited, held⟩ := h
  refine ⟨?_, ?_, ?_, fun x inside sent => ?_, held⟩
  · simpa [ReportUnit.append] using room
  · simp only [ReportUnit.append, List.map_append, List.map_cons, List.map_nil]
    exact distinct.append (List.nodup_singleton _) (List.disjoint_singleton.mpr free)
  · simpa [ReportUnit.append, queued] using single
  · obtain also | same := List.mem_append.mp inside
    · exact awaited x also sent
    · rw [List.mem_singleton.mp same, queued] at sent
      cases sent

/-! ## The timers and the acknowledgement (R141 to R144) -/

/-- R141: with every entry returned to QUEUED nothing is IN_FLIGHT. -/
theorem requeue_clear {r : ReportUnit} (h : r.ok) (holds : r.tx ≠ .holdoff) : r.requeue.Clear := by
  obtain ⟨short, distinct, -, -, held⟩ := h
  have numbers : r.requeue.queue.map ReportEntry.number = r.queue.map ReportEntry.number := List.map_map
  refine ⟨(List.length_map _).trans_le short, numbers ▸ distinct, fun e inside => ?_,
    Option.not_isSome_iff_eq_none.mp fun running => holds (held running)⟩
  obtain ⟨x, -, rfl⟩ := List.mem_map.mp inside
  rfl

/-- R142, R144: the resume channels changed back. -/
theorem resumeAll_marks (r : ReportUnit) (b : Bank) :
    (r.resumeAll b).queue.map ReportEntry.mark = r.queue.map ReportEntry.mark := List.map_map

/-- R141: the unanswered entry replaced by one that goes by the other channel. -/
theorem update_clear {r : ReportUnit} (h : r.Clear) {e : ReportEntry} (queued : e.inFlight = false) :
    (r.update e.number fun _ => e).Clear := by
  have numbers : (r.update e.number fun _ => e).queue.map ReportEntry.number = r.queue.map ReportEntry.number := by
    simp only [ReportUnit.update, List.map_map]
    refine List.map_congr_left fun x _ => ?_
    simp only [Function.comp]
    split
    case isTrue same => exact same.symm
    case isFalse => rfl
  refine ⟨(List.length_map _).trans_le h.short, numbers ▸ h.distinct, fun x inside => ?_, h.holdoff⟩
  obtain ⟨y, also, rfl⟩ := List.mem_map.mp inside
  split
  · exact queued
  · exact h.queued y also

theorem resend_ok {s : State} (h : s.rep.Clear) (e : ReportEntry) : (resend e s).rep.ok := by
  unfold resend
  split
  · exact sendEntry_ok h e
  · exact enterIdle_ok h

/-- R142: in HOLDOFF nothing is IN_FLIGHT. -/
theorem enterHoldoff_ok {s : State} (h : s.rep.Clear) : (enterHoldoff s).rep.ok := by
  obtain ⟨short, distinct, single, awaited, -⟩ :=
    h.ok.of_marks (t := s.rep.resumeAll s.store.active) (by rw [resumeAll_marks]) rfl rfl
  refine ⟨short, distinct, single, fun e inside sent => ?_, fun _ => rfl⟩
  obtain ⟨x, also, rfl⟩ := List.mem_map.mp inside
  have both := (h.queued x also).symm.trans sent
  cases both

theorem unanswered_ok {s : State} (h : s.rep.Clear) {e : ReportEntry} (queued : e.inFlight = false) :
    (unanswered e s).rep.ok := by
  unfold unanswered
  split
  · exact resend_ok h e
  · split
    · exact resend_ok (s := { s with rep := s.rep.update e.number _ })
        (update_clear h (e := { e with resume := .alternate, allowance := freshAllowance s.store.active }) queued) _
    · exact enterHoldoff_ok h

theorem ackExpires_ok {s : State} (h : s.rep.ok) : (ackExpires s).rep.ok := by
  unfold ackExpires
  rw [State.onlyReport_rep]
  split
  case isTrue awaits =>
    split
    · have clear := requeue_clear h (by rw [awaits]; decide)
      exact unanswered_ok (s := s.requeued) ⟨clear.short, clear.distinct, clear.queued, clear.holdoff⟩ rfl
    · exact h
  case isFalse => exact h

/-- R142: the holdoff timer runs in HOLDOFF alone. -/
theorem holdoffExpires_ok {s : State} (h : s.rep.ok) (running : s.rep.holdoffTimer.isSome = true) :
    (holdoffExpires s).rep.ok := by
  obtain ⟨short, distinct, -, awaited, held⟩ := h
  refine enterIdle_ok (s := { s with rep := { s.rep with holdoffTimer := none } })
    ⟨short, distinct, fun e inside => Bool.eq_false_iff.mpr fun sent => ?_, rfl⟩
  have both := (held running).symm.trans (awaited e inside sent)
  cases both

theorem eq_of_mem_of_length_le_one {α : Type} {l : List α} {x y : α} (short : l.length ≤ 1) (hx : x ∈ l) (hy : y ∈ l) :
    x = y := by
  match l, short with
  | [], _ => cases hx
  | [a], _ => exact (List.mem_singleton.mp hx).trans (List.mem_singleton.mp hy).symm

/-- R143: with the entry IN_FLIGHT removed nothing is IN_FLIGHT. -/
theorem remove_queued {r : ReportUnit} (h : r.ok) {e : ReportEntry} (inside : e ∈ r.queue) (sent : e.inFlight = true) :
    ∀ x ∈ (r.remove e).queue, x.inFlight = false := by
  obtain ⟨-, -, single, -, -⟩ := h
  intro x left
  obtain ⟨also, other⟩ := List.mem_filter.mp left
  refine Bool.eq_false_iff.mpr fun flying => ?_
  have same : x = e := eq_of_mem_of_length_le_one single
    (List.mem_filter.mpr ⟨also, flying⟩) (List.mem_filter.mpr ⟨inside, sent⟩)
  simp [same] at other

theorem afterRemoval_ok {s : State} (h : s.rep.ok) {e : ReportEntry}
    (flown : e.inFlight = true → ∀ x ∈ s.rep.queue, x.inFlight = false) : (afterRemoval e s).rep.ok := by
  have ⟨short, distinct, _, _, held⟩ := h
  unfold afterRemoval
  split
  case h_1 awaits =>
    split
    case isTrue sent =>
      refine enterIdle_ok ⟨short, distinct, flown sent, Option.not_isSome_iff_eq_none.mp fun running => ?_⟩
      have both := (held running).symm.trans awaits
      cases both
    case isFalse => exact h
  case h_2 holds =>
    refine enterIdle_ok ⟨short, distinct, fun x inside => Bool.eq_false_iff.mpr fun sent => ?_, rfl⟩
    obtain ⟨-, -, -, awaited, -⟩ := h
    have both := holds.symm.trans (awaited x inside sent)
    cases both
  case h_3 waits => exact selectionPass_ok (h.clear (by rw [waits]; decide) (by rw [waits]; decide))
  case h_4 => exact h
  case h_5 => exact h

theorem reportAcked_ok {n : Half} {s : State} (h : s.rep.ok) : (reportAcked n s).rep.ok := by
  cases found : acknowledged s.rep n with
  | none => rwa [reportAcked_none found]
  | some e =>
    obtain ⟨inside, -⟩ := acknowledged_mem found
    have rep := removing_rep s e
    have left : (s.removing e).rep.ok := by
      rw [rep]
      exact h.of_marks (List.filter_sublist.map _) rfl rfl
    rw [reportAcked_some found]
    refine afterRemoval_ok left fun sent => ?_
    rw [rep]
    exact remove_queued h inside sent

/-- R140: a withdrawal reaches the handed frame alone. -/
theorem withdrawHanded_eq (s : State) :
    withdrawHanded s = { s with
      rep := { s.rep with handed := (withdrawHanded s).rep.handed }, port := (withdrawHanded s).port } := by
  unfold withdrawHanded
  split <;> rfl

/-- R144: RADIO_READY's fall returns every entry to QUEUED and stops the holdoff. -/
theorem reportTakesReady_ok {s : State} (h : s.rep.ok) (x : Bool) : (reportTakesReady x s).rep.ok := by
  unfold reportTakesReady
  rw [State.onlyReport_rep]
  dsimp only
  split
  · split
    case isTrue off =>
      have clear := h.clear (by rw [off]; decide) (by rw [off]; decide)
      exact enterIdle_ok ⟨clear.short, clear.distinct, clear.queued, clear.holdoff⟩
    case isFalse => exact h
  · split
    · exact h
    · obtain ⟨short, distinct, -, -, -⟩ := h
      rw [withdrawHanded_eq]
      refine ReportUnit.Clear.ok ⟨?_, ?_, fun e inside => ?_, rfl⟩
      · simpa [ReportUnit.resumeAll, ReportUnit.requeue] using short
      · simpa [ReportUnit.resumeAll, ReportUnit.requeue, Function.comp_def] using distinct
      · obtain ⟨y, also, rfl⟩ := List.mem_map.mp inside
        obtain ⟨z, -, rfl⟩ := List.mem_map.mp also
        rfl

end Sys2Proof.Machine
end

section
/-! PROOFS. Tidy: under one bank, what is within its bounds stays so (R132, R155, R158, R161, R65, R113, R145, R165,
R170). The relation, and the operations every family uses: frames handed over, answers, events. -/

namespace Sys2Proof.Machine

/-! ## The ports' lists (R155, R158, R161) -/

/-- R155, R158, R161: the ports' lists stay within their lengths. -/
def PortUnit.bounded (p : PortUnit) : Prop :=
  p.tankQueue.length ≤ 4 ∧ p.radioPending.length ≤ 4 ∧ p.crewList.length ≤ 8

theorem listsBounded_iff (s : State) : s.listsBounded ↔ s.port.bounded ∧ s.seq.faults.length ≤ 8 := by
  simp only [State.listsBounded, PortUnit.bounded, and_assoc]

namespace PortUnit.bounded

variable {p : PortUnit}

theorem tankBegin (h : p.bounded) : p.tankBegin.bounded := by
  unfold PortUnit.tankBegin
  split <;> exact h

theorem radioBegin (h : p.bounded) : p.radioBegin.bounded := by
  obtain ⟨tank, radio, crew⟩ := h
  unfold PortUnit.radioBegin
  split
  · exact ⟨tank, radio, crew⟩
  · split
    case h_1 waits =>
      rw [waits, List.length_cons] at radio
      exact ⟨tank, by dsimp only; omega, crew⟩
    case h_2 => split <;> exact ⟨tank, radio, crew⟩

theorem crewBegin (h : p.bounded) : p.crewBegin.bounded := by
  obtain ⟨tank, radio, crew⟩ := h
  unfold PortUnit.crewBegin
  split
  · exact ⟨tank, radio, crew⟩
  · split
    case h_1 waits =>
      rw [waits, List.length_cons] at crew
      exact ⟨tank, radio, by dsimp only; omega⟩
    case h_2 => exact ⟨tank, radio, crew⟩

theorem handReply (h : p.bounded) (f : OutFrame) : (p.handReply f).1.bounded := by
  obtain ⟨tank, radio, crew⟩ := h
  unfold PortUnit.handReply
  split
  · exact radioBegin ⟨tank, by simpa using by omega, crew⟩
  · exact ⟨tank, radio, crew⟩

theorem handReport (h : p.bounded) (f : OutFrame) : (p.handReport f).bounded :=
  radioBegin (p := { p with handedReport := some f }) h

theorem handCrew (h : p.bounded) (f : OutFrame) : (p.handCrew f).1.bounded := by
  obtain ⟨tank, radio, crew⟩ := h
  unfold PortUnit.handCrew
  split
  · exact ⟨tank, radio, crew⟩
  case isFalse room =>
    obtain ⟨-, room⟩ := not_or.mp room
    exact crewBegin ⟨tank, radio, by simpa using by omega⟩

theorem hand (h : p.bounded) (o : PortId) (f : OutFrame) : (p.hand o f).1.bounded := by
  cases o
  exacts [h.handReply f, h.handCrew f]

theorem takeReady (h : p.bounded) (x : Bool) : (p.takeReady x).bounded :=
  radioBegin (p := { p with radioReady := if x then .active else .inactive }) h

theorem tankEnd (h : p.bounded) : p.tankEnd.bounded := by
  obtain ⟨tank, radio, crew⟩ := h
  unfold PortUnit.tankEnd
  split
  · exact tankBegin ⟨by simpa using by omega, radio, crew⟩
  · exact ⟨tank, radio, crew⟩

end PortUnit.bounded

/-! ## The contexts (R165, R170) -/

/-- R170: the reads that are answered in several frames. -/
def CommandCode.inFrames (c : CommandCode) : Prop := c = .tableRead ∨ c = .faultRead ∨ c = .holdList

/-- A context replaced by one that has a frame out only for a read of several frames. -/
theorem setCtx_framesOk {c : CommandUnit} (h : c.framesOk) (p : PortId) {x : Context}
    (fits : x.frameOut = true → ∃ e, x.executing = some e ∧ e.code.inFrames) : (c.setCtx p x).framesOk := by
  intro q out
  have port : q = p ∨ q = PortId.other p := by
    cases p <;> cases q <;> simp [PortId.other]
  obtain rfl | rfl := port
  · rw [setCtx_ctx_same] at out ⊢
    exact fits out
  · rw [setCtx_ctx_other] at out ⊢
    exact h _ out

theorem idleCtx_framesOk {s : State} (h : s.cmd.framesOk) (p : PortId) : (s.idleCtx p).cmd.framesOk :=
  setCtx_framesOk h p nofun

theorem holding_executing {s : State} {r : CmdRef} {e : Executing} (held : s.holding r = some e) :
    (s.cmd.ctx r.port).executing = some e := by
  unfold State.holding at held
  split at held
  case h_1 x executing =>
    split at held
    · exact executing.trans held
    · cases held
  case h_2 => cases held

/-! ## Tidy -/

/-- The active bank stays, and each of the bounds that hold still does. -/
structure State.Tidy (s t : State) : Prop where
  bank : t.store.active = s.store.active
  rep : s.rep.ok → t.rep.ok
  port : s.port.bounded → t.port.bounded
  faults : s.seq.faults.length ≤ 8 → t.seq.faults.length ≤ 8
  coulomb : s.batt.coulomb ≤ s.store.active.fullCount → t.batt.coulomb ≤ s.store.active.fullCount
  budget : s.rep.budget ≤ s.store.active.budgetCeiling → t.rep.budget ≤ s.store.active.budgetCeiling
  frames : s.cmd.framesOk → t.cmd.framesOk

namespace State.Tidy

variable {s t u : State}

theorem refl (s : State) : s.Tidy s := ⟨rfl, id, id, id, id, id, id⟩

theorem trans (h : s.Tidy t) (k : t.Tidy u) : s.Tidy u where
  bank := k.bank.trans h.bank
  rep ok := k.rep (h.rep ok)
  port ok := k.port (h.port ok)
  faults ok := k.faults (h.faults ok)
  coulomb ok := h.bank ▸ k.coulomb (h.bank.symm ▸ h.coulomb ok)
  budget ok := h.bank ▸ k.budget (h.bank.symm ▸ h.budget ok)
  frames ok := k.frames (h.frames ok)

end State.Tidy

/-- What the bounds are judged on. -/
structure Desk where
  bank : Bank
  rep : ReportUnit
  tankQueue : List Frame
  radioPending : List OutFrame
  crewList : List OutFrame
  faults : List FaultRecord
  coulomb : Nat
  radio : Context
  crew : Context

/-- The desk of a state. -/
def State.desk (s : State) : Desk :=
  { bank := s.store.active, rep := s.rep, tankQueue := s.port.tankQueue, radioPending := s.port.radioPending,
    crewList := s.port.crewList, faults := s.seq.faults, coulomb := s.batt.coulomb, radio := s.cmd.radio,
    crew := s.cmd.crew }

namespace State.Tidy

variable {s t u : State}

/-- What leaves the desk alone is tidy. -/
theorem of_desk (h : t.desk = s.desk) : s.Tidy t := by
  obtain ⟨bank, rep, tank, radio, crew, faults, coulomb, radioCtx, crewCtx⟩ := Desk.mk.inj h
  have ctx : ∀ p, t.cmd.ctx p = s.cmd.ctx p := by
    intro p
    cases p
    exacts [radioCtx, crewCtx]
  refine ⟨bank, fun ok => rep ▸ ok, fun ok => ?_, fun ok => faults ▸ ok, fun ok => coulomb ▸ ok, fun ok => rep ▸ ok,
    fun ok p out => ?_⟩
  · unfold PortUnit.bounded
    rw [tank, radio, crew]
    exact ok
  · rw [ctx] at out ⊢
    exact ok p out

/-- What is tidy after a change off the desk. -/
theorem after (k : u.Tidy t) (h : u.desk = s.desk) : s.Tidy t := (of_desk h).trans k

/-- What is tidy before a change off the desk. -/
theorem before (h : s.Tidy t) (same : u.desk = t.desk) : s.Tidy u := h.trans (of_desk same)

/-- A change of the Report Unit and the ports alone. -/
theorem of_report (rep : s.rep.ok → t.rep.ok) (port : s.port.bounded → t.port.bounded)
    (budget : s.rep.budget ≤ s.store.active.budgetCeiling → t.rep.budget ≤ s.store.active.budgetCeiling)
    (only : s.onlyReport t = t) : s.Tidy t := by
  rw [← only]
  exact ⟨rfl, rep, port, id, id, budget, id⟩

/-! A mark of the blocks that an operation changes keeps what is tidy under it. -/

theorem onlyReport (h : s.Tidy t) : s.Tidy (s.onlyReport t) := ⟨rfl, h.rep, h.port, id, id, h.budget, id⟩
theorem onlyAnswer (h : s.Tidy t) : s.Tidy (s.onlyAnswer t) := ⟨rfl, id, h.port, id, id, id, h.frames⟩
theorem onlyBattery (h : s.Tidy t) : s.Tidy (s.onlyBattery t) :=
  ⟨rfl, h.rep, h.port, id, h.coulomb, h.budget, h.frames⟩
theorem onlyClose (h : s.Tidy t) : s.Tidy (s.onlyClose t) := ⟨rfl, h.rep, h.port, id, id, h.budget, h.frames⟩
theorem onlyNotice (h : s.Tidy t) : s.Tidy (s.onlyNotice t) :=
  ⟨rfl, h.rep, h.port, id, h.coulomb, h.budget, h.frames⟩
theorem onlyPoles (h : s.Tidy t) : s.Tidy (s.onlyPoles t) := ⟨rfl, h.rep, h.port, id, h.coulomb, h.budget, h.frames⟩
theorem onlySequence (h : s.Tidy t) : s.Tidy (s.onlySequence t) :=
  ⟨rfl, h.rep, h.port, h.faults, h.coulomb, h.budget, h.frames⟩

end State.Tidy

/-! ## Events (R128, R138) -/

/-- The ports' lists stay within their lengths, and the budget does not rise. -/
structure State.Frugal (s t : State) : Prop where
  port : s.port.bounded → t.port.bounded
  budget : t.rep.budget ≤ s.rep.budget

theorem State.Frugal.refl (s : State) : s.Frugal s := ⟨id, Nat.le_refl _⟩

/-- R139: sending debits the budget, and hands over one REPORT frame. -/
theorem sendEntry_frugal (e : ReportEntry) (s : State) : s.Frugal (sendEntry e s) :=
  ⟨fun ok => ok.handReport _, Nat.sub_le _ _⟩

theorem selectionPass_frugal (s : State) : s.Frugal (selectionPass s) := by
  obtain ⟨tx, -, pass⟩ | ⟨e, -, -, -, pass⟩ := selectionPass_cases s
  · rw [pass]
    exact ⟨id, Nat.le_refl _⟩
  · rw [pass]
    exact sendEntry_frugal e s

theorem selectionIfOpen_frugal (s : State) : s.Frugal (selectionIfOpen s) := by
  unfold selectionIfOpen
  split
  exacts [selectionPass_frugal s, .refl s]

/-- What is frugal in the Report Unit and the ports alone, and keeps the queue in order, is tidy. -/
theorem State.Frugal.tidy {s t : State} (h : s.Frugal t) (rep : s.rep.ok → t.rep.ok) (only : s.onlyReport t = t) :
    s.Tidy t := .of_report rep h.port h.budget.trans only

theorem selectionIfOpen_tidy (s : State) : s.Tidy (selectionIfOpen s) :=
  (selectionIfOpen_frugal s).tidy selectionIfOpen_ok (selectionIfOpen_blocks s).symm

/-- R136, R138: an entry placed in a queue that it leaves in order. -/
theorem reporting_tidy {s : State} {r : ReportUnit} (rep : s.rep.ok → r.ok) (budget : r.budget = s.rep.budget)
    (e : ReportEntry) : s.Tidy (s.reporting r e) := by
  unfold State.reporting
  refine State.Tidy.trans (.of_report rep (fun ok => ?_) (fun ok => budget.trans_le ok) rfl) (selectionIfOpen_tidy _)
  dsimp only
  split
  exacts [ok.handCrew _, ok]

theorem raise_tidy (k : EventKind) (body : List Byte) (s : State) : s.Tidy (raise k body s) := by
  cases priority : s.store.active.priority k with
  | none => exact .of_desk (by rw [raise_suppressed priority])
  | some p =>
    by_cases room : s.rep.queue.length < 64
    · rw [raise_room k p body priority room]
      exact reporting_tidy (fun ok => append_ok ok room (freeNumber_free _ room.le) rfl) rfl _
    · have full : 64 ≤ s.rep.queue.length := Nat.not_lt.mp room
      cases gives : displace s.rep.queue p with
      | none =>
        rw [raise_drops k p body priority full gives]
        exact .of_report (·.of_marks (by rw [markLoss_marks]) rfl rfl) id id rfl
      | some q =>
        rw [raise_displaces k p body priority full gives]
        obtain ⟨sub, length⟩ := displace_some gives
        refine reporting_tidy (r := { s.rep with queue := q }.markLoss.append _) (fun ok => ?_) rfl _
        have short : s.rep.queue.length ≤ 64 := ok.1
        have left : ({ s.rep with queue := q } : ReportUnit).markLoss.ok := by
          refine ok.of_marks ?_ rfl rfl
          rw [markLoss_marks]
          exact sub.map _
        have numbers : ({ s.rep with queue := q } : ReportUnit).markLoss.queue.map ReportEntry.number =
            q.map ReportEntry.number := List.map_map
        refine append_ok left ?_ (fun held => ?_) rfl
        · rw [← List.length_map (f := ReportEntry.number), numbers, List.length_map]
          omega
        · rw [numbers] at held
          exact freeNumber_free _ short ((sub.map _).subset held)

/-! ## Answers (R169, R170) -/

theorem sendResult_tidy (p : PortId) (n : Half) (c : Byte) (m : Bool) (r : Option CmdRef) (a : Answer) (s : State) :
    s.Tidy (sendResult p n c m r a s).1 := ⟨rfl, id, fun ok => ok.hand _ _, id, id, id, id⟩

theorem answerAlone_tidy (p : PortId) (n : Half) (c : Byte) (a : Answer) (s : State) :
    s.Tidy (answerAlone p n c a s) := sendResult_tidy ..

theorem idleCtx_tidy (s : State) (p : PortId) : s.Tidy (s.idleCtx p) :=
  ⟨rfl, id, id, id, id, id, fun ok => idleCtx_framesOk ok p⟩

theorem complete_tidy (r : CmdRef) (a : Answer) (s : State) : s.Tidy (complete r a s) := by
  refine State.Tidy.onlyAnswer ?_
  split
  · split
    · exact idleCtx_tidy s _
    · exact (sendResult_tidy ..).trans (idleCtx_tidy _ _)
  · exact .refl s

theorem completeTwo_tidy (r : CmdRef) (x y : List Byte) (s : State) : s.Tidy (completeTwo r x y s) := by
  refine State.Tidy.onlyAnswer ?_
  split
  · exact (sendResult_tidy ..).trans ((sendResult_tidy ..).trans (idleCtx_tidy _ _))
  · exact .refl s

/-- R170: the frames of a read of several frames. -/
theorem handFrames_tidy (r : CmdRef) (e : Executing) (l : List (List Byte)) {s : State}
    (several : s.cmd.framesOk → e.code.inFrames) : s.Tidy (handFrames r e l s) := by
  induction l generalizing s with
  | nil => exact idleCtx_tidy s _
  | cons d rest ih =>
    have handed := sendResult_tidy r.port e.number (CommandCode.code e.code) (!rest.isEmpty) (some r) (.done d) s
    unfold handFrames
    dsimp only
    split
    · exact handed.trans (idleCtx_tidy _ _)
    · split
      · exact handed.trans (ih several)
      · exact handed.trans
          ⟨rfl, id, id, id, id, id, fun ok => setCtx_framesOk ok _ fun _ => ⟨_, rfl, several ok⟩⟩

theorem completeFrames_tidy {r : CmdRef} (l : List (List Byte)) {s : State}
    (several : ∀ e, s.holding r = some e → e.code.inFrames) : s.Tidy (completeFrames r l s) := by
  refine State.Tidy.onlyAnswer ?_
  split
  case h_1 e held => exact handFrames_tidy r e l fun _ => several e held
  case h_2 => exact .refl s

/-- R170: a frame that paces an answer is one of a read of several frames. -/
theorem frameReported_tidy (r : CmdRef) (s : State) : s.Tidy (frameReported r s) := by
  refine State.Tidy.onlyAnswer ?_
  split
  case h_1 e held =>
    split
    case isTrue out =>
      refine handFrames_tidy r e e.rest fun ok => ?_
      obtain ⟨x, executing, several⟩ := ok r.port out
      have same : e = x := Option.some.inj ((holding_executing held).symm.trans executing)
      exact same ▸ several
    case isFalse => exact .refl s
  case h_2 => exact .refl s

end Sys2Proof.Machine
end

section
/-! PROOFS. Tidy: the Battery Unit, the operator close record, the Pole Drive and the Sequence Controller (R65,
R113). -/

namespace Sys2Proof.Machine

/-! ## The Battery Unit (R109 to R120) -/

/-- R109: the entry rule leaves the coulomb count. -/
theorem entry_tidy (s : State) : s.Tidy { s with batt := s.batt.entry s.store.active } :=
  .of_desk (by rw [entry_eq]; rfl)

/-- R111, R113: a stage leaves the coulomb count, or makes it full. -/
theorem Battery.stage_coulomb (bank : Bank) (now : Nat) {b : Battery} (h : b.coulomb ≤ bank.fullCount) :
    (b.stage bank now).coulomb ≤ bank.fullCount := by
  unfold Battery.stage
  split
  · split <;> exact h
  · split
    · exact Nat.le_refl _
    · split <;> exact h
  · split <;> exact h
  · exact h

theorem raiseChargerFault_tidy (c : FaultCondition) (s : State) : s.Tidy (raiseChargerFault c s) := raise_tidy ..

theorem chargerStep_tidy (first : Bool) (s : State) : s.Tidy (chargerStep first s) := by
  have fault : ∀ c, s.Tidy (chargerTakesFault c s) := by
    intro c
    unfold chargerTakesFault
    split
    · exact .of_desk rfl
    · exact .of_desk rfl
    · exact (raiseChargerFault_tidy c { s with batt := { s.batt with charger := .fault } }).after rfl
  unfold chargerStep
  split
  · exact fault _
  · split
    · exact .of_desk rfl
    · split
      exacts [entry_tidy s, .refl s]
    · exact ⟨rfl, id, id, id, Battery.stage_coulomb _ _, id, id⟩

theorem chargerLeavesTest_tidy (s : State) : s.Tidy (chargerLeavesTest s) := by
  unfold chargerLeavesTest
  split
  · exact (raiseChargerFault_tidy _
      { s with batt := { s.batt with charger := .fault, pendingFault := none } }).after rfl
  · exact entry_tidy s

theorem answerTest_tidy (o : TestOrigin) (a : Answer) (s : State) : s.Tidy (answerTest o a s) := by
  cases o
  exacts [.refl s, complete_tidy ..]

theorem startRetry_tidy (o : TestOrigin) (s : State) : s.Tidy (startRetry o s) := by
  unfold startRetry
  split
  exacts [.of_desk rfl, .refl s]

/-- R119, R120: the test's context removed, and the charger out of TEST. -/
theorem testLeft_tidy (r : TestRecord) (s : State) :
    s.Tidy (chargerLeavesTest { s with batt := s.batt.endTest r }) := (chargerLeavesTest_tidy _).after rfl

theorem abortTest_tidy (c : TestCause) (s : State) : s.Tidy (abortTest c s) := by
  refine State.Tidy.onlyBattery ?_
  split
  · exact .refl s
  case h_2 x _ =>
    have told : ∀ r body, s.Tidy (raise .testResult body
        (startRetry x.origin (chargerLeavesTest { s with batt := s.batt.endTest r }))) := fun r _ =>
      (testLeft_tidy r s).trans ((startRetry_tidy _ _).trans (raise_tidy ..))
    dsimp only
    split
    · exact told _ _
    · exact (told _ _).trans (answerTest_tidy ..)

theorem gradeTest_tidy (s : State) : s.Tidy (gradeTest s) := by
  refine State.Tidy.onlyBattery ?_
  split
  · exact .refl s
  case h_2 x _ =>
    have told : ∀ (u : State) due body a, u.Tidy (answerTest x.origin a (raise .testResult body
        { u with batt := { u.batt with nextDue := due, retryWait := none } })) := fun u due body _ =>
      .trans (.after (raise_tidy _ _ { u with batt := { u.batt with nextDue := due, retryWait := none } }) rfl)
        (answerTest_tidy ..)
    exact (testLeft_tidy _ s).trans (told _ _ _ _)

theorem testTakesReading_tidy (s : State) : s.Tidy (testTakesReading s) := by
  unfold testTakesReading
  split
  · exact .refl s
  · dsimp only
    split
    · exact (abortTest_tidy ..).after rfl
    · exact .of_desk rfl

theorem advancedCount_le (full count : Nat) (current : Int) : advancedCount full count current ≤ full := by
  unfold advancedCount limited
  split
  · exact Nat.zero_le _
  · split <;> omega

/-- R113: a reading keeps the coulomb count at or below full. -/
theorem batteryTakesReading_tidy (v c t : Int) (s : State) : s.Tidy (batteryTakesReading v c t s) := by
  refine State.Tidy.onlyBattery (.trans ?_ ((testTakesReading_tidy _).trans (chargerStep_tidy _ _)))
  exact ⟨rfl, id, id, id, fun _ => advancedCount_le .., id, id⟩

theorem batteryTakesAc_tidy (x : Bool) (s : State) : s.Tidy (batteryTakesAc x s) := by
  refine State.Tidy.onlyBattery ?_
  dsimp only
  split
  · exact .of_desk (by rw [entry_eq]; rfl)
  · exact .of_desk rfl
  · exact .of_desk rfl
  · exact .of_desk rfl
  · exact (abortTest_tidy ..).after rfl
  · exact .of_desk rfl
  · exact .of_desk rfl

theorem beginShutdown_tidy (s : State) : s.Tidy (beginShutdown s) :=
  State.Tidy.onlyBattery (.before (.after (raise_tidy .shutdown
    (u16 s.batt.voltage ++ u8 (stateOfCharge s.store.active s.batt) ++ [Bool.byte s.batt.estimated])
    { s with batt := { s.batt with shutdown := .waiting } }) rfl) rfl)

theorem assertShutdown_tidy (s : State) : s.Tidy (assertShutdown s) := by
  unfold assertShutdown
  split
  exacts [.of_desk rfl, .refl s]

theorem testDue_tidy (s : State) : s.Tidy (testDue s) := by
  unfold testDue
  split <;> exact .of_desk rfl

theorem dueTimeReached_tidy (s : State) : s.Tidy (dueTimeReached s) := by
  unfold dueTimeReached
  dsimp only
  split
  · exact .of_desk rfl
  · exact (testDue_tidy _).after rfl

theorem retryWaitEnds_tidy (s : State) : s.Tidy (retryWaitEnds s) := (testDue_tidy _).after rfl

theorem faultClears_tidy (s : State) : s.Tidy (faultClears s) :=
  (entry_tidy { s with batt := { s.batt with faultClear := none } }).after rfl

/-! ## The operator close record (R101 to R105) -/

theorem raiseCloseRefused_tidy (x : Reason) (r : CloseRecord) (s : State) : s.Tidy (raiseCloseRefused x r s) :=
  raise_tidy ..

theorem cancelWarning_tidy (x : Reason) (s : State) : s.Tidy (cancelWarning x s) := by
  refine State.Tidy.onlyClose ?_
  split
  · split
    · refine .trans ?_ (raiseCloseRefused_tidy ..)
      exact (complete_tidy _ _ s.withoutClose.withdrawWarning).after rfl
    · exact .refl s
  · exact .refl s

theorem closeRefused_tidy (x : Reason) (r : CloseRecord) (s : State) : s.Tidy (closeRefused x r s) := by
  refine State.Tidy.onlyClose (.trans ?_ (raiseCloseRefused_tidy ..))
  exact (complete_tidy _ _ s.withoutClose).after rfl

theorem closeEnds_tidy (o : CloseOutcome) (x : PerPole (Option OpOutcome)) (s : State) : s.Tidy (closeEnds o x s) := by
  refine State.Tidy.onlyClose ?_
  split
  · exact (complete_tidy _ _ _).after rfl
  · exact .refl s

theorem tripNotice_tidy (s : State) : s.Tidy (tripNotice s) :=
  .onlyNotice ((abortTest_tidy .trip s).trans (cancelWarning_tidy ..))

/-! ## The Pole Drive (R69 to R87) -/

theorem endOperation_tidy (p : Pole) (c : Bool) (v : Verdict) (s : State) : s.Tidy (endOperation p c v s) := by
  refine State.Tidy.onlyPoles ?_
  split
  · exact .refl s
  · exact (raise_tidy ..).after rfl
  · exact .of_desk rfl
  · have raised : ∀ k body, s.Tidy (raise k body (s.withPole p (s.poleRec p).fail)) := fun _ _ =>
      (raise_tidy ..).after rfl
    exact (raised _ _).before rfl

theorem orderTrip_tidy (p : Pole) (s : State) : s.Tidy (orderTrip p s).1 := (tripNotice_tidy s).trans (.of_desk rfl)

theorem orderTrips_tidy (m : PoleMask) (s : State) : s.Tidy (orderTrips m s).1 := by
  rw [orderTrips_eq_each]
  generalize [Pole.a, .b, .c] = ps
  induction ps generalizing s with
  | nil => exact .refl s
  | cons p ps ih =>
    unfold orderEach
    split
    · exact (orderTrip_tidy p s).trans (ih _)
    · exact ih s

theorem takePosition_tidy (p : Pole) (x : Position) (s : State) : s.Tidy (takePosition p x s).1 := by
  unfold takePosition
  dsimp only
  split
  · dsimp only
    split
    · exact .onlyPoles ((raise_tidy ..).after rfl)
    · exact .of_desk rfl
  · exact (endOperation_tidy ..).after rfl

theorem missedAttempt_tidy (p : Pole) (s : State) : s.Tidy (missedAttempt p s).1 := by
  unfold missedAttempt
  dsimp only
  split
  · exact .of_desk rfl
  · exact endOperation_tidy p false .fails s

theorem tripPulseEnds_tidy (p : Pole) (s : State) : s.Tidy (tripPulseEnds p s).1 := by
  unfold tripPulseEnds
  dsimp only
  split
  · exact .refl s
  · split
    · exact endOperation_tidy ..
    · split
      · exact missedAttempt_tidy p s
      · exact .of_desk rfl

theorem tripWindowExpires_tidy (p : Pole) (s : State) : s.Tidy (tripWindowExpires p s).1 := by
  unfold tripWindowExpires
  dsimp only
  split
  · exact .of_desk rfl
  · exact missedAttempt_tidy p s
  · exact .refl s

theorem gapEnds_tidy (p : Pole) (s : State) : s.Tidy (gapEnds p s) := by
  unfold gapEnds
  dsimp only
  split
  exacts [.of_desk rfl, .refl s]

theorem closePulseEnds_tidy (p : Pole) (s : State) : s.Tidy (closePulseEnds p s).1 := by
  unfold closePulseEnds
  dsimp only
  split
  · exact .refl s
  · split
    · exact endOperation_tidy p true (.completes .success) s
    · split
      · exact endOperation_tidy p true .fails s
      · exact .of_desk rfl

theorem closeWindowExpires_tidy (p : Pole) (s : State) : s.Tidy (closeWindowExpires p s).1 := by
  unfold closeWindowExpires
  dsimp only
  split
  · exact .of_desk rfl
  · exact endOperation_tidy p true .fails s
  · exact .refl s

theorem closeRequest_tidy (m : PoleMask) (s : State) : s.Tidy (closeRequest m s).1 := by
  unfold closeRequest
  dsimp only
  split
  · exact abortTest_tidy .close s
  · exact (abortTest_tidy .close s).trans (.of_desk rfl)

theorem poleTakesReading_tidy (x : Nat) (s : State) : s.Tidy (poleTakesReading x s) := by
  unfold poleTakesReading
  dsimp only
  split
  · exact (raise_tidy ..).after rfl
  · split <;> exact .of_desk rfl

/-! ## Fault records (R65, R66) -/

/-- The Sequence Controller's record replaced by one whose fault list is no longer. -/
theorem withSeq_tidy {s : State} {q : Sequence} (h : q.faults.length ≤ s.seq.faults.length) : s.Tidy (s.withSeq q) :=
  ⟨rfl, id, id, h.trans, id, id, id⟩

theorem updateOpen_length (q : Sequence) (f : FaultRecord → FaultRecord) :
    (q.updateOpen f).faults.length = q.faults.length := by
  rw [updateOpen_faults, List.length_map]

theorem closeRecord_length (q : Sequence) (o : FaultOutcome) (c : Option LockoutCause) :
    (q.closeRecord o c).faults.length = q.faults.length := updateOpen_length _ _

/-- R65: the ninth record takes the place of the oldest. -/
theorem startRecord_tidy (n : Nat) (e : ElementSet) (s : State) : s.Tidy (startRecord n e s) := by
  refine ⟨rfl, id, id, fun ok => ?_, id, id, id⟩
  unfold startRecord
  simp only [State.withSeq, List.length_append, List.length_singleton]
  split
  · rw [List.length_drop]
    omega
  · omega

theorem raiseMaxima_tidy (s : State) : s.Tidy (raiseMaxima s) := by
  unfold raiseMaxima
  split
  · exact withSeq_tidy (updateOpen_length _ _).le
  · exact .refl s

theorem recordSignal_tidy (e : ElementSet) (s : State) : s.Tidy (recordSignal e s) :=
  (withSeq_tidy (updateOpen_length _ _).le).trans (raiseMaxima_tidy _)

/-! ## The Sequence Controller (R45 to R64) -/

theorem enterLockout_tidy (c : LockoutCause) (o : FaultOutcome) (s : State) : s.Tidy (enterLockout c o s) := by
  refine State.Tidy.onlySequence (.trans (t := s.withSeq _) ?_ (raise_tidy ..))
  exact withSeq_tidy (closeRecord_length s.seq o (some c)).le

theorem handCloseOutcome_tidy (o : CloseOutcome) (s : State) : s.Tidy (handCloseOutcome o s) := by
  unfold handCloseOutcome
  split
  · split
    · exact (closeEnds_tidy ..).after rfl
    · exact .refl s
  · exact .refl s

theorem raiseTrip_tidy (m : PoleMask) (n : Nat) (r : Half) (e : ElementSet) (c : Option Nat) (s : State) :
    s.Tidy (raiseTrip m n r e c s) := by
  cases c
  exacts [(raise_tidy ..).after rfl, raise_tidy ..]

theorem reportTrip_tidy (s : State) : s.Tidy (reportTrip s) := by
  unfold reportTrip
  split
  · exact .refl s
  · exact (withSeq_tidy (updateOpen_length _ _).le).trans (raiseTrip_tidy ..)

theorem trippingEnds_tidy (s : State) : s.Tidy (trippingEnds s).1 := by
  unfold trippingEnds
  dsimp only
  split
  · exact (orderTrips_tidy _ _).after rfl
  · split
    · exact (reportTrip_tidy s).trans (enterLockout_tidy ..)
    · exact (reportTrip_tidy s).trans (.of_desk rfl)

theorem endIfSettled_tidy (s : State) : s.Tidy (endIfSettled s).1 := by
  unfold endIfSettled
  split
  exacts [trippingEnds_tidy s, .refl s]

theorem tripCompleted_tidy (p : Pole) (o : OpOutcome) (s : State) : s.Tidy (tripCompleted p o s) := by
  unfold tripCompleted
  dsimp only
  split
  · exact .of_desk rfl
  · split
    · exact (raiseMaxima_tidy _).after rfl
    · exact .of_desk rfl

theorem operatorTripsEnd_tidy (l : List OperatorTrip) (s : State) : s.Tidy (operatorTripsEnd l s) := by
  induction l generalizing s with
  | nil => exact .refl s
  | cons t rest ih =>
    refine .trans ?_ (ih _)
    unfold operatorTripEnds
    dsimp only
    split
    · refine (complete_tidy _ _ _).after ?_
      split <;> rfl
    · split
      exacts [.of_desk rfl, .refl s]

theorem operatorTripsTake_tidy (p : Pole) (o : OpOutcome) (s : State) : s.Tidy (operatorTripsTake p o s) :=
  (operatorTripsEnd_tidy _ _).after rfl

theorem lockoutTripDone_tidy (s : State) : s.Tidy (lockoutTripDone s) := by
  unfold lockoutTripDone
  dsimp only
  split
  · exact (raiseTrip_tidy ..).after rfl
  · exact .refl s

theorem closingEnds_tidy (s : State) : s.Tidy (closingEnds s) := by
  unfold closingEnds
  split
  · exact (enterLockout_tidy ..).trans (handCloseOutcome_tidy ..)
  · exact (handCloseOutcome_tidy ..).after rfl

theorem takeCompletion_tidy (c : Completion) (s : State) : s.Tidy (takeCompletion c s).1 := by
  unfold takeCompletion
  split
  · unfold takeCloseCompletion
    split
    · exact .refl s
    · dsimp only
      split
      · split
        · exact (closingEnds_tidy _).after rfl
        · exact .of_desk rfl
      · exact ((handCloseOutcome_tidy _ _).trans (endIfSettled_tidy _)).after rfl
  · exact (tripCompleted_tidy _ _ s).trans <| (operatorTripsTake_tidy _ _ _).trans <|
      (lockoutTripDone_tidy _).trans (endIfSettled_tidy _)

theorem settle_tidy (n : Nat) (l : List Completion) (s : State) : s.Tidy (settle n l s) := by
  induction n generalizing l s with
  | zero => exact .refl s
  | succ n ih =>
    cases l with
    | nil => exact .refl s
    | cons c rest => exact (takeCompletion_tidy c s).trans (ih _ _)

theorem settled_tidy {s : State} {x : State × List Completion} (h : s.Tidy x.1) : s.Tidy (settled x) :=
  h.trans (settle_tidy ..)

theorem poleEvent_tidy {f : State → State × List Completion} {s : State} (h : s.Tidy (f s).1) :
    s.Tidy (poleEvent f s) := .onlySequence (settled_tidy h)

theorem orderFault_tidy (m : PoleMask) (s : State) : s.Tidy (orderFault m s).1 := (orderTrips_tidy _ _).after rfl

theorem beginShot_tidy (n : Nat) (e : ElementSet) (c : Option EndCause) (s : State) : s.Tidy (beginShot n e c s).1 :=
  (orderFault_tidy _ _).after rfl

theorem takeSignal_tidy (e : ElementSet) (s : State) : s.Tidy (takeSignal e s).1 := by
  have recorded := recordSignal_tidy e s
  have started : ∀ n, s.Tidy (startRecord n e s) := fun n => startRecord_tidy n e s
  unfold takeSignal
  cases s.seq.state with
  | reset => exact (started 1).trans (beginShot_tidy ..)
  | tripping => exact recorded.trans ((orderFault_tidy _ _).after rfl)
  | deadTime => exact recorded.trans ((orderFault_tidy _ _).after rfl)
  | closing =>
    simp only [signalInClosing]
    split
    · exact (started 1).trans (beginShot_tidy ..)
    · exact recorded.trans (beginShot_tidy ..)
  | reclaim =>
    refine .trans ?_ (beginShot_tidy ..)
    split
    exacts [recorded, started _]
  | lockout => exact (orderFault_tidy _ _).after rfl

theorem operationSignal_tidy (e : ElementSet) (s : State) : s.Tidy (operationSignal e s) :=
  .onlySequence ((settled_tidy (takeSignal_tidy e s)).trans (cancelWarning_tidy ..))

/-- R61: an operator trip leaves the fault list. -/
theorem operatorTrip_faults (q : Sequence) : q.operatorTrip.faults = q.faults := by
  unfold Sequence.operatorTrip
  dsimp only
  cases q.state <;> rfl

theorem operatorTrip_tidy (c : Option CmdRef) (o : Option PortId) (m : PoleMask) (s : State) :
    s.Tidy (operatorTrip c o m s) := by
  refine State.Tidy.onlySequence (settled_tidy ?_)
  refine (orderTrips_tidy _ s).trans ((raise_tidy ..).trans (withSeq_tidy ?_))
  exact (congrArg List.length (operatorTrip_faults _)).le

theorem sequenceTakesHold_tidy (k : Nat) (m : PoleMask) (s : State) : s.Tidy (sequenceTakesHold k m s) := by
  unfold sequenceTakesHold
  split
  · exact enterLockout_tidy ..
  · split
    exacts [.refl s, raise_tidy ..]
  · exact .refl s

theorem sequenceTakesLevel_tidy (s : State) : s.Tidy (sequenceTakesLevel s) := by
  unfold sequenceTakesLevel
  split
  exacts [enterLockout_tidy .., .refl s]

theorem deadTimeEnds_tidy (s : State) : s.Tidy (deadTimeEnds s) := by
  have asked : s.Tidy (closeRequest s.seq.ctx.reclose (s.withSeq { s.seq with deadTimer := none })).1 :=
    (closeRequest_tidy ..).after rfl
  refine State.Tidy.onlySequence ?_
  dsimp only
  split
  · exact asked.trans ((raise_tidy ..).trans (enterLockout_tidy ..))
  · exact asked.trans ((raise_tidy ..).after rfl)

theorem reclaimEnds_tidy (s : State) : s.Tidy (reclaimEnds s) := by
  refine .trans (t := s.withSeq _) ?_ (raise_tidy ..)
  exact withSeq_tidy (closeRecord_length s.seq .reclosedOk none).le

theorem decideIfDiscovered_tidy (s : State) : s.Tidy (decideIfDiscovered s) := by
  unfold decideIfDiscovered startDecision
  split
  · dsimp only
    split
    · exact .of_desk rfl
    · split
      · exact .of_desk rfl
      · exact (raise_tidy ..).after rfl
  · exact .refl s

end Sys2Proof.Machine
end

section
/-! PROOFS. Tidy: the Hold Unit, the Report Unit's timers and acknowledgements, the ends of transmission, the Line Unit
and what reaches the part from the cabinet. -/

namespace Sys2Proof.Machine

/-! ## The store and the Hold Unit (R22, R91 to R101) -/

theorem requestWrite_tidy (i : ImageId) (s : State) : s.Tidy (requestWrite i s) := by
  unfold requestWrite
  split
  · cases i <;> exact .of_desk rfl
  · split
    exacts [.refl s, .of_desk rfl]

theorem writeHolds_tidy (c : Option CmdRef) (k : Nat) (s : State) : s.Tidy (writeHolds c k s) := by
  unfold writeHolds
  split
  · exact .refl s
  · refine (requestWrite_tidy .hold _).after ?_
    cases c <;> rfl

theorem consultClose_tidy (k : Nat) (h : Hold) (s : State) : s.Tidy (consultClose k h s) := by
  obtain same | cancelled | ⟨b, event⟩ := consultClose_cases k h s
  · exact .of_desk (by rw [same])
  · rw [cancelled]
    exact .onlyClose (cancelWarning_tidy ..)
  · rw [event]
    exact raise_tidy ..

theorem placeHold_tidy (c : Option CmdRef) (k : Nat) (h : Hold) (s : State) : s.Tidy (placeHold c k h s) := by
  have placed : s.Tidy (raise .holdSet (holdBody k h) (s.withSlot k (some h))) := (raise_tidy ..).after rfl
  have consulted := (placed.trans (consultClose_tidy k h _)).trans (sequenceTakesHold_tidy k h.scope _)
  refine .trans ?_ (writeHolds_tidy c k _)
  exact consulted.before rfl

theorem removeHold_tidy (c : Option CmdRef) (k : Nat) (h : Hold) (s : State) : s.Tidy (removeHold c k h s) := by
  have removed : s.Tidy (raise .holdCleared (holdBody k h) (s.withSlot k none)) := (raise_tidy ..).after rfl
  refine .trans ?_ (writeHolds_tidy c k _)
  exact removed.before rfl

theorem warningEnds_tidy (s : State) : s.Tidy (warningEnds s) := by
  refine State.Tidy.onlySequence ?_
  split
  case h_1 r _ =>
    split
    · have asked : s.Tidy (closeRequest r.mask
          { s with holds := { s.holds with close := some { r with timer := none } } }).1 :=
        (closeRequest_tidy ..).after rfl
      dsimp only
      split
      · exact asked.trans (closeRefused_tidy ..)
      · exact asked.before rfl
    · exact .refl s
  case h_2 => exact .refl s

theorem closeTaken_tidy (r : CmdRef) (n : Half) (m : PoleMask) (s : State) : s.Tidy (closeTaken r n m s) := by
  have told := abortTest_tidy .close s
  unfold closeTaken
  dsimp only
  split
  · refine .trans (.trans ?_ (raise_tidy ..)) (warningEnds_tidy _)
    exact told.before rfl
  · refine .trans ?_ (raise_tidy ..)
    exact told.before rfl

theorem writeComplete_tidy (s : State) : s.Tidy (writeComplete s) := by
  have answers : ∀ (l : List HoldWaiter) (t : State), t.Tidy (answerHoldWaiters l t) := by
    intro l
    induction l with
    | nil => exact .refl
    | cons w rest ih => exact fun t => (complete_tidy ..).trans (ih _)
  have told : ∀ i (t : State), t.Tidy (tellWritten i t) := by
    intro i t
    cases i with
    | settings =>
      show t.Tidy (tellSettingsWritten t)
      unfold tellSettingsWritten
      split
      · exact (complete_tidy _ _ { t with store := { t.store with swapWaiter := none } }).after rfl
      · exact .refl t
    | hold => exact (answers _ { t with holds := { t.holds with
        waiters := t.holds.waiters.filter fun w => !w.covered } }).after rfl
  have next : ∀ t : State, t.Tidy (startNextWrite t) := by
    intro t
    unfold startNextWrite
    split
    case h_1 i rest _ => cases i <;> exact .of_desk rfl
    case h_2 => exact .refl t
  unfold writeComplete
  split
  case h_1 w _ =>
    refine .trans (.after (told _ { s with store := s.store.finishWrite w }) ?_) (next _)
    cases w <;> rfl
  case h_2 => exact .refl s

/-! ## The Report Unit's timers and acknowledgements (R140 to R148) -/

theorem enterIdle_frugal (s : State) : s.Frugal (enterIdle s) :=
  ⟨(selectionPass_frugal { s with rep := { s.rep with tx := .idle } }).port,
    (selectionPass_frugal { s with rep := { s.rep with tx := .idle } }).budget⟩

theorem resend_frugal (e : ReportEntry) (s : State) : s.Frugal (resend e s) := by
  unfold resend
  split
  exacts [sendEntry_frugal e s, enterIdle_frugal s]

theorem unanswered_frugal (e : ReportEntry) (s : State) : s.Frugal (unanswered e s) := by
  unfold unanswered
  split
  · exact resend_frugal e s
  · split
    · obtain ⟨port, budget⟩ := resend_frugal { e with resume := .alternate, allowance := freshAllowance s.store.active }
        { s with rep := s.rep.update e.number fun _ =>
          { e with resume := .alternate, allowance := freshAllowance s.store.active } }
      exact ⟨port, budget⟩
    · exact ⟨id, Nat.le_refl _⟩

theorem ackExpires_tidy (s : State) : s.Tidy (ackExpires s) := by
  refine State.Frugal.tidy ?_ ackExpires_ok rfl
  unfold ackExpires
  split
  · split
    · obtain ⟨port, budget⟩ := unanswered_frugal _ s.requeued
      exact ⟨port, budget⟩
    · exact ⟨id, Nat.le_refl _⟩
  · exact ⟨id, Nat.le_refl _⟩

theorem holdoffExpires_tidy {s : State} (running : s.rep.holdoffTimer.isSome = true) : s.Tidy (holdoffExpires s) := by
  refine State.Frugal.tidy ?_ (fun ok => holdoffExpires_ok ok running) rfl
  obtain ⟨port, budget⟩ := enterIdle_frugal { s with rep := { s.rep with holdoffTimer := none } }
  exact ⟨port, budget⟩

/-- R146: the refill stops at the ceiling. -/
theorem refill_tidy (s : State) : s.Tidy (refill s) := by
  rw [refill_eq]
  refine State.Tidy.trans ?_ (selectionIfOpen_tidy _)
  exact .of_report (fun ok => ok) id (fun _ => Nat.min_le_right _ _) rfl

theorem periodicExpires_tidy (s : State) : s.Tidy (periodicExpires s) := by
  have restarted : ∀ x : Timer, s.Tidy { s with rep := { s.rep with periodicTimer := x } } := fun _ =>
    .of_report (fun ok => ok) id id rfl
  refine State.Tidy.onlyReport ?_
  dsimp only
  split
  · exact restarted _
  · exact (restarted _).trans (raise_tidy ..)

theorem withdrawHanded_tidy (s : State) : s.Tidy (withdrawHanded s) := by
  unfold withdrawHanded
  split
  · exact .of_report (fun ok => ok) (fun ok => ok) id rfl
  · exact .refl s

theorem withdrawOf_tidy (e : ReportEntry) (s : State) : s.Tidy (withdrawOf e s) := by
  unfold withdrawOf
  split
  exacts [withdrawHanded_tidy s, .refl s]

theorem removing_tidy (e : ReportEntry) (s : State) : s.Tidy (s.removing e) := by
  have removed : s.Tidy { s with rep := s.rep.remove e } :=
    .of_report (fun ok => ok.of_marks (List.filter_sublist.map _) rfl rfl) id id rfl
  have withdrawn := removed.trans (withdrawOf_tidy e _)
  unfold State.removing
  split
  · exact withdrawn.trans (assertShutdown_tidy _)
  · exact withdrawn

theorem afterRemoval_frugal (e : ReportEntry) (s : State) : s.Frugal (afterRemoval e s) := by
  unfold afterRemoval
  split
  · split
    · obtain ⟨port, budget⟩ := enterIdle_frugal { s with rep := { s.rep with ackTimer := none } }
      exact ⟨port, budget⟩
    · exact .refl s
  · obtain ⟨port, budget⟩ := enterIdle_frugal { s with rep := { s.rep with holdoffTimer := none } }
    exact ⟨port, budget⟩
  · exact selectionPass_frugal s
  · exact .refl s
  · exact .refl s

theorem reportAcked_tidy (n : Half) (s : State) : s.Tidy (reportAcked n s) := by
  have rep : s.rep.ok → (reportAcked n s).rep.ok := reportAcked_ok
  cases found : acknowledged s.rep n with
  | none => exact .of_desk (by rw [reportAcked_none found])
  | some e =>
    rw [reportAcked_some found] at rep ⊢
    have removed := removing_tidy e s
    have after := afterRemoval_frugal e (s.removing e)
    have blocks := afterRemoval_blocks e (s.removing e)
    have batt : (afterRemoval e (s.removing e)).batt = (s.removing e).batt := (congrArg State.batt blocks).symm
    have cmd : (afterRemoval e (s.removing e)).cmd = (s.removing e).cmd := (congrArg State.cmd blocks).symm
    refine ⟨rfl, rep, fun ok => after.port (removed.port ok), id, fun ok => ?_,
      fun ok => after.budget.trans (removed.budget ok), fun ok => ?_⟩
    · rw [State.onlyBattery_batt, batt]
      exact removed.coulomb ok
    · rw [State.onlyBattery_cmd, cmd]
      exact removed.frames ok

theorem reportTakesReady_tidy (x : Bool) (s : State) : s.Tidy (reportTakesReady x s) := by
  refine State.Frugal.tidy ?_ (reportTakesReady_ok · x) rfl
  unfold reportTakesReady
  dsimp only
  split
  · split
    · exact ⟨fun ok => (enterIdle_frugal _).port ok, (enterIdle_frugal _).budget⟩
    · exact ⟨id, Nat.le_refl _⟩
  · split
    · exact ⟨id, Nat.le_refl _⟩
    · unfold withdrawHanded
      split <;> exact ⟨fun ok => ok, Nat.le_refl _⟩

/-! ## Ends of transmission (R140, R155, R157, R161) -/

theorem frameEnded_tidy (x : FrameTag) (s : State) : s.Tidy (frameEnded x s) := by
  have transmitted : ∀ id, s.Tidy (reportTransmitted id s) := by
    intro id
    unfold reportTransmitted
    split
    · split
      · exact .refl s
      · exact .of_report (fun ok => ok) (fun ok => ok) (fun ok => ok) rfl
    · exact .refl s
  unfold frameEnded
  split
  · exact frameReported_tidy ..
  · exact .refl s
  · exact transmitted _
  · exact .refl s
  · exact .refl s

/-- A change of the ports alone. -/
theorem State.Tidy.of_port {s : State} {p : PortUnit} (h : s.port.bounded → p.bounded) : s.Tidy { s with port := p } :=
  .of_report id h id rfl

theorem radioTxEnds_tidy (s : State) : s.Tidy (radioTxEnds s) := by
  unfold radioTxEnds
  split
  · refine (frameEnded_tidy _ s).trans (.of_port fun ok => PortUnit.bounded.radioBegin ?_)
    exact ok
  · exact .refl s

theorem crewTxEnds_tidy (s : State) : s.Tidy (crewTxEnds s) := by
  unfold crewTxEnds
  split
  · refine (frameEnded_tidy _ s).trans (.of_port fun ok => PortUnit.bounded.crewBegin ?_)
    exact ok
  · exact .refl s

/-! ## The Line Unit (R181 to R184) -/

theorem raiseLineEvent_tidy (i : MaskInput) (x : Bool) (s : State) : s.Tidy (raiseLineEvent i x s) := by
  unfold raiseLineEvent
  split
  exacts [raise_tidy .., .refl s]

theorem lineEffect_tidy (i : MaskInput) (x : Bool) (s : State) : s.Tidy (lineEffect i x s) := by
  refine (raiseLineEvent_tidy i x _).after ?_
  split <;> rfl

theorem lineTakes_tidy (i : MaskInput) (x : Accepted) (s : State) : s.Tidy (lineTakes i x s) := by
  unfold lineTakes
  split
  exacts [lineEffect_tidy .., .refl s]

theorem setMask_tidy (i : MaskInput) (on : Bool) (s : State) : s.Tidy (setMask i on s) := by
  unfold setMask
  dsimp only
  split
  · exact (lineEffect_tidy ..).after rfl
  · exact .of_desk rfl

theorem setMasks_tidy (m : PerMask Bool) (s : State) : s.Tidy (setMasks m s) :=
  (((((setMask_tidy _ _ s).trans (setMask_tidy ..)).trans (setMask_tidy ..)).trans (setMask_tidy ..)).trans
    (setMask_tidy ..)).trans (setMask_tidy ..)

/-! ## Accepted changes (R182) -/

theorem takeContacts_tidy (p : Pole) (s : State) : s.Tidy (takeContacts p s) := by
  unfold takeContacts
  dsimp only
  split
  · exact .refl s
  · exact (poleEvent_tidy (takePosition_tidy p _ s)).trans (decideIfDiscovered_tidy _)

theorem takeLever_tidy (x : Accepted) (s : State) : s.Tidy (takeLever x s) := by
  refine .trans ?_ (lineTakes_tidy ..)
  unfold holdUnitTakesLever
  dsimp only
  split
  · exact (placeHold_tidy ..).after rfl
  · split
    · exact (removeHold_tidy ..).after rfl
    · exact .of_desk rfl

theorem takeManualTrip_tidy (x : Accepted) (s : State) : s.Tidy (takeManualTrip x s) := by
  refine .trans ?_ (lineTakes_tidy ..)
  split
  · exact (operatorTrip_tidy ..).after rfl
  · exact .of_desk rfl

theorem takeDoor_tidy (x : Accepted) (s : State) : s.Tidy (takeDoor x s) := lineTakes_tidy ..

theorem takeAcPresent_tidy (x : Accepted) (s : State) : s.Tidy (takeAcPresent x s) :=
  (batteryTakesAc_tidy x.level s).trans (lineTakes_tidy ..)

theorem takeRadioReady_tidy (x : Accepted) (s : State) : s.Tidy (takeRadioReady x s) :=
  (reportTakesReady_tidy x.level s).trans (.trans (.of_port fun ok => ok.takeReady x.level) (lineTakes_tidy ..))

theorem markDiscard_tidy (s : State) : s.Tidy (markDiscard s) := by
  refine ⟨rfl, id, id, id, id, id, fun ok p => ?_⟩
  cases p
  exacts [ok .radio, ok .crew]

/-- R173: the crew's command ends or runs on without its answer. -/
theorem detachCommand_tidy (s : State) : s.Tidy (detachCommand s) := by
  have close : s.Tidy (detachClose s) := by
    unfold detachClose
    split
    · split
      · exact .trans (t := abortWarning s) (.of_desk rfl) (idleCtx_tidy _ .crew)
      · exact markDiscard_tidy s
    · exact markDiscard_tidy s
  unfold detachCommand
  split
  · exact .refl s
  · split
    · exact idleCtx_tidy s .crew
    · exact (abortTest_tidy .abort s).trans (idleCtx_tidy _ .crew)
    · exact close
    · exact idleCtx_tidy s .crew
    · exact idleCtx_tidy s .crew
    · exact markDiscard_tidy s

theorem reportDropped_tidy (l : List OutFrame) (s : State) : s.Tidy (reportDropped l s) := by
  induction l generalizing s with
  | nil => exact .refl s
  | cons f rest ih => exact (frameEnded_tidy _ s).trans (ih _)

theorem takeCrewPresent_tidy (x : Accepted) (s : State) : s.Tidy (takeCrewPresent x s) := by
  have command : s.Tidy (commandTakesCrew x.level s) := by
    unfold commandTakesCrew
    dsimp only
    split
    · exact .of_desk rfl
    · exact (detachCommand_tidy _).after rfl
  have port : ∀ t : State, t.Tidy (portTakesCrew x.level t) := by
    intro t
    unfold portTakesCrew
    split
    · exact .of_desk rfl
    · refine State.Tidy.trans (.of_port fun ⟨tank, radio, _⟩ => ?_) (reportDropped_tidy _ _)
      exact ⟨tank, radio, Nat.zero_le 8⟩
  refine .trans (command.trans (port _)) (.trans ?_ (lineTakes_tidy ..))
  exact .of_report (fun ok => ok) id id rfl

section
variable (takes : Accepted → State → State)

theorem onChange_tidy (h : ∀ x (t : State), t.Tidy (takes x t)) (x : Option Accepted) (s : State) :
    s.Tidy (onChange takes x s) := by
  cases x with
  | none => exact .refl s
  | some c => exact h c s

theorem changeCabinet_tidy (h : ∀ x (t : State), t.Tidy (takes x t)) (i : MaskInput) (level : Bool) (s : State) :
    s.Tidy (changeCabinet i takes level s) := (onChange_tidy takes h _ _).after rfl

end

theorem onContacts_tidy (p : Pole) (c : Contacts (Option Accepted)) (s : State) : s.Tidy (onContacts p c s) := by
  unfold onContacts
  split
  exacts [takeContacts_tidy p s, .refl s]

theorem changeContacts_tidy (p : Pole) (l : Contacts (Option Bool)) (s : State) : s.Tidy (changeContacts p l s) :=
  (onContacts_tidy _ _ _).after rfl

theorem handOn_tidy (c : Changes) (s : State) : s.Tidy (handOn c s) := by
  have contacts := ((onContacts_tidy .a c.aux.a s).trans (onContacts_tidy .b c.aux.b _)).trans
    (onContacts_tidy .c c.aux.c _)
  have levers := (contacts.trans (onChange_tidy _ takeLever_tidy c.cabinet.holdLever _)).trans
    (onChange_tidy _ takeManualTrip_tidy c.cabinet.manualTrip _)
  have door := levers.trans (onChange_tidy _ takeDoor_tidy c.cabinet.door _)
  have supply := door.trans (onChange_tidy _ takeAcPresent_tidy c.cabinet.acPresent _)
  have crew := supply.trans (onChange_tidy _ takeCrewPresent_tidy c.cabinet.crewPresent _)
  exact crew.trans (onChange_tidy _ takeRadioReady_tidy c.cabinet.radioReady _)

/-! ## Cabinet readings and measurement frames (R108, R115, R24 to R43) -/

theorem levelStep_tidy (s : State) : s.Tidy (levelStep s) := by
  unfold levelStep
  dsimp only
  split
  · exact .refl s
  · have told : ∀ new : SupplyLevel, s.Tidy
        (selectionIfOpen (sequenceTakesLevel { s with batt := { s.batt with level := new } })) := fun new =>
      .trans (.after (sequenceTakesLevel_tidy { s with batt := { s.batt with level := new } }) rfl)
        (selectionIfOpen_tidy _)
    unfold levelChanges
    dsimp only
    split
    · exact (told _).trans ((raise_tidy ..).trans (beginShutdown_tidy _))
    · exact (told _).trans (raise_tidy ..)

theorem readingTaken_tidy (v c : Int) (x : Half) (t : Int) (s : State) : s.Tidy (readingTaken v c x t s) := by
  have read := batteryTakesReading_tidy v c t s
  refine .trans ?_ (poleTakesReading_tidy _ _)
  split
  · exact read
  · exact read.trans (levelStep_tidy _)

theorem measureTaken_tidy (n : Half) (c : PerChannel Sample) (v : PerPole Sample) (s : State) :
    s.Tidy (measureTaken n c v s) := by
  have pickup : ∀ (r : FrameResult) (t : State), t.Tidy (handPickup n r t) := by
    intro r t
    unfold handPickup
    dsimp only
    split
    · split
      · exact (abortTest_tidy .element t).trans (raise_tidy ..)
      · exact abortTest_tidy .element t
    · exact .refl t
  have exception : ∀ (r : FrameResult) (t : State), t.Tidy (handException r t) := by
    intro r t
    unfold handException
    split
    · split
      exacts [raise_tidy .., .refl t]
    · exact .refl t
  have signal : ∀ (r : FrameResult) (t : State), t.Tidy (handSignal r t) := by
    intro r t
    unfold handSignal
    split
    exacts [.refl t, operationSignal_tidy ..]
  have linked : s.Tidy (keepNumber n (restoreLink n s)) := by
    refine State.Tidy.before (t := restoreLink n s) ?_ rfl
    unfold restoreLink
    dsimp only
    split
    · exact .of_desk rfl
    · exact (raise_tidy ..).after rfl
  unfold measureTaken
  dsimp only
  generalize keepNumber n (restoreLink n s) = l at linked ⊢
  refine State.Tidy.trans (t := handPickup n _ _) ?_ ((exception _ _).trans (signal _ _))
  have framed : s.Tidy { l with prot := (frameOf n c v l).prot } := linked.before rfl
  exact framed.trans (pickup _ _)

theorem relayTaken_tidy (p : PortId) (n : Half) (l : List Byte) (s : State) : s.Tidy (relayTaken p n l s) := by
  unfold relayTaken
  split
  · exact answerAlone_tidy ..
  · split
    · exact answerAlone_tidy ..
    · split
      · exact answerAlone_tidy ..
      · split
        · exact answerAlone_tidy ..
        case isFalse room =>
          refine .of_port fun ⟨_, radio, crew⟩ => PortUnit.bounded.tankBegin ⟨?_, radio, crew⟩
          simp only [List.length_append, List.length_singleton]
          omega

theorem replyTaken_tidy (p : PortId) (n : Half) (l : List Byte) (s : State) : s.Tidy (replyTaken p n l s) :=
  .of_port fun ok => ok.hand _ _

end Sys2Proof.Machine
end

section
/-! PROOFS. Tidy and bounded: new banks, a restart and the supply (R18 to R22, R187, R188). A new active bank moves the
bounds of the energy count and of the budget, and both are brought under it. -/

namespace Sys2Proof.Machine

/-- Each of the bounds that hold still does, under the active bank of the time. -/
structure State.Bounded (s t : State) : Prop where
  reports : s.rep.ok → t.rep.ok
  lists : s.listsBounded → t.listsBounded
  counts : s.countsBounded → t.countsBounded
  frames : s.cmd.framesOk → t.cmd.framesOk

namespace State.Bounded

variable {s t u : State}

theorem trans (h : s.Bounded t) (k : t.Bounded u) : s.Bounded u :=
  ⟨k.reports ∘ h.reports, k.lists ∘ h.lists, k.counts ∘ h.counts, k.frames ∘ h.frames⟩

end State.Bounded

/-- What is tidy is bounded: the bounds did not move. -/
theorem State.Tidy.bounded {s t : State} (h : s.Tidy t) : s.Bounded t where
  reports := h.rep
  lists := by
    rw [listsBounded_iff, listsBounded_iff]
    exact fun ⟨port, faults⟩ => ⟨h.port port, h.faults faults⟩
  counts := by
    unfold State.countsBounded
    rw [h.bank]
    exact fun ⟨coulomb, budget⟩ => ⟨h.coulomb coulomb, h.budget budget⟩
  frames := h.frames

theorem State.Bounded.refl (s : State) : s.Bounded s := (State.Tidy.refl s).bounded

/-! ## A new bank (R20) -/

/-- R20, R113: the rescaled count stays within the new bank's full count. -/
theorem takes_coulomb (old new : Bank) (now : Nat) {b : Battery} (fits : b.coulomb ≤ old.fullCount) :
    ((b.rescale old new).reschedule old new now).coulomb ≤ new.fullCount := by
  rw [battery_takes]
  dsimp only
  split
  case isTrue same => simpa only [Bank.fullCount, same] using fits
  case isFalse => exact Nat.div_le_of_le_mul (Nat.mul_le_mul_right _ fits)

theorem takeBank_port (old : Bank) (s : State) :
    (takeBank old s).port = (selectionIfOpen { s with rep := s.rep.takes old s.store.active s.now }).port := by
  unfold takeBank reportTakesBank
  rfl

/-- R20: a part whose store took a new bank brings the count and the budget under it. -/
theorem takeBank_bounded {s u : State} {x : SettingStore} (h : State.Tidy { s with store := x } u)
    (batt : u.batt = s.batt) : s.Bounded (takeBank s.store.active u) := by
  have blocks := takeBank_blocks s.store.active u
  have bank : (takeBank s.store.active u).store.active = u.store.active := congrArg (·.store.active) blocks
  have taken := selectionIfOpen_frugal { u with rep := u.rep.takes s.store.active u.store.active u.now }
  refine ⟨fun ok => ?_, fun ok => ?_, fun ⟨coulomb, _⟩ => ⟨?_, ?_⟩, fun ok => ?_⟩
  · rw [takeBank_rep]
    exact selectionIfOpen_ok (h.rep ok)
  · obtain ⟨port, faults⟩ := (listsBounded_iff s).mp ok
    refine (listsBounded_iff _).mpr ⟨?_, ?_⟩
    · rw [takeBank_port]
      exact taken.port (h.port port)
    · rw [blocks]
      exact h.faults faults
  · rw [bank, blocks]
    dsimp only
    rw [batt]
    exact takes_coulomb _ _ _ coulomb
  · rw [bank, takeBank_rep]
    exact taken.budget.trans (Nat.min_le_right _ _)
  · rw [blocks]
    exact h.frames ok

/-- R19: the exchange of the banks. -/
theorem swapBanks_bounded (r : CmdRef) (s : State) : s.Bounded (swapBanks r s) := by
  have taken : s.Bounded (takeBank s.store.active { s with store := s.store.exchange }) :=
    takeBank_bounded (.refl _) rfl
  unfold swapBanks
  dsimp only
  generalize takeBank s.store.active { s with store := s.store.exchange } = adopted at taken ⊢
  have masked := setMasks_tidy adopted.store.active.lineMasks adopted
  refine taken.trans (State.Tidy.bounded (.trans (.trans ?_ (requestWrite_tidy ..)) (raise_tidy ..)))
  exact masked.before rfl

theorem raiseDefaults_tidy (o : Occasion) (f : Option RestoreFailure) (s : State) : s.Tidy (raiseDefaults o f s) := by
  cases f with
  | none => exact .refl s
  | some x => exact raise_tidy ..

theorem raiseDefaults_batt (o : Occasion) (f : Option RestoreFailure) (s : State) :
    (raiseDefaults o f s).batt = s.batt := by
  cases f <;> rfl

/-! ## The warm restart (R188) -/

theorem bankRestarts_bounded (s : State) : s.Bounded (bankRestarts s) :=
  takeBank_bounded (raiseDefaults_tidy _ _ _) (raiseDefaults_batt _ _ _)

theorem contextsRestart_tidy (r : CmdRef) (s : State) : s.Tidy (contextsRestart r s) :=
  ((complete_tidy r .done s).trans (idleCtx_tidy _ .radio)).trans (idleCtx_tidy _ .crew)

theorem sequenceRestarts_tidy (s : State) : s.Tidy (sequenceRestarts s) := by
  have closed := fun o c => (closeRecord_length s.seq o c).le
  unfold sequenceRestarts
  dsimp only
  split
  · exact withSeq_tidy (closed _ _)
  · split
    · exact withSeq_tidy (closed _ _)
    · refine .trans ?_ (raise_tidy ..)
      exact withSeq_tidy (closed _ _)

theorem warmRestart_bounded (r : CmdRef) (s : State) : s.Bounded (warmRestart r s) := by
  have reloaded := (contextsRestart_tidy r s).bounded.trans (bankRestarts_bounded _)
  unfold warmRestart
  dsimp only
  generalize bankRestarts (contextsRestart r s) = t at reloaded ⊢
  have masked := setMasks_tidy t.store.active.lineMasks t
  generalize setMasks t.store.active.lineMasks t = u at masked ⊢
  have cleared : t.Tidy { u with prot := u.prot.clearElements } := masked.before rfl
  have sequenced := cleared.trans (sequenceRestarts_tidy _)
  refine reloaded.trans (State.Tidy.bounded ?_)
  exact sequenced.before rfl

/-! ## The supply (R187) -/

theorem initial_ok (budget : Nat) (periodic : Timer) : (ReportUnit.initial budget periodic).ok :=
  ⟨Nat.zero_le 64, List.nodup_nil, Nat.zero_le 1, fun _ inside => absurd inside List.not_mem_nil,
    fun running => absurd running Bool.false_ne_true⟩

/-- R187: a cold start finds empty lists, a full budget, half of the full count and no command. -/
theorem coldState_bounded (s : State) (powered : Bool) : s.Bounded (coldState s powered) where
  reports _ := initial_ok ..
  lists _ := ⟨Nat.zero_le _, Nat.zero_le _, Nat.zero_le _, Nat.zero_le _⟩
  counts _ := ⟨Nat.div_le_self _ _, Nat.le_refl _⟩
  frames _ p := by cases p <;> exact nofun

theorem restoreHolds_tidy (s : State) : s.Tidy (restoreHolds s) := by
  unfold restoreHolds
  split
  · exact .of_desk rfl
  · refine .trans ?_ (requestWrite_tidy ..)
    refine State.Tidy.before (t := raise _ _ (s.withSlot 1 (some storeHold))) ?_ rfl
    exact (raise_tidy ..).after rfl

theorem powerUp_bounded (s : State) : s.Bounded (powerUp s) := by
  have raised := (raiseDefaults_tidy .powerOn (restoredBank s.store.nv).2 (coldState s true)).trans
    (restoreHolds_tidy _)
  exact (coldState_bounded s true).trans (raised.trans (raise_tidy ..)).bounded

end Sys2Proof.Machine
end

section
/-! PROOFS. The bounds of the lists, of the counts and of the paced answers, kept by every command and every step (R132,
R155, R158, R161, R65, R113, R145, R165, R170). -/

namespace Sys2Proof.Machine

/-! ## From the owners' work to the commands -/

/-- Every next state of an outcome keeps the bounds. -/
def State.BoundedAlong (s : State) (o : Host.Outcome State Fault Refusal) : Prop := ∀ t, o = .next t → s.Bounded t

theorem run_bounded {s : State} {f : State → State} (h : s.Bounded (f s)) : s.BoundedAlong (run s f) := by
  rintro t ⟨⟩
  split
  exacts [h, .refl s]

theorem run_tidy {s : State} {f : State → State} (h : s.Tidy (f s)) : s.BoundedAlong (run s f) := run_bounded h.bounded

theorem onExpiry_tidy {f : State → Timer} {g : State → State} {s : State}
    (h : (f s).isSome = true → s.Tidy (g s)) : s.BoundedAlong (run s (onExpiry f g)) := by
  refine run_tidy ?_
  unfold onExpiry
  cases timer : f s with
  | none => exact .refl s
  | some e =>
    rw [timer] at h
    split
    exacts [h rfl, .refl s]

theorem arrive_bounded {p : RunPort} {n : Nat} {f : State → State} {s : State} (h : ∀ t : State, t.Bounded (f t)) :
    s.Bounded (arrive p n f s) := by
  unfold arrive
  split
  · refine State.Tidy.bounded (.of_desk ?_)
    cases p <;> rfl
  · refine State.Bounded.trans (State.Tidy.bounded (.of_desk ?_)) (h _)
    cases p <;> rfl

/-- R165: a command taken into its context has no frame out. -/
theorem takeInto_tidy (p : PortId) (n : Half) (c : CommandCode) (s : State) : s.Tidy (takeInto p n c s).1 :=
  ⟨rfl, id, id, id, id, id, fun ok => setCtx_framesOk ok p nofun⟩

/-- What an owner knows of the command it is given. -/
def State.Runs (s : State) (r : CmdRef) (c : CommandCode) : Prop := ∀ e, s.holding r = some e → e.code = c

theorem takeInto_runs (p : PortId) (n : Half) (c : CommandCode) (s : State) :
    (takeInto p n c s).1.Runs (takeInto p n c s).2 c := by
  intro e held
  have executing := holding_executing held
  have taken : ((takeInto p n c s).1.cmd.ctx p).executing = some ⟨c, n, s.cmd.nextSerial, []⟩ := by
    cases p <;> rfl
  cases taken.symm.trans executing
  rfl

section
variable {p : PortId} {n : Half} {c : CommandCode} {owner : CmdRef → State → State} {s : State}

theorem dispatch_bounded (h : ∀ r (t : State), t.Runs r c → t.Bounded (owner r t)) :
    s.Bounded (dispatch p n c owner s) := by
  unfold dispatch
  split
  · exact (answerAlone_tidy ..).bounded
  · split
    · exact (answerAlone_tidy ..).bounded
    · exact (takeInto_tidy p n c s).bounded.trans (h _ _ (takeInto_runs p n c s))

theorem command_bounded (h : ∀ r (t : State), t.Bounded (owner r t)) : s.BoundedAlong (run s (command p n c owner)) :=
  run_bounded (arrive_bounded fun _ => dispatch_bounded fun r t _ => h r t)

theorem command_tidy (h : ∀ r (t : State), t.Tidy (owner r t)) : s.BoundedAlong (run s (command p n c owner)) :=
  command_bounded fun r t => (h r t).bounded

/-- R170: a read of several frames. -/
theorem command_frames (h : ∀ r {t : State}, t.Runs r c → t.Tidy (owner r t)) :
    s.BoundedAlong (run s (command p n c owner)) :=
  run_bounded (arrive_bounded fun _ => dispatch_bounded fun r _ runs => (h r runs).bounded)

end

/-! ## The owners -/

theorem eventsReadTaken_tidy (r : CmdRef) (s : State) : s.Tidy (eventsReadTaken r s) :=
  (complete_tidy r (.done [eventFlagByte (s.line.flags r.port)])
    { s with line := s.line.clearFlags r.port }).after rfl

/-- An answer with the owner's timer started anew (R13). -/
theorem touched_tidy (r : CmdRef) (s : State) :
    s.Tidy { s with store := s.store.touch r.port s.now } := by
  refine .of_desk ?_
  unfold SettingStore.touch
  split <;> rfl

theorem tableLoadTaken_tidy (t x : Byte) (l : List FieldPair) (r : CmdRef) (s : State) :
    s.Tidy (tableLoadTaken t x l r s) := by
  unfold tableLoadTaken
  dsimp only
  split
  · exact complete_tidy ..
  · split
    · exact (complete_tidy ..).after rfl
    · exact (touched_tidy r s).trans (complete_tidy ..)

theorem tableReadTaken_tidy (b t x y z : Byte) {r : CmdRef} {s : State} (runs : s.Runs r .tableRead) :
    s.Tidy (tableReadTaken b t x y z r s) := by
  have frames : ∀ l {u : State}, s.Tidy u → u.cmd = s.cmd → s.Tidy (completeFrames r l u) := by
    intro l u tidy cmd
    refine tidy.trans (completeFrames_tidy l fun e held => .inl (runs e ?_))
    unfold State.holding at held ⊢
    rwa [cmd] at held
  have touched : s.Tidy (if b.toNat = 1 then { s with store := s.store.touch r.port s.now } else s) := by
    split
    exacts [touched_tidy r s, .refl s]
  have cmd : (if b.toNat = 1 then { s with store := s.store.touch r.port s.now } else s).cmd = s.cmd := by
    split <;> rfl
  unfold tableReadTaken
  dsimp only
  split
  · exact frames _ touched cmd
  · exact touched.trans (complete_tidy ..)

theorem bankCopyTaken_tidy (r : CmdRef) (s : State) : s.Tidy (bankCopyTaken r s) := by
  unfold bankCopyTaken
  split
  · exact complete_tidy ..
  · exact (complete_tidy ..).after rfl

theorem bankSwapTaken_bounded (r : CmdRef) (s : State) : s.Bounded (bankSwapTaken r s) := by
  unfold bankSwapTaken
  split
  · exact ((touched_tidy r s).trans (complete_tidy ..)).bounded
  · exact swapBanks_bounded r s

theorem bankReleaseTaken_tidy (r : CmdRef) (s : State) : s.Tidy (bankReleaseTaken r s) := by
  unfold bankReleaseTaken
  split
  · exact complete_tidy ..
  · exact (complete_tidy ..).after rfl

theorem tripTaken_tidy (m : Byte) (r : CmdRef) (s : State) : s.Tidy (tripTaken m r s) := by
  unfold tripTaken
  split
  exacts [operatorTrip_tidy .., complete_tidy ..]

theorem closeCommandTaken_tidy (n : Half) (m : Byte) (r : CmdRef) (s : State) :
    s.Tidy (closeCommandTaken n m r s) := by
  unfold closeCommandTaken
  split
  · split
    exacts [complete_tidy .., closeTaken_tidy ..]
  · exact complete_tidy ..

theorem abortRequest_tidy {e : Executing} {s : State} {x : State × List Byte} (h : abortRequest e s = some x) :
    s.Tidy x.1 := by
  unfold abortRequest at h
  split at h
  · cases h
    exact .refl s
  · cases h
    exact abortTest_tidy .abort s
  · split at h
    · split at h
      · cases h
        exact .of_desk rfl
      · cases h
    · cases h
  · cases h

theorem abortTaken_tidy (p : PortId) (n : Half) (s : State) : s.Tidy (abortTaken p n s) := by
  unfold abortTaken
  split
  · exact answerAlone_tidy ..
  · split
    case h_1 x data asked => exact ((abortRequest_tidy asked).trans (complete_tidy ..)).trans (answerAlone_tidy ..)
    case h_2 => exact answerAlone_tidy ..

theorem holdSetTaken_tidy (t : Half) (x y : Byte) (r : CmdRef) (s : State) : s.Tidy (holdSetTaken t x y r s) := by
  unfold holdSetTaken
  split
  · split
    · exact complete_tidy ..
    · split
      exacts [placeHold_tidy .., complete_tidy ..]
  · exact complete_tidy ..

theorem holdClearTaken_tidy (t : Half) (r : CmdRef) (s : State) : s.Tidy (holdClearTaken t r s) := by
  unfold holdClearTaken
  split
  exacts [removeHold_tidy .., complete_tidy ..]

theorem holdListTaken_tidy {r : CmdRef} {s : State} (runs : s.Runs r .holdList) : s.Tidy (holdListTaken r s) := by
  have answered := completeFrames_tidy (holdListFrames s.freeCount s.now s.holds) fun e held =>
    .inr (.inr (runs e held))
  exact answered.before rfl

theorem flagsTaken_tidy (a : PerFlag Byte) (r : CmdRef) (s : State) : s.Tidy (flagsTaken a r s) := by
  unfold flagsTaken
  split
  · exact (complete_tidy ..).after rfl
  · exact complete_tidy ..

theorem faultReadTaken_tidy (m : Byte) (v : Half) {r : CmdRef} {s : State} (runs : s.Runs r .faultRead) :
    s.Tidy (faultReadTaken m v r s) := by
  unfold faultReadTaken
  split
  · exact completeFrames_tidy _ fun e held => .inr (.inl (runs e held))
  · exact complete_tidy ..

theorem batteryReadTaken_tidy (r : CmdRef) (s : State) : s.Tidy (batteryReadTaken r s) :=
  (completeTwo_tidy r (batteryFirst s) (batterySecond s) s).before rfl

theorem batteryTestTaken_tidy (n : Half) (r : CmdRef) (s : State) : s.Tidy (batteryTestTaken n r s) := by
  unfold batteryTestTaken
  split
  · exact complete_tidy ..
  · split
    exacts [complete_tidy .., .of_desk rfl]

theorem mechResetTaken_tidy (r : CmdRef) (s : State) : s.Tidy (mechResetTaken r s) := by
  unfold mechResetTaken
  split
  · exact complete_tidy ..
  · exact (complete_tidy ..).after rfl

theorem timeSetTaken_tidy (t : Word) (r : CmdRef) (s : State) : s.Tidy (timeSetTaken t r s) := by
  unfold timeSetTaken
  refine State.Tidy.trans ?_ (complete_tidy ..)
  exact (raise_tidy ..).after rfl

theorem inputMaskTaken_tidy (a : PerMask Byte) (r : CmdRef) (s : State) : s.Tidy (inputMaskTaken a r s) := by
  unfold inputMaskTaken
  split
  · exact (setMasks_tidy ..).trans (complete_tidy ..)
  · exact complete_tidy ..

theorem restartTaken_bounded (r : CmdRef) (s : State) : s.Bounded (restartTaken r s) := by
  unfold restartTaken
  split
  · exact (complete_tidy ..).bounded
  · exact warmRestart_bounded r s

/-! ## Every command -/

theorem execMeasure_bounded (n : Half) (c : PerChannel Sample) (v : PerPole Sample) (s : State) :
    s.BoundedAlong (execMeasure n c v s) :=
  run_bounded (arrive_bounded fun t => (measureTaken_tidy n c v t).bounded)

theorem execRelayReply_bounded (n : Half) (l : List Byte) (s : State) : s.BoundedAlong (execRelayReply n l s) := by
  refine run_bounded ?_
  split
  · exact arrive_bounded fun t => (replyTaken_tidy _ n l t).bounded
  · refine State.Tidy.bounded (.of_desk ?_)
    rfl

theorem execRelay_bounded (p : PortId) (n : Half) (l : List Byte) (s : State) :
    s.BoundedAlong (execRelay p n l s) :=
  run_bounded (arrive_bounded fun t => (relayTaken_tidy p n l t).bounded)

theorem execReportAck_bounded (n : Half) (s : State) : s.BoundedAlong (execReportAck n s) :=
  run_bounded (arrive_bounded fun t => (reportAcked_tidy n t).bounded)

theorem execTableLoad_bounded (p : PortId) (n : Half) (t r : Byte) (l : List FieldPair) (s : State) :
    s.BoundedAlong (execTableLoad p n t r l s) := by
  refine run_bounded (arrive_bounded fun u => ?_)
  split
  · exact (answerAlone_tidy ..).bounded
  · exact dispatch_bounded fun c v _ => (tableLoadTaken_tidy t r l c v).bounded

/-- The commands that a COMMAND frame carries. -/
theorem inboundCommand_bounded (i : Instr) {other : Host.Outcome State Fault Refusal} (s : State)
    (h : s.BoundedAlong other) : s.BoundedAlong (inboundCommand i other s) := by
  cases i with
  | status p n => exact command_tidy fun r t => completeTwo_tidy r (statusFirst t) (statusSecond t) t
  | eventsRead p n => exact command_tidy eventsReadTaken_tidy
  | tableLoad p n t r l => exact execTableLoad_bounded p n t r l s
  | tableRead p n b t r x y => exact command_frames fun _ => tableReadTaken_tidy b t r x y
  | bankCopy p n => exact command_tidy bankCopyTaken_tidy
  | bankSwap p n => exact command_bounded bankSwapTaken_bounded
  | bankRelease p n => exact command_tidy bankReleaseTaken_tidy
  | trip p n m => exact command_tidy (tripTaken_tidy m)
  | close p n m => exact command_tidy (closeCommandTaken_tidy n m)
  | abort p n => exact run_bounded (arrive_bounded fun t => (abortTaken_tidy p n t).bounded)
  | holdSet p n t x y => exact command_tidy (holdSetTaken_tidy t x y)
  | holdClear p n t => exact command_tidy (holdClearTaken_tidy t)
  | holdList p n => exact command_frames fun _ => holdListTaken_tidy
  | flags p n a => exact command_tidy (flagsTaken_tidy a)
  | faultRead p n m v => exact command_frames fun _ => faultReadTaken_tidy m v
  | exceptionRead p n => exact command_tidy fun r t => complete_tidy r (.done (exceptionData t.prot)) t
  | batteryRead p n => exact command_tidy batteryReadTaken_tidy
  | batteryTest p n => exact command_tidy (batteryTestTaken_tidy n)
  | mechReset p n => exact command_tidy mechResetTaken_tidy
  | timeSet p n t => exact command_tidy (timeSetTaken_tidy t)
  | inputMask p n a => exact command_tidy (inputMaskTaken_tidy a)
  | restart p n => exact command_bounded restartTaken_bounded
  | _ => exact h

theorem execBadCommand_bounded (p : PortId) (n : Half) (l : List Byte) (s : State) :
    s.BoundedAlong (execBadCommand p n l s) := by
  have bad : s.BoundedAlong (run s (arrive p.run l.length (badCommandTaken p n l))) :=
    run_bounded (arrive_bounded fun t => (answerAlone_tidy p n (receivedCode l) (.plain .badCommand) t).bounded)
  unfold execBadCommand
  dsimp only
  split
  exacts [inboundCommand_bounded _ s bad, bad]

theorem execRunDiscarded_bounded (p : RunPort) (l : List Byte) (s : State) :
    s.BoundedAlong (execRunDiscarded p l s) := by
  have discarded : s.BoundedAlong (run s (State.countDiscarded · p)) := by
    refine run_tidy (.of_desk ?_)
    cases p <;> rfl
  unfold execRunDiscarded
  dsimp only
  split
  · exact discarded
  · exact execMeasure_bounded _ _ _ s
  · exact execRelayReply_bounded _ _ s
  · exact execRelay_bounded _ _ _ s
  · exact execReportAck_bounded _ s
  · exact execBadCommand_bounded _ _ _ s
  · exact inboundCommand_bounded _ s discarded

theorem execLineSample_bounded (x : Inputs Bool) (s : State) : s.BoundedAlong (execLineSample x s) := by
  refine run_tidy ?_
  dsimp only
  split
  · exact (handOn_tidy _ _).after rfl
  · exact .refl s

theorem execCabinetReading_bounded (v c : Int) (x : Half) (t : Int) (s : State) :
    s.BoundedAlong (execCabinetReading v c x t s) := by
  refine run_tidy ?_
  dsimp only
  split
  · exact (readingTaken_tidy v c x t { s with paced := { s.paced with read := true } }).after rfl
  · exact .refl s

theorem linkLost_tidy (s : State) : s.Tidy (linkLost s) := (raise_tidy _ _ { s with prot := s.prot.loseLink }).after rfl

/-- Every command keeps the bounds. -/
theorem exec_bounded (i : Instr) (s : State) : s.BoundedAlong (exec i s) := by
  have inbound : exec i s = inboundCommand i (.next s) s → s.BoundedAlong (exec i s) := by
    intro hi
    rw [hi]
    refine inboundCommand_bounded i s ?_
    rintro t ⟨⟩
    exact .refl s
  cases i with
  | powerOn =>
    rintro t ⟨⟩
    exact powerUp_bounded s
  | measure n c v => exact execMeasure_bounded n c v s
  | relayReply n l => exact execRelayReply_bounded n l s
  | relay p n l => exact execRelay_bounded p n l s
  | reportAck n => exact execReportAck_bounded n s
  | runDiscarded p l => exact execRunDiscarded_bounded p l s
  | badCommand p n l => exact execBadCommand_bounded p n l s
  | auxChange p x => exact run_tidy (changeContacts_tidy p x s)
  | holdLeverChange x => exact run_tidy (changeCabinet_tidy _ takeLever_tidy _ x s)
  | manualTripChange x => exact run_tidy (changeCabinet_tidy _ takeManualTrip_tidy _ x s)
  | doorOpen => exact run_tidy (changeCabinet_tidy _ takeDoor_tidy _ true s)
  | acPresentChange x => exact run_tidy (changeCabinet_tidy _ takeAcPresent_tidy _ x s)
  | crewPresentChange x => exact run_tidy (changeCabinet_tidy _ takeCrewPresent_tidy _ x s)
  | radioReadyChange x => exact run_tidy (changeCabinet_tidy _ takeRadioReady_tidy _ x s)
  | cabinetReading v c x t => exact execCabinetReading_bounded v c x t s
  | deadTimerExpiry => exact onExpiry_tidy fun _ => deadTimeEnds_tidy s
  | reclaimTimerExpiry => exact onExpiry_tidy fun _ => reclaimEnds_tidy s
  | warningTimerExpiry => exact onExpiry_tidy fun _ => warningEnds_tidy s
  | linkTimerExpiry => exact onExpiry_tidy fun _ => linkLost_tidy s
  | ownershipTimerExpiry => exact onExpiry_tidy fun _ => .of_desk rfl
  | tripPulseEnd p => exact onExpiry_tidy fun _ => poleEvent_tidy (tripPulseEnds_tidy p s)
  | tripWindowExpiry p => exact onExpiry_tidy fun _ => poleEvent_tidy (tripWindowExpires_tidy p s)
  | gapTimerExpiry p => exact onExpiry_tidy fun _ => gapEnds_tidy p s
  | closePulseEnd p => exact onExpiry_tidy fun _ => poleEvent_tidy (closePulseEnds_tidy p s)
  | closeWindowExpiry p => exact onExpiry_tidy fun _ => poleEvent_tidy (closeWindowExpires_tidy p s)
  | storeWriteComplete => exact run_tidy (writeComplete_tidy s)
  | ackTimerExpiry => exact onExpiry_tidy fun _ => ackExpires_tidy s
  | holdoffTimerExpiry => exact onExpiry_tidy holdoffExpires_tidy
  | refillTimerExpiry => exact onExpiry_tidy fun _ => refill_tidy s
  | periodicTimerExpiry => exact onExpiry_tidy fun _ => periodicExpires_tidy s
  | durationTimerExpiry => exact onExpiry_tidy fun _ => gradeTest_tidy s
  | nextTestDue => exact onExpiry_tidy fun _ => dueTimeReached_tidy s
  | retryWaitExpiry => exact onExpiry_tidy fun _ => retryWaitEnds_tidy s
  | faultClearTimerExpiry => exact onExpiry_tidy fun _ => faultClears_tidy s
  | shutdownTimerExpiry => exact onExpiry_tidy fun _ => assertShutdown_tidy s
  | alarmEnd => exact onExpiry_tidy fun _ => .of_desk rfl
  | warningRequestEnd => exact onExpiry_tidy fun _ => .of_desk rfl
  | tankTxEnd => exact run_tidy (f := fun s => { s with port := s.port.tankEnd }) (.of_port PortUnit.bounded.tankEnd)
  | radioTxEnd => exact run_tidy (radioTxEnds_tidy s)
  | crewTxEnd => exact run_tidy (crewTxEnds_tidy s)
  | lineSample x => exact execLineSample_bounded x s
  | powerLoss =>
    rintro t ⟨⟩
    split
    exacts [coldState_bounded s false, .refl s]
  | _ => exact inbound rfl

/-! ## Every step -/

theorem tick_tidy (s : State) : s.Tidy (tick s) := by
  have advanced : (advancedBase s).desk = s.desk := by
    unfold advancedBase
    split <;> rfl
  refine .of_desk ?_
  unfold tick queueDue
  dsimp only
  split
  · split <;> exact advanced
  · rfl

theorem step_bounded {s t : State} (h : step s = .next t) : s.Bounded t := by
  unfold step at h
  split at h
  case h_1 c rest _ =>
    have taken : s.Tidy { s with pending := rest } := .of_desk rfl
    exact taken.bounded.trans (exec_bounded c _ t h)
  case h_2 =>
    cases h
    exact (tick_tidy s).bounded

/-- Settles O57: each bound is kept by every step. -/
theorem queuesStayWithinBounds : Obligations.QueuesStayWithinBounds :=
  ⟨fun _ _ ok next => (step_bounded next).reports ok, fun _ _ ok next => (step_bounded next).lists ok,
    fun _ _ ok next => (step_bounded next).counts ok, fun _ _ ok next => (step_bounded next).frames ok⟩

end Sys2Proof.Machine
end
